-- ==== Sys2Proof/Word.lean ====
section
/-! DEFINITION. The widths of the values the GN4408 works on, and the plainest arithmetic on them. -/

namespace Sys2Proof

/-- A byte of the serial line (R154). -/
abbrev Byte := BitVec 8

/-- A gate time: a 32-bit millisecond count that wraps at 2^32 (R184). -/
abbrev Time := BitVec 32

/-- An item number, 64-bit unsigned (00, Conventions). -/
abbrev ItemNo := BitVec 64

/-- An owner code (00, Terms). -/
abbrev Owner := BitVec 16

/-- A media class, 0..15 (02, the tag reply record). -/
abbrev MediaClass := BitVec 4

/-- The body of a link frame: the kind byte and the fields after it (R155). -/
abbrev Body := List Byte

/-- A lane, 0..3. -/
abbrev Lane := Fin 4

/-- A pedestal antenna, A0..A4. -/
abbrev Antenna := Fin 5

/-- An output line, L0..L5. -/
abbrev OutLine := Fin 6

/-- A query slot, 0..3. -/
abbrev SlotNo := Fin 4

/-- One of the thirteen alarm sources (R145). -/
abbrev Source := Fin 13

end Sys2Proof
end

