-- ==== Sys2Proof/Syntax.lean ====
section
/-! DEFINITION. The commands the GN4408 takes, one constructor for each row of spec/opcode_table.json.
A message of the circulation computer carries the bytes of its body after the kind byte, so that every body the line
can bring (a wrong length, a value out of range) is a form of the command. -/

namespace Sys2Proof

/-- The two beams of a lane (01). -/
inductive Beam where
  | inner
  | outer
deriving DecidableEq, Repr

/-- The level of a beam (01, section 1.1). -/
inductive BeamLevel where
  | clear
  | blocked
deriving DecidableEq, Repr

/-- What the front end reports for one slot (02, section 2.1). -/
inductive SlotReport where
  /-- Silence. -/
  | silence
  /-- Undecodable energy. -/
  | energy
  /-- A reply: measured preamble length in quarter microseconds, the bits after the preamble in order of arrival,
  and the raw amplitude. -/
  | reply (preamble : BitVec 10) (bits : List Bool) (amplitude : BitVec 12)
deriving DecidableEq, Repr

/-- The commands: every row of spec/opcode_table.json, in the table's order. -/
inductive Instr where
  /-- POWER_ON (R169), with the levels of speed straps A and B (high is true). -/
  | powerOn (strapA strapB : Bool)
  /-- RESET_PIN (R169), with the levels of speed straps A and B. -/
  | resetPin (strapA strapB : Bool)
  /-- BEAM_RAW_CHANGE (R1): the raw level a beam input now has. -/
  | beamRawChange (lane : Lane) (beam : Beam) (level : BeamLevel)
  /-- BEAM_FILTER_EXPIRY (R1). -/
  | beamFilterExpiry (lane : Lane) (beam : Beam)
  /-- STUCK_TIMER_EXPIRY (R3). -/
  | stuckTimerExpiry (lane : Lane) (beam : Beam)
  /-- KEY_RAW_CHANGE (R6): the raw level the key input now has (pressed is true). -/
  | keyRawChange (pressed : Bool)
  /-- KEY_FILTER_EXPIRY (R6). -/
  | keyFilterExpiry
  /-- PRESENCE_TIMER_EXPIRY (R17) of the passage with this number. -/
  | presenceTimerExpiry (passage : Nat)
  /-- SETTLE_TIMER_EXPIRY (R21) of the passage with this number. -/
  | settleTimerExpiry (passage : Nat)
  /-- FIELD_SETTLE_EXPIRY (R30). -/
  | fieldSettleExpiry
  /-- SLOT_REPORT (R33). -/
  | slotReport (report : SlotReport)
  /-- HOLD_TIMER_EXPIRY (R32). -/
  | holdTimerExpiry
  /-- ROUND_TIMER_EXPIRY (R41). -/
  | roundTimerExpiry
  /-- FIELD_FAULT (R42). -/
  | fieldFault
  /-- FIELD_OFF_ACK (R45). -/
  | fieldOffAck
  /-- BACKGROUND_TIMER_EXPIRY (R58). -/
  | backgroundTimerExpiry
  /-- RETRY_TIMER_EXPIRY (R60). -/
  | retryTimerExpiry (antenna : Antenna)
  /-- READ_MERGE (R69). -/
  | readMerge
  /-- AGE_EXPIRY (R75) of the sighting with this item number. -/
  | ageExpiry (item : ItemNo)
  /-- LOAN_LIFE_END (R108) of the loan list entry with this item number. -/
  | loanLifeEnd (item : ItemNo)
  /-- SLOT_TIMER_EXPIRY (R131). -/
  | slotTimerExpiry (slot : SlotNo)
  /-- ALARM_TIMER_EXPIRY (R140). -/
  | alarmTimerExpiry (lane : Lane)
  /-- PULSE_TIMER_EXPIRY (R148). -/
  | pulseTimerExpiry (line : OutLine)
  /-- TEST_TIMER_EXPIRY (R149). -/
  | testTimerExpiry (line : OutLine)
  /-- BYTE_RECEIVED (R156): the byte, and whether its stop bit was found at the stop level (a byte error where not). -/
  | byteReceived (byte : Byte) (stopBit : Bool)
  /-- GAP_TIMER_EXPIRY (R157). -/
  | gapTimerExpiry
  /-- SILENCE_TIMER_EXPIRY (R159). -/
  | silenceTimerExpiry
  /-- FRAME_LEFT_LINE (R164). -/
  | frameLeftLine
  /-- UNKNOWN_KIND (R170): a frame whose kind code the part does not accept, and the body after that code. -/
  | unknownKind (kind : Byte) (fields : List Byte)
  /-- STATUS_REQ (R185). -/
  | statusReq (fields : List Byte)
  /-- SET (R182). -/
  | set (fields : List Byte)
  /-- GET (R183). -/
  | get (fields : List Byte)
  /-- CLASS_WRITE (R103). -/
  | classWrite (fields : List Byte)
  /-- CLASS_READ (R103). -/
  | classRead (fields : List Byte)
  /-- RATE_WRITE (R48). -/
  | rateWrite (fields : List Byte)
  /-- RATE_READ (R48). -/
  | rateRead (fields : List Byte)
  /-- OWNER_SET (R50). -/
  | ownerSet (fields : List Byte)
  /-- OWNER_READ (R50). -/
  | ownerRead (fields : List Byte)
  /-- ROUTE_SET (R146). -/
  | routeSet (fields : List Byte)
  /-- ROUTE_READ (R146). -/
  | routeRead (fields : List Byte)
  /-- PATTERN_SET (R148). -/
  | patternSet (fields : List Byte)
  /-- ACKNOWLEDGE (R141). -/
  | acknowledge (fields : List Byte)
  /-- LINE_TEST (R149). -/
  | lineTest (fields : List Byte)
  /-- LOAN_ADD (R106). -/
  | loanAdd (fields : List Byte)
  /-- LOAN_DROP (R107). -/
  | loanDrop (fields : List Byte)
  /-- LOAN_CLEAR (R107). -/
  | loanClear (fields : List Byte)
  /-- ANSWER (R128). -/
  | answer (fields : List Byte)
  /-- COUNTS_READ (R186). -/
  | countsRead (fields : List Byte)
  /-- COUNTS_CLEAR (R26). -/
  | countsClear (fields : List Byte)
  /-- STATS_READ (R187). -/
  | statsRead (fields : List Byte)
  /-- STATS_CLEAR (R187). -/
  | statsClear (fields : List Byte)
  /-- RESTART (R168). -/
  | restart (fields : List Byte)
deriving DecidableEq, Repr

end Sys2Proof
end

