-- ==== Sys2Proof/Decode.lean ====
section
/-! DEFINITION. The block has no instruction words: no row of spec/opcode_table.json gives bits, so no word spells a
command. (The byte stream of the serial line is read in Machine/Receive.lean and Machine/Messages.lean.) -/

namespace Sys2Proof

/-- The command that a word spells by the table's bits: none, since the table gives no row any bits (log entry 29). -/
def decodeTableWord (_nbits _w : Nat) : Option Instr := none

end Sys2Proof
end

