-- ==== Sys2Proof/Config.lean ====
section
/-! DEFINITION. The values that are fixed in the part: capacities, fixed durations, counter maxima.
The spec leaves no value open after an event, so no constant here is a free value. -/

namespace Sys2Proof.Config

/-- Field settle time, 2 ms (R181, R29). -/
def fieldSettle : Nat := 2
/-- Hold limit, 20 ms (R181, R31). -/
def holdLimit : Nat := 20
/-- Frames per round (R181, R40). -/
def framesPerRound : Nat := 6
/-- Presence gap, 1000 ms (R181, R16). -/
def presenceGap : Nat := 1000
/-- Presence strength (R181, R16). -/
def presenceStrength : Nat := 20
/-- Antenna retry interval, 10 s (R181, R59). -/
def retryInterval : Nat := 10000
/-- Key filter, 20 ms (R181, R6). -/
def keyFilter : Nat := 20
/-- Inter-byte gap, 20 ms (R181, R156). -/
def byteGap : Nat := 20
/-- One half of a PULSED line's period, 500 ms (R148). -/
def pulseHalf : Nat := 500

/-- Records of the passage table (R18). -/
def maxPassages : Nat := 16
/-- Items of a passage's item list (R18, R94). -/
def maxItems : Nat := 24
/-- Persons of a passage (R12). -/
def maxPersons : Nat := 15
/-- Reads of the intake queue (R47). -/
def maxIntake : Nat := 8
/-- Entries of the sighting table (R67). -/
def maxSightings : Nat := 128
/-- Records of a read history (R68). -/
def maxHistory : Nat := 12
/-- Largest strength (R66). -/
def maxStrength : Nat := 79
/-- Entries of the loan list (R105). -/
def maxLoans : Nat := 512
/-- Notices of the notice queue (R165). -/
def maxNotices : Nat := 8
/-- Reports of the report queue (R166). -/
def maxReports : Nat := 16
/-- Receive buffers (R158). -/
def maxBuffers : Nat := 2
/-- Largest frame exponent (R39). -/
def maxExp : Nat := 7
/-- Largest body length of a frame (R155). -/
def maxBody : Nat := 400

/-- Maximum of a 16-bit counter (R51, R167). -/
def max16 : Nat := 65535
/-- Maximum of a 32-bit count (R25). -/
def max32 : Nat := 4294967295

end Sys2Proof.Config
end

