-- ==== Sys2Proof/Machine/State.lean ====
section
/-! DEFINITION. The state of the GN4408: every piece of state the spec gives its ten blocks, as plain data, and its value
right after power-on. A timer is the gate time of its expiry, or none while it is stopped. -/

namespace Sys2Proof.Machine

/-- Why the part stops: never. The spec gives every event an effect or says that it is discarded (log entry 28). -/
inductive Fault where
deriving DecidableEq, Repr

/-- Why the model gives a command no meaning. -/
inductive Refusal where
  /-- Raised by `exec` alone, for a command without a meaning yet; safe (nothing is claimed of it). No arm raises it now. -/
  | notModelled (mnemonic : String)
deriving DecidableEq, Repr

/-! ### Gate time and parameters (11) -/

/-- What the last reset was (R184). -/
inductive RestartCause where
  | powerOn
  | resetPin
  | restart
deriving DecidableEq, Repr

/-- The parameter store (R181), each value in the unit of R181's table. -/
structure Params where
  /-- LANES -/
  lanes : Nat := 2
  /-- BEAM_FILTER, ms -/
  beamFilter : Nat := 10
  /-- FOLLOW_GAP, ms -/
  followGap : Nat := 250
  /-- BEAM_STUCK, s -/
  beamStuck : Nat := 30
  /-- LEAD_TIME, ms -/
  leadTime : Nat := 400
  /-- SETTLE_TIME, ms -/
  settleTime : Nat := 300
  /-- SIGHT_AGE, ms -/
  sightAge : Nat := 2000
  /-- RESIDENT_TIME, s -/
  residentTime : Nat := 20
  /-- RESIDENT_JUMP, steps -/
  residentJump : Nat := 12
  /-- ATTR_MIN, score -/
  attrMin : Nat := 60
  /-- ROUND_MAX, ms -/
  roundMax : Nat := 40
  /-- BG_INTERVAL, ms -/
  bgInterval : Nat := 100
  /-- START_EXP -/
  startExp : Nat := 3
  /-- QUERY_TIMEOUT, ms -/
  queryTimeout : Nat := 400
  /-- LOAN_LIFE, min -/
  loanLife : Nat := 120
  /-- ALARM_TIME, 100 ms; 0 means 256 -/
  alarmTime : Nat := 30
  /-- ALARM_LATCH -/
  alarmLatch : Bool := false
  /-- SILENCE_LIMIT, s; 0 switches supervision off -/
  silenceLimit : Nat := 5
  /-- TRIM_A0..TRIM_A4, steps -/
  trims : Vector Int 5 := #v[0, 0, 0, 0, 0]
  /-- LANE_MODE_0..LANE_MODE_3: COUNT_ONLY is true -/
  countOnly : Vector Bool 4 := #v[false, false, false, false]
deriving DecidableEq, Repr

/-! ### Beam unit (01, section 1.1) -/

/-- A running filter timer: the gate time of the raw change, and its expiry (R1). -/
structure FilterTimer where
  start : Time
  expiry : Time
deriving DecidableEq, Repr

/-- What the beam unit holds for one beam. -/
structure BeamState where
  raw : BeamLevel
  filtered : BeamLevel
  filter : Option FilterTimer
  stuck : Option Time
  fault : Bool
deriving DecidableEq, Repr

/-- The two beams of a lane. -/
structure LaneBeams where
  inner : BeamState
  outer : BeamState
deriving DecidableEq, Repr

/-- The staff acknowledge key (R6); PRESSED is true. -/
structure KeyState where
  raw : Bool
  filtered : Bool
  filter : Option FilterTimer
deriving DecidableEq, Repr

/-! ### Passage unit (01) -/

/-- The tracker of a lane in service, with the fields present in each state (01, section 1.2). -/
inductive Tracker where
  | clear
  | opening (first : Beam)
  | crossing (first : Beam)
  | leaving (first : Beam) (firstClear : Time)
  | waitClear
  | fault
deriving DecidableEq, Repr

/-- The direction of a closed passage (R18): OUT, IN, NONE, UNKNOWN. -/
inductive Direction where
  | out
  | in_
  | none_
  | unknown
deriving DecidableEq, Repr

/-- The state of a passage record (R18). -/
inductive Phase where
  | open_
  | settling
  | judging
deriving DecidableEq, Repr

/-- The flags of a passage record (R18). -/
structure Flags where
  synthetic : Bool := false
  forced : Bool := false
  overflow : Bool := false
  oneAntenna : Bool := false
  blind : Bool := false
  countOnly : Bool := false
deriving DecidableEq, Repr

/-- The verdicts (06). -/
inductive Verdict where
  | pass
  | alarm
  | notJudged
deriving DecidableEq, Repr

/-- The reasons of verdicts and alarms (R117). -/
inductive Reason where
  | direction
  | exemptClass
  | alwaysClass
  | issuedTag
  | onLoanList
  | notIssued
  | standalone
  | hostIssued
  | hostNotIssued
  | hostUnknown
  | queryTimeout
  | forced
  | overflow
deriving DecidableEq, Repr

/-- A verdict with its reason (R117). -/
structure Ruling where
  verdict : Verdict
  reason : Reason
deriving DecidableEq, Repr

/-- The actions of a class entry (R101). -/
inductive Action where
  | check
  | alwaysAlarm
  | exempt
deriving DecidableEq, Repr

/-- The class entry fields an item record copies (R102). -/
structure ItemClass where
  action : Action
  /-- policy NO_QUERY -/
  noQuery : Bool
  /-- fallback PASS -/
  fallbackPass : Bool
  /-- the Protected field -/
  guarded : Bool
deriving DecidableEq, Repr

/-- An item record (R96). -/
structure Item where
  item : ItemNo
  owner : Owner
  cls : MediaClass
  issued : Bool
  score : Nat
  classFields : Option ItemClass := none
  ruling : Option Ruling := none
  slot : Option SlotNo := none
deriving DecidableEq, Repr

/-- The judging state of a passage in JUDGING (06, section 6.1). -/
structure Judging where
  /-- the alarm mark -/
  mark : Bool
  /-- the number of items without verdict -/
  undecided : Nat
deriving DecidableEq, Repr

/-- A record of the passage table (R18), with its timers and its judging state. -/
structure Passage where
  number : Nat
  lane : Lane
  phase : Phase
  firstBeam : Option Beam
  direction : Option Direction
  persons : Nat
  opened : Time
  closed : Option Time
  flags : Flags
  items : List Item
  /-- the settle timer (R21) -/
  settle : Option Time
  /-- the presence timer of a synthetic passage (R16) -/
  presence : Option Time
  judging : Option Judging
deriving DecidableEq, Repr

/-- The retained counts of a lane (R25). -/
structure LaneCounts where
  personsOut : Nat := 0
  personsIn : Nat := 0
  passagesOut : Nat := 0
  passagesIn : Nat := 0
  passagesNone : Nat := 0
  passagesUnknown : Nat := 0
  withAlarm : Nat := 0
deriving DecidableEq, Repr

/-! ### Transceiver arbiter (03, section 3.1) -/

/-- The label of a grant. -/
inductive GrantLabel where
  | hot
  | background
  | retry
deriving DecidableEq, Repr

/-- A grant of the transceiver (R53). -/
structure Grant where
  antenna : Antenna
  label : GrantLabel
deriving DecidableEq, Repr

/-- A retry timer: stopped, running to its expiry, or expired with the retry due (R60). -/
inductive RetryTimer where
  | stopped
  | running (expiry : Time)
  | due
deriving DecidableEq, Repr

/-- What the arbiter holds for one antenna. -/
structure AntennaState where
  /-- service state OUT_OF_SERVICE -/
  out : Bool := false
  /-- trial mark -/
  trial : Bool := false
  /-- settled in trial -/
  settled : Bool := false
  retry : RetryTimer := .stopped
deriving DecidableEq, Repr

/-! ### Tag link engine (02) -/

/-- The states of the tag link engine (02, section 2.2). -/
inductive Engine where
  | idle
  | fieldSettle
  | frame
  | held
  | closing
deriving DecidableEq, Repr

/-- The end causes of a round (R45). -/
inductive EndCause where
  | quietFrame
  | frameLimit
  | timeLimit
  | holdLimit
  | fieldFault
  | withdrawn
deriving DecidableEq, Repr

/-- An entry of the rate table (02, section 2.3). -/
structure RateEntry where
  enabled : Bool
  nominal : Nat
  tolerance : Nat
  pattern : BitVec 16
deriving DecidableEq, Repr

/-- The owner filter (R38). -/
structure OwnerFilter where
  primaryCode : Owner
  primaryMask : BitVec 16
  secondaryCode : Owner
  secondaryMask : BitVec 16
  secondaryEnable : Bool
  acceptBlank : Bool
deriving DecidableEq, Repr

/-- What the engine holds for the round under way (02, section 2.2). -/
structure Round where
  antenna : Antenna
  label : GrantLabel
  /-- the working frame exponent -/
  exp : Nat
  /-- frames begun -/
  frames : Nat
  /-- the slot of the frame that is open, or that a hold keeps unopened -/
  slot : Nat
  /-- tally of COLLISION and CORRUPT slots -/
  c : Nat
  /-- tally of SINGLE slots -/
  s : Nat
  /-- tally of EMPTY and NOISE slots -/
  e : Nat
  settleTimer : Option Time
  holdTimer : Option Time
  roundTimer : Option Time
  rates : Vector RateEntry 4
  owner : OwnerFilter
  /-- whether a SET of START_EXP has been taken since the grant (R46) -/
  expSet : Bool
  cause : Option EndCause
deriving DecidableEq, Repr

/-- A request of the part to the antenna front end (R28). -/
inductive AirCommand where
  | fieldOn (antenna : Antenna)
  | fieldOff
  | sweep (exp : Nat)
  | next
  | quiet (item : ItemNo)
deriving DecidableEq, Repr

/-- The link counters of an antenna (R51). -/
structure LinkCounters where
  rounds : Nat := 0
  singles : Nat := 0
  collisions : Nat := 0
  corrupt : Nat := 0
  noise : Nat := 0
  foreign : Nat := 0
  holds : Nat := 0
  abandoned : Nat := 0
  fieldFaults : Nat := 0
deriving DecidableEq, Repr

/-- A read of the intake queue (R37). -/
structure Read where
  item : ItemNo
  owner : Owner
  issued : Bool
  cls : MediaClass
  antenna : Antenna
  amplitude : BitVec 12
  time : Time
deriving DecidableEq, Repr

/-! ### Sighting unit (04) -/

/-- A record of a read history (R68). -/
structure HistoryRecord where
  antenna : Antenna
  strength : Nat
  time : Time
deriving DecidableEq, Repr

/-- The state of a sighting, with the fields present in it (R67). -/
inductive SightState where
  | active
  | resident (baseline : Vector Nat 5)
  | claimed (passage : Nat) (direction : Direction)
deriving DecidableEq, Repr

/-- An entry of the sighting table (R67). -/
structure Sighting where
  item : ItemNo
  owner : Owner
  issued : Bool
  cls : MediaClass
  state : SightState
  firstSeen : Time
  lastSeen : Time
  ageExpiry : Time
  history : List HistoryRecord
deriving DecidableEq, Repr

/-! ### Check unit (06, 07) -/

/-- An entry of the class table (R101). -/
structure ClassEntry where
  enabled : Bool
  ownerValue : BitVec 16
  ownerMask : BitVec 16
  prefixValue : BitVec 32
  prefixMask : BitVec 32
  classSet : BitVec 16
  fields : ItemClass
deriving DecidableEq, Repr

/-- An entry of the loan list (R105). -/
structure Loan where
  item : ItemNo
  added : Time
  lifeEnd : Time
deriving DecidableEq, Repr

/-- An item reference: a passage number and a position in its item list (07, section 7.1). -/
structure ItemRef where
  passage : Nat
  position : Nat
deriving DecidableEq, Repr

/-- A query slot in flight: PENDING, or ASKED once its QUERY has begun to leave the line (07, section 7.1). -/
structure Question where
  asked : Bool
  ref : ItemRef
  item : ItemNo
  order : BitVec 32
  timer : Time
  /-- the body of the QUERY, fixed at the taking (R126) -/
  query : Body
deriving DecidableEq, Repr

/-! ### Alarm unit (08) -/

/-- The alarm state of a lane (08, section 8.1). -/
inductive AlarmState where
  | quiet
  | sounding
  | latched
deriving DecidableEq, Repr

/-- What the alarm unit holds for a lane. -/
structure LaneAlarm where
  state : AlarmState := .quiet
  timer : Option Time := none
deriving DecidableEq, Repr

/-- The phase a PULSED line had when a lane's alarm timer expired, kept until gate time next rises (R138, log entry 11). -/
structure Resume where
  lane : Lane
  level : Bool
  pulse : Option Time
deriving DecidableEq, Repr

/-- What the alarm unit holds for an output line (08, section 8.4). -/
structure LineState where
  /-- pattern PULSED -/
  pulsed : Bool := false
  active : Bool := false
  /-- level ON -/
  level : Bool := false
  /-- the pulse timer -/
  pulse : Option Time := none
  /-- the test timer -/
  test : Option Time := none
  resume : Option Resume := none
deriving DecidableEq, Repr

/-! ### Link unit (09) -/

/-- The four line speeds (R154). -/
inductive Speed where
  | b19200
  | b38400
  | b115200
  | b230400
deriving DecidableEq, Repr

/-- The receive states with the bytes they hold (09, section 9.2). -/
inductive Receiver where
  | hunt
  | length (first : Option Byte)
  | body (len : Nat) (got : List Byte)
  | check (len : Nat) (got : List Byte) (first : Option Byte)
deriving DecidableEq, Repr

/-- The frame the transmitter is SENDING (R164), and whether it is the reply to the RESTART that is pending (R168). -/
structure Sending where
  frame : List Byte
  restartReply : Bool
deriving DecidableEq, Repr

/-- The device counters of 11 section 11.6 and R167. -/
structure DeviceCounters where
  evictions : Nat := 0
  unattributed : Nat := 0
  lateAnswers : Nat := 0
  queryTimeouts : Nat := 0
  forcedCompletions : Nat := 0
  loanEvictions : Nat := 0
  framesRejected : Nat := 0
  overruns : Nat := 0
  noticesLost : Nat := 0
  reportsLost : Nat := 0
deriving DecidableEq, Repr

/-! ### The whole state -/

/-- The state of the part, and the queue of commands that wait for it. -/
structure State where
  /-- the commands that wait, first in, first out (the model's own, log entry 23) -/
  pending : List Instr
  gateTime : Time
  restartCause : RestartCause
  params : Params
  beams : Vector LaneBeams 4
  key : KeyState
  /-- none for a lane not in service (R24) -/
  trackers : Vector (Option Tracker) 4
  /-- the passage table, in order of opening -/
  passages : List Passage
  nextPassage : Nat
  counts : Vector LaneCounts 4
  /-- none is FREE -/
  grant : Option Grant
  lastGranted : Option Antenna
  lastBackground : Time
  /-- the background timer; none once it has expired, until the next RETRY or BACKGROUND grant (R58, log entry 21) -/
  bgTimer : Option Time
  antennas : Vector AntennaState 5
  engine : Engine
  round : Option Round
  /-- the antenna that carries field: requested on and not yet requested off (R53) -/
  field : Option Antenna
  /-- what the part has requested of the front end, oldest first (R28, log entry 9) -/
  air : List AirCommand
  storedExp : Vector Nat 5
  rates : Vector RateEntry 4
  owner : OwnerFilter
  linkCounters : Vector LinkCounters 5
  intake : List Read
  /-- the sighting table, by rising item number (log entry 24) -/
  sightings : List Sighting
  classes : Vector ClassEntry 8
  /-- the loan list, oldest first -/
  loans : List Loan
  /-- none is FREE -/
  slots : Vector (Option Question) 4
  waiting : List ItemRef
  nextOrder : BitVec 32
  alarms : Vector LaneAlarm 4
  lines : Vector LineState 6
  routes : Vector (BitVec 6) 13
  speed : Speed
  rx : Receiver
  gap : Option Time
  buffers : List Body
  reply : Option Body
  /-- none is FREE -/
  sending : Option Sending
  notices : List Body
  reports : List Body
  linked : Bool
  silence : Option Time
  restartPending : Bool
  device : DeviceCounters
deriving DecidableEq, Repr

/-! ### After power-on -/

/-- A beam whose input is found clear at a reset (R7). -/
def clearBeam : BeamState := ⟨.clear, .clear, none, none, false⟩

/-- The stock rate table (R49). -/
def stockRates : Vector RateEntry 4 :=
  #v[⟨true, 384, 24, 0xB4E1⟩, ⟨true, 192, 12, 0xB4E1⟩, ⟨false, 0, 0, 0⟩, ⟨false, 0, 0, 0⟩]

/-- The stock owner filter (R50). -/
def stockOwner : OwnerFilter := ⟨0, 0, 0, 0, false, false⟩

/-- The stock class table (R104). -/
def stockClasses : Vector ClassEntry 8 :=
  let none_ : ClassEntry := ⟨false, 0, 0, 0, 0, 0, ⟨.check, false, false, false⟩⟩
  #v[⟨true, 0, 0, 0, 0, 0xFFFF, ⟨.check, false, false, false⟩⟩, none_, none_, none_, none_, none_, none_, none_]

/-- The stock routing table (R151); bit n names line Ln. -/
def stockRoutes : Vector (BitVec 6) 13 :=
  #v[0b010001, 0b000001, 0b100000, 0b010010, 0b000010, 0b100000, 0b010100, 0b000100, 0b100000, 0b011000, 0b001000,
     0b100000, 0b100000]

/-- The lines after power-on: L4 is PULSED, and the STANDALONE source makes L5 active and ON (R151). -/
def stockLines : Vector LineState 6 :=
  #v[{}, {}, {}, {}, { pulsed := true }, { active := true, level := true }]

/-- The machine right after power-on (R7, R27, R49 to R52, R64, R85, R104, R123, R137, R151, R169, R181, R184), with the
beam inputs found clear, the key released and both straps low (log entry 5). -/
def State.reset : State where
  pending := []
  gateTime := 0
  restartCause := .powerOn
  params := {}
  beams := #v[⟨clearBeam, clearBeam⟩, ⟨clearBeam, clearBeam⟩, ⟨clearBeam, clearBeam⟩, ⟨clearBeam, clearBeam⟩]
  key := ⟨false, false, none⟩
  trackers := #v[some .clear, some .clear, none, none]
  passages := []
  nextPassage := 1
  counts := #v[{}, {}, {}, {}]
  grant := none
  lastGranted := none
  lastBackground := 0
  bgTimer := some 100
  antennas := #v[{}, {}, {}, {}, {}]
  engine := .closing
  round := none
  field := none
  air := [.fieldOff]
  storedExp := #v[3, 3, 3, 3, 3]
  rates := stockRates
  owner := stockOwner
  linkCounters := #v[{}, {}, {}, {}, {}]
  intake := []
  sightings := []
  classes := stockClasses
  loans := []
  slots := #v[none, none, none, none]
  waiting := []
  nextOrder := 1
  alarms := #v[{}, {}, {}, {}]
  lines := stockLines
  routes := stockRoutes
  speed := .b19200
  rx := .hunt
  gap := none
  buffers := []
  reply := none
  sending := none
  notices := []
  reports := []
  linked := false
  silence := none
  restartPending := false
  device := {}

end Sys2Proof.Machine
end

