-- ==== Sys2Proof/Machine/Ops.lean ====
section
/-! DEFINITION. The named operations shared by all blocks: gate time and timers, saturating counters, and the one place
where each table of the state is read or written. -/

namespace Sys2Proof.Machine

/-! ### Gate time (R184) -/

/-- Whether the gate time `e` has come by the gate time `now`: the elapsed time now − e, modulo 2^32, is less than 2^31. -/
def due (now e : Time) : Bool := (now - e).toNat < 2 ^ 31

/-- Whether one gate time is before another (R184). -/
def before (a b : Time) : Bool := a != b && due b a

/-- The gate time `ms` milliseconds after `t`. -/
def after (t : Time) (ms : Nat) : Time := t + BitVec.ofNat 32 ms

/-- The elapsed time from `a` to `b`, modulo 2^32 (R184). -/
def elapsed (a b : Time) : Nat := (b - a).toNat

/-- The interval between two stamps: zero when the later-issued one lies before the earlier-issued one (R2). -/
def stampInterval (first second : Time) : Nat := if before second first then 0 else elapsed first second

/-- Whether a timer is running and its time has come (log entry 2). -/
def fires (timer : Option Time) (now : Time) : Bool :=
  match timer with
  | some e => due now e
  | none => false

/-! ### Counters (R187) -/

/-- A counter's value after a rise by `n`, saturating at `max`. -/
def satAdd (max x n : Nat) : Nat := min (x + n) max

/-- A 16-bit counter's value after a rise by 1. -/
def bump (x : Nat) : Nat := satAdd Config.max16 x 1

/-- A 32-bit count's value after a rise by `n`. -/
def raise (x n : Nat) : Nat := satAdd Config.max32 x n

/-! ### Vectors -/

/-- A vector with the entry at `i` changed by `f`. -/
def modAt {α : Type} {n : Nat} (v : Vector α n) (i : Fin n) (f : α → α) : Vector α n := v.set i (f v[i])

/-- A vector of six entries from a function of the line. -/
def perLine {α : Type} (f : OutLine → α) : Vector α 6 := #v[f 0, f 1, f 2, f 3, f 4, f 5]

/-- A vector of four entries from a function of the lane. -/
def perLane {α : Type} (f : Lane → α) : Vector α 4 := #v[f 0, f 1, f 2, f 3]

/-- All lanes, in order. -/
def allLanes : List Lane := [0, 1, 2, 3]
/-- All antennas, in order. -/
def allAntennas : List Antenna := [0, 1, 2, 3, 4]
/-- All output lines, in order. -/
def allLines : List OutLine := [0, 1, 2, 3, 4, 5]
/-- All query slots, in order. -/
def allSlots : List SlotNo := [0, 1, 2, 3]
/-- All sources, in order. -/
def allSources : List Source := [0, 1, 2, 3, 4, 5, 6, 7, 8, 9, 10, 11, 12]
/-- Both beams. -/
def allBeams : List Beam := [.inner, .outer]

/-! ### Lanes and antennas in service (00, Conventions) -/

/-- Whether a lane is in service. -/
def State.laneInService (s : State) (k : Lane) : Bool := k.val < s.params.lanes

/-- The antenna Ak of lane k. -/
def nearAntenna (k : Lane) : Antenna := k.castSucc

/-- The antenna Ak+1 of lane k. -/
def farAntenna (k : Lane) : Antenna := k.succ

/-- The lanes beside an antenna: lane a−1 and lane a, where they exist. -/
def lanesBeside (a : Antenna) : List Lane := allLanes.filter fun k => nearAntenna k == a || farAntenna k == a

/-! ### Beams -/

/-- The other beam of a lane. -/
def otherBeam : Beam → Beam
  | .inner => .outer
  | .outer => .inner

/-- What the beam unit holds for a beam. -/
def LaneBeams.get (b : LaneBeams) : Beam → BeamState
  | .inner => b.inner
  | .outer => b.outer

/-- The pair of beams with one of them changed. -/
def LaneBeams.modify (b : LaneBeams) (x : Beam) (f : BeamState → BeamState) : LaneBeams :=
  match x with
  | .inner => { b with inner := f b.inner }
  | .outer => { b with outer := f b.outer }

/-- What the beam unit holds for beam `x` of lane `k`. -/
def State.beam (s : State) (k : Lane) (x : Beam) : BeamState := s.beams[k].get x

/-- The state with beam `x` of lane `k` changed. -/
def State.modBeam (s : State) (k : Lane) (x : Beam) (f : BeamState → BeamState) : State :=
  { s with beams := modAt s.beams k fun b => b.modify x f }

/-- Whether a beam of the lane is in fault. -/
def State.laneHasFault (s : State) (k : Lane) : Bool := s.beams[k].inner.fault || s.beams[k].outer.fault

/-- Whether the filtered levels of both beams of the lane are CLEAR. -/
def State.laneClear (s : State) (k : Lane) : Bool :=
  s.beams[k].inner.filtered == .clear && s.beams[k].outer.filtered == .clear

/-! ### Trackers and passages -/

/-- The state with the tracker of lane `k` set. -/
def State.setTracker (s : State) (k : Lane) (t : Option Tracker) : State :=
  { s with trackers := s.trackers.set k t }

/-- The passage with this number, if it is in the table. -/
def State.passage? (s : State) (n : Nat) : Option Passage := s.passages.find? fun p => p.number == n

/-- The state with the passage of this number changed. -/
def State.modPassage (s : State) (n : Nat) (f : Passage → Passage) : State :=
  { s with passages := s.passages.map fun p => if p.number == n then f p else p }

/-- The state with the record of this number freed (R22). -/
def State.freePassage (s : State) (n : Nat) : State :=
  { s with passages := s.passages.filter fun p => p.number != n }

/-- The lane's OPEN passage (01, section 1.2). -/
def State.openPassage? (s : State) (k : Lane) : Option Passage :=
  s.passages.find? fun p => p.lane == k && p.phase == .open_

/-- The item a reference names. -/
def State.item? (s : State) (r : ItemRef) : Option Item := (s.passage? r.passage).bind fun p => p.items[r.position]?

/-- The state with the item a reference names changed. -/
def State.modItem (s : State) (r : ItemRef) (f : Item → Item) : State :=
  s.modPassage r.passage fun p => { p with items := p.items.modify r.position f }

/-- The state with the retained counts of lane `k` changed. -/
def State.modCounts (s : State) (k : Lane) (f : LaneCounts → LaneCounts) : State :=
  { s with counts := modAt s.counts k f }

/-! ### Antennas, link counters, device counters, lanes' alarms, lines, slots -/

/-- The state with what the arbiter holds for an antenna changed. -/
def State.modAntenna (s : State) (a : Antenna) (f : AntennaState → AntennaState) : State :=
  { s with antennas := modAt s.antennas a f }

/-- The state with the link counters of an antenna changed. -/
def State.modLink (s : State) (a : Antenna) (f : LinkCounters → LinkCounters) : State :=
  { s with linkCounters := modAt s.linkCounters a f }

/-- The state with the device counters changed. -/
def State.modDevice (s : State) (f : DeviceCounters → DeviceCounters) : State := { s with device := f s.device }

/-- The state with the alarm of lane `k` set. -/
def State.setAlarm (s : State) (k : Lane) (a : LaneAlarm) : State := { s with alarms := s.alarms.set k a }

/-- The state with an output line changed. -/
def State.modLine (s : State) (l : OutLine) (f : LineState → LineState) : State := { s with lines := modAt s.lines l f }

/-- The state with a query slot set. -/
def State.setSlot (s : State) (j : SlotNo) (q : Option Question) : State := { s with slots := s.slots.set j q }

/-- The state with a request made to the front end (R28). -/
def State.emit (s : State) (c : AirCommand) : State := { s with air := s.air ++ [c] }

end Sys2Proof.Machine
end

