-- ==== Sys2Proof/Machine/Operands.lean ====
section
/-! DEFINITION. How bytes are read and written: fields of a body (R171), the CRC of R36, link frames (R155), the message
kinds with their codes and lengths (10), and the bodies the part sends (10). -/

namespace Sys2Proof.Machine

/-! ### Fields, most significant byte first (00 Conventions, R171) -/

/-- The number a list of bytes spells, most significant byte first. -/
def beNat (bytes : List Byte) : Nat := bytes.foldl (fun n b => n * 256 + b.toNat) 0

/-- A number as `n` bytes, most significant byte first (modulo 256^n). -/
def toBytes : Nat → Nat → List Byte
  | 0, _ => []
  | n + 1, x => BitVec.ofNat 8 (x / 256 ^ n) :: toBytes n x

/-- The number of `len` bytes at offset `at_` of a list of fields. -/
def fieldNat (fields : List Byte) (at_ len : Nat) : Nat := beNat ((fields.drop at_).take len)

/-- A byte field read as yes when nonzero (R171). -/
def fieldFlag (fields : List Byte) (at_ : Nat) : Bool := fieldNat fields at_ 1 != 0

/-- A yes/no field as it is sent: 0 or 1 (R171). -/
def flagByte (b : Bool) : Byte := if b then 1 else 0

/-- A 16-bit number read as two's complement (R171). -/
def signed16 (n : Nat) : Int := if n < 32768 then n else (n : Int) - 65536

/-- A signed value as two bytes of two's complement. -/
def signedBytes (v : Int) : List Byte := toBytes 2 (v % 65536).toNat

/-- The list cut into pieces of `n` from the front, `k` of them. -/
def pieces {α : Type} (n : Nat) : Nat → List α → List (List α)
  | 0, _ => []
  | k + 1, l => l.take n :: pieces n k (l.drop n)

/-- The item numbers of a LOAN_ADD or LOAN_DROP, in the order of the body (R175). -/
def itemNumbers (fields : List Byte) : List ItemNo :=
  (pieces 8 (fields.length / 8) fields).map fun b => BitVec.ofNat 64 (beNat b)

/-- The pairs of a SET, id and signed value, in message order (R174). -/
def setPairs (fields : List Byte) : List (Nat × Int) :=
  (pieces 3 (fields.length / 3) fields).map fun b => (fieldNat b 0 1, signed16 (fieldNat b 1 2))

/-! ### The CRC (R36) -/

/-- The bits of a byte, most significant first. -/
def byteBits (b : Byte) : List Bool := [7, 6, 5, 4, 3, 2, 1, 0].map fun i => b.getLsbD i

/-- The CRC register after one message bit (R36). -/
def crcBit (r : BitVec 16) (bit : Bool) : BitVec 16 :=
  if bit != r.getLsbD 15 then (r <<< 1) ^^^ 0x1021 else r <<< 1

/-- The CRC of a run of bits, from a register of all ones, with no final inversion (R36). -/
def crcBits (bits : List Bool) : BitVec 16 := bits.foldl crcBit 0xFFFF

/-- The CRC of a run of bytes (R36). -/
def crc (bytes : List Byte) : BitVec 16 := crcBits (bytes.flatMap byteBits)

/-- The number a run of bits spells, first bit most significant (R35, R36). -/
def bitsNat (bits : List Bool) : Nat := bits.foldl (fun n b => n * 2 + b.toNat) 0

/-! ### The line and its frames (R154, R155) -/

/-- The speed the two straps select (R154); high is true. -/
def speedOfStraps (strapA strapB : Bool) : Speed :=
  match strapA, strapB with
  | false, false => .b19200
  | true, false => .b38400
  | false, true => .b115200
  | true, true => .b230400

/-- The bit rate of a speed, in bit/s (R154). -/
def Speed.bitRate : Speed → Nat
  | .b19200 => 19200
  | .b38400 => 38400
  | .b115200 => 115200
  | .b230400 => 230400

/-- The ten bit times of a byte on the line: a start bit, 8 data bits least significant first, a stop bit (R154). -/
def lineBits (b : Byte) : List Bool := false :: (byteBits b).reverse ++ [true]

/-- The mark byte (R155). -/
def mark : Byte := 0xC3

/-- The two check bytes of a frame: the CRC over the length bytes and the body, most significant byte first (R155). -/
def checkBytes (body : Body) : List Byte := toBytes 2 (crc (toBytes 2 body.length ++ body)).toNat

/-- The frame that carries a body (R155). -/
def frameOf (body : Body) : List Byte := mark :: toBytes 2 body.length ++ body ++ checkBytes body

/-! ### Message kinds (10, section 10.1) -/

/-- The kinds the circulation computer may send (R170). -/
inductive Kind where
  | statusReq | set | get | classWrite | classRead | rateWrite | rateRead | ownerSet | ownerRead
  | routeSet | routeRead | patternSet | acknowledge | lineTest | loanAdd | loanDrop | loanClear | answer
  | countsRead | countsClear | statsRead | statsClear | restart
deriving DecidableEq, Repr

/-- The kind's code (10, section 10.1). -/
def Kind.code : Kind → Byte
  | .statusReq => 0x10
  | .set => 0x11
  | .get => 0x12
  | .classWrite => 0x18
  | .classRead => 0x19
  | .rateWrite => 0x1A
  | .rateRead => 0x1B
  | .ownerSet => 0x1C
  | .ownerRead => 0x1D
  | .routeSet => 0x20
  | .routeRead => 0x21
  | .patternSet => 0x22
  | .acknowledge => 0x23
  | .lineTest => 0x24
  | .loanAdd => 0x28
  | .loanDrop => 0x29
  | .loanClear => 0x2A
  | .answer => 0x2C
  | .countsRead => 0x30
  | .countsClear => 0x31
  | .statsRead => 0x32
  | .statsClear => 0x33
  | .restart => 0x3F

/-- The 23 kinds, by rising code. -/
def allKinds : List Kind :=
  [.statusReq, .set, .get, .classWrite, .classRead, .rateWrite, .rateRead, .ownerSet, .ownerRead, .routeSet, .routeRead,
   .patternSet, .acknowledge, .lineTest, .loanAdd, .loanDrop, .loanClear, .answer, .countsRead, .countsClear, .statsRead,
   .statsClear, .restart]

/-- The kind a code names, if the circulation computer may send it (R170). -/
def kindOf (code : Byte) : Option Kind := allKinds.find? fun k => k.code == code

/-- Whether a kind may have `n` bytes after its kind byte; the body length of R172 less 1. -/
def Kind.lengthOk (k : Kind) (n : Nat) : Bool :=
  match k with
  | .set => n % 3 == 0 && 1 ≤ n / 3 && n / 3 ≤ 20
  | .get => 1 ≤ n && n ≤ 20
  | .classWrite => n == 20
  | .classRead | .rateRead | .routeRead | .acknowledge => n == 1
  | .rateWrite => n == 7
  | .ownerSet => n == 10
  | .routeSet | .patternSet | .lineTest => n == 2
  | .loanAdd | .loanDrop => n % 8 == 0 && 1 ≤ n / 8 && n / 8 ≤ 16
  | .answer => n == 10
  | .countsClear => n ≤ 1
  | .statusReq | .ownerRead | .loanClear | .countsRead | .statsRead | .statsClear | .restart => n == 0

/-- The result codes of a REPLY (R162). -/
inductive Result where
  | ok
  | clamped
  | badKind
  | badLength
  | badIndex
  | busy
deriving DecidableEq, Repr

/-- The result's code (10, section 10.3). -/
def Result.code : Result → Byte
  | .ok => 0
  | .clamped => 1
  | .badKind => 2
  | .badLength => 3
  | .badIndex => 4
  | .busy => 5

/-! ### Codes (R174, R178 to R180) -/

/-- The action's code (R174). -/
def Action.code : Action → Byte
  | .check => 0
  | .alwaysAlarm => 1
  | .exempt => 2

/-- The action a code names (R103). -/
def actionOf : Nat → Option Action
  | 0 => some .check
  | 1 => some .alwaysAlarm
  | 2 => some .exempt
  | _ => none

/-- The reason's code (R180). -/
def Reason.code : Reason → Nat
  | .direction => 1
  | .exemptClass => 2
  | .alwaysClass => 3
  | .issuedTag => 4
  | .onLoanList => 5
  | .notIssued => 6
  | .standalone => 7
  | .hostIssued => 8
  | .hostNotIssued => 9
  | .hostUnknown => 10
  | .queryTimeout => 11
  | .forced => 12
  | .overflow => 13

/-- The verdict's code in a report (10, section 10.8). -/
def Verdict.code : Verdict → Nat
  | .pass => 1
  | .alarm => 2
  | .notJudged => 3

/-- The direction's code in a report (10, section 10.8). -/
def Direction.code : Direction → Nat
  | .out => 0
  | .in_ => 1
  | .none_ => 2
  | .unknown => 3

/-- The beam's code in a FAULT_NOTICE (R179). -/
def beamCode : Beam → Byte
  | .inner => 0
  | .outer => 1

/-- The causes of a FAULT_NOTICE (R179). -/
inductive FaultCause where
  | beamFault
  | beamRecovered
  | antennaFault
  | antennaRecovered
deriving DecidableEq, Repr

/-- The cause's code (R179). -/
def FaultCause.code : FaultCause → Byte
  | .beamFault => 1
  | .beamRecovered => 2
  | .antennaFault => 3
  | .antennaRecovered => 4

/-- The tracker's code in the status block; 0xFF for a lane not in service (R178). -/
def trackerCode : Option Tracker → Byte
  | some .clear => 0
  | some (.opening _) => 1
  | some (.crossing _) => 2
  | some (.leaving _ _) => 3
  | some .waitClear => 4
  | some .fault => 5
  | none => 0xFF

/-- The alarm state's code (R178). -/
def AlarmState.code : AlarmState → Byte
  | .quiet => 0
  | .sounding => 1
  | .latched => 2

/-- The restart cause's code (R178). -/
def RestartCause.code : RestartCause → Byte
  | .powerOn => 0
  | .resetPin => 1
  | .restart => 2

/-! ### Bodies the part sends -/

/-- A REPLY body (R173). -/
def replyBody (kind : Byte) (result : Result) (data : List Byte) : Body := 0x80 :: kind :: result.code :: data

/-- A QUERY body (10, section 10.5). -/
def queryBody (slot : SlotNo) (it : Item) (lane : Lane) (passage : Nat) : Body :=
  [0x81, BitVec.ofNat 8 slot.val] ++ toBytes 8 it.item.toNat ++ toBytes 2 it.owner.toNat
    ++ [BitVec.ofNat 8 it.cls.toNat, BitVec.ofNat 8 lane.val] ++ toBytes 2 passage

/-- An ALARM_NOTICE body; the item number is present when the alarm is an item's verdict (R179). -/
def alarmNoticeBody (lane : Lane) (passage : Nat) (reason : Reason) (item : Option ItemNo) : Body :=
  [0x82, BitVec.ofNat 8 lane.val] ++ toBytes 2 passage ++ [BitVec.ofNat 8 reason.code]
    ++ (match item with
        | some i => toBytes 8 i.toNat
        | none => [])

/-- A FAULT_NOTICE body about a beam (R179). -/
def beamNoticeBody (cause : FaultCause) (lane : Lane) (beam : Beam) : Body :=
  [0x83, cause.code, BitVec.ofNat 8 lane.val, beamCode beam]

/-- A FAULT_NOTICE body about an antenna (R179). -/
def antennaNoticeBody (cause : FaultCause) (a : Antenna) : Body := [0x83, cause.code, BitVec.ofNat 8 a.val, 0]

/-- The flags byte of a report (10, section 10.8). -/
def Flags.code (f : Flags) : Nat :=
  f.synthetic.toNat + f.forced.toNat * 2 + f.overflow.toNat * 4 + f.oneAntenna.toNat * 8 + f.blind.toNat * 16
    + f.countOnly.toNat * 32

/-- The verdict and reason byte of an item in a report; 0 for an item that has none (no report holds one, R180). -/
def rulingCode : Option Ruling → Nat
  | some r => r.verdict.code * 64 + r.reason.code
  | none => 0

/-- An item record of a report (10, section 10.8). -/
def reportItem (it : Item) : List Byte :=
  toBytes 8 it.item.toNat
    ++ [BitVec.ofNat 8 (it.issued.toNat * 128 + it.cls.toNat), BitVec.ofNat 8 it.score,
        BitVec.ofNat 8 (rulingCode it.ruling)]

/-- A PASSAGE_REPORT body, from the record as it stands (R180). An absent direction or closed time, which no completed
record has, is written as 0. -/
def reportBody (p : Passage) : Body :=
  [0x84] ++ toBytes 2 p.number
    ++ [BitVec.ofNat 8 (p.lane.val + (p.direction.map Direction.code).getD 0 * 16), BitVec.ofNat 8 p.persons,
        BitVec.ofNat 8 p.flags.code]
    ++ toBytes 4 p.opened.toNat ++ toBytes 4 (p.closed.getD 0).toNat ++ [BitVec.ofNat 8 p.items.length]
    ++ p.items.flatMap reportItem

end Sys2Proof.Machine
end

