-- ==== Sys2Proof/Machine/Flags.lean ====
section
/-! DEFINITION. The conditions that the spec derives from the state: counted service states and lane conditions (R60, R62),
eligible and hot antennas (R54, R55), the marks of passages (R20), and the activity of the thirteen sources (R145). -/

namespace Sys2Proof.Machine

/-- The condition of a lane (R62). -/
inductive LaneCondition where
  | normal
  | oneAntenna
  | blind
deriving DecidableEq, Repr

/-- The condition's code (R178). -/
def LaneCondition.code : LaneCondition → Byte
  | .normal => 0
  | .oneAntenna => 1
  | .blind => 2

/-- Whether an antenna counts as OUT_OF_SERVICE for every reader outside the arbiter (R60). -/
def State.countedOut (s : State) (a : Antenna) : Bool := s.antennas[a].out || s.antennas[a].trial

/-- The lane's condition, from its two antennas (R62). -/
def State.laneCondition (s : State) (k : Lane) : LaneCondition :=
  match s.countedOut (nearAntenna k), s.countedOut (farAntenna k) with
  | false, false => .normal
  | true, true => .blind
  | _, _ => .oneAntenna

/-- Whether an antenna's index is at most LANES. -/
def State.withinLanes (s : State) (a : Antenna) : Bool := a.val ≤ s.params.lanes

/-- Whether an antenna is eligible (R54). -/
def State.eligible (s : State) (a : Antenna) : Bool := s.withinLanes a && !s.antennas[a].out

/-- Whether a passage makes its antennas hot and competes in attribution: OPEN or SETTLING (R55, R88). -/
def Passage.live (p : Passage) : Bool := p.phase == .open_ || p.phase == .settling

/-- Whether a lane makes its antennas hot (R55). -/
def State.laneHot (s : State) (k : Lane) : Bool :=
  s.laneInService k && (s.passages.any (fun p => p.lane == k && p.live) || s.trackers[k] == some .fault)

/-- Whether an antenna is hot (R55). -/
def State.hot (s : State) (a : Antenna) : Bool := (lanesBeside a).any fun k => s.laneHot k

/-- A passage marked with its lane's condition (R20). -/
def Passage.mark (p : Passage) (c : LaneCondition) : Passage :=
  if p.live then
    match c with
    | .normal => p
    | .oneAntenna => { p with flags := { p.flags with oneAntenna := true } }
    | .blind => { p with flags := { p.flags with blind := true } }
  else p

/-- Every passage marked with its lane's condition (R20). -/
def State.markPassages (s : State) : State :=
  { s with passages := s.passages.map fun p => p.mark (s.laneCondition p.lane) }

/-- The lane of a source below 12, and which of the lane's three sources it is. -/
def sourceLane (n : Source) : Lane := Fin.ofNat 4 (n.val / 3)

/-- Whether a source is active (R145). -/
def State.sourceActive (s : State) (n : Source) : Bool :=
  if n.val = 12 then !s.linked
  else
    let k := sourceLane n
    match n.val % 3 with
    | 0 => s.alarms[k].state == .sounding
    | 1 => s.alarms[k].state == .latched
    | _ => s.laneInService k && (s.trackers[k] == some .fault || s.laneCondition k == .blind)

/-- Whether a source's line set names a line (R146). -/
def State.routed (s : State) (n : Source) (l : OutLine) : Bool := s.routes[n].getLsbD l.val

/-- Whether a line is to be active: a routed source is active, or a line test runs on it (R147, R150). -/
def State.lineDriven (s : State) (l : OutLine) : Bool :=
  s.lines[l].test.isSome || allSources.any fun n => s.routed n l && s.sourceActive n

end Sys2Proof.Machine
end

