-- ==== Sys2Proof/Machine/Params.lean ====
section
/-! DEFINITION. The parameter store: ids, ranges, clamping, reading and storing (R181 to R183). -/

namespace Sys2Proof.Machine

/-- Whether an id names a parameter (R182). -/
def paramIdOk (id : Nat) : Bool := 1 ≤ id && id ≤ 27

/-- The lowest and highest value of a parameter (R181). -/
def paramRange : Nat → Int × Int
  | 1 => (1, 4)
  | 2 => (1, 50)
  | 3 => (100, 1000)
  | 4 => (5, 255)
  | 5 => (0, 1000)
  | 6 => (0, 1000)
  | 7 => (500, 10000)
  | 8 => (5, 600)
  | 9 => (4, 40)
  | 10 => (0, 245)
  | 11 => (10, 100)
  | 12 => (20, 1000)
  | 13 => (0, 7)
  | 14 => (50, 2000)
  | 15 => (1, 1440)
  | 16 => (0, 255)
  | 18 => (0, 60)
  | 19 => (-16, 15)
  | 20 => (-16, 15)
  | 21 => (-16, 15)
  | 22 => (-16, 15)
  | 23 => (-16, 15)
  | _ => (0, 1)

/-- Whether every nonzero value of the parameter is stored as 1: ALARM_LATCH and the lane modes (R182). -/
def paramIsFlag (id : Nat) : Bool := id == 17 || (24 ≤ id && id ≤ 27)

/-- A value brought into its parameter's range (R182). -/
def paramClamp (id : Nat) (v : Int) : Int :=
  if paramIsFlag id then (if v = 0 then 0 else 1) else max (paramRange id).1 (min v (paramRange id).2)

/-- A yes/no value as a number. -/
def flagInt (b : Bool) : Int := if b then 1 else 0

/-- The stored value of a parameter (R183). -/
def Params.get (p : Params) : Nat → Int
  | 1 => p.lanes
  | 2 => p.beamFilter
  | 3 => p.followGap
  | 4 => p.beamStuck
  | 5 => p.leadTime
  | 6 => p.settleTime
  | 7 => p.sightAge
  | 8 => p.residentTime
  | 9 => p.residentJump
  | 10 => p.attrMin
  | 11 => p.roundMax
  | 12 => p.bgInterval
  | 13 => p.startExp
  | 14 => p.queryTimeout
  | 15 => p.loanLife
  | 16 => p.alarmTime
  | 17 => flagInt p.alarmLatch
  | 18 => p.silenceLimit
  | 19 => p.trims[0]
  | 20 => p.trims[1]
  | 21 => p.trims[2]
  | 22 => p.trims[3]
  | 23 => p.trims[4]
  | 24 => flagInt p.countOnly[0]
  | 25 => flagInt p.countOnly[1]
  | 26 => flagInt p.countOnly[2]
  | 27 => flagInt p.countOnly[3]
  | _ => 0

/-- The store with a value, already in range, stored under an id; an id that names no parameter stores nothing. -/
def Params.put (p : Params) (id : Nat) (v : Int) : Params :=
  match id with
  | 1 => { p with lanes := v.toNat }
  | 2 => { p with beamFilter := v.toNat }
  | 3 => { p with followGap := v.toNat }
  | 4 => { p with beamStuck := v.toNat }
  | 5 => { p with leadTime := v.toNat }
  | 6 => { p with settleTime := v.toNat }
  | 7 => { p with sightAge := v.toNat }
  | 8 => { p with residentTime := v.toNat }
  | 9 => { p with residentJump := v.toNat }
  | 10 => { p with attrMin := v.toNat }
  | 11 => { p with roundMax := v.toNat }
  | 12 => { p with bgInterval := v.toNat }
  | 13 => { p with startExp := v.toNat }
  | 14 => { p with queryTimeout := v.toNat }
  | 15 => { p with loanLife := v.toNat }
  | 16 => { p with alarmTime := v.toNat }
  | 17 => { p with alarmLatch := v != 0 }
  | 18 => { p with silenceLimit := v.toNat }
  | 19 => { p with trims := p.trims.set 0 v }
  | 20 => { p with trims := p.trims.set 1 v }
  | 21 => { p with trims := p.trims.set 2 v }
  | 22 => { p with trims := p.trims.set 3 v }
  | 23 => { p with trims := p.trims.set 4 v }
  | 24 => { p with countOnly := p.countOnly.set 0 (v != 0) }
  | 25 => { p with countOnly := p.countOnly.set 1 (v != 0) }
  | 26 => { p with countOnly := p.countOnly.set 2 (v != 0) }
  | 27 => { p with countOnly := p.countOnly.set 3 (v != 0) }
  | _ => p

/-- The ids of all parameters. -/
def paramIds : List Nat := (List.range 27).map (· + 1)

/-- Whether every stored value lies in its range (R181). -/
def Params.inRange (p : Params) : Bool :=
  paramIds.all fun id => decide ((paramRange id).1 ≤ p.get id) && decide (p.get id ≤ (paramRange id).2)

end Sys2Proof.Machine
end

