-- ==== Sys2Proof/Machine/Alarm.lean ====
section
/-! DEFINITION. The alarm unit (08): lane alarms, the activity, level and phase of the output lines, line tests. -/

namespace Sys2Proof.Machine

/-- The load value of an alarm timer, in ms (R139). -/
def Params.alarmLoad (p : Params) : Nat := if p.alarmTime = 0 then 25600 else p.alarmTime * 100

/-- A trigger of a lane's alarm (R138). -/
def State.triggerLane (s : State) (k : Lane) : State :=
  s.setAlarm k ⟨.sounding, some (after s.gateTime s.params.alarmLoad)⟩

/-- A lane made QUIET with its alarm timer stopped (R141, R144). -/
def State.quietLane (s : State) (k : Lane) : State := s.setAlarm k ⟨.quiet, none⟩

/-- The lanes of a set made QUIET together (R141). -/
def State.acknowledgeLanes (s : State) (lanes : Lane → Bool) : State :=
  { s with alarms := perLane fun k => if lanes k then ⟨.quiet, none⟩ else s.alarms[k] }

/-- A line that becomes active at `now`: ON, with its phase from the start (R147). -/
def LineState.start (l : LineState) (now : Time) : LineState :=
  { l with active := true, level := true, pulse := if l.pulsed then some (after now Config.pulseHalf) else none,
           resume := none }

/-- A line handled by how its activity changes (R147). `keeps` says of the phase that a lane's alarm timer expiry has taken at
this moment whether the same lane has been triggered again; a PULSED line then keeps that phase (R138, log entry 11). -/
def LineState.follow (l : LineState) (driven : Bool) (now : Time) (keeps : Resume → Bool) : LineState :=
  match l.active, driven with
  | false, true =>
    match l.resume with
    | some r => if l.pulsed && keeps r then { l.start now with level := r.level, pulse := r.pulse } else l.start now
    | none => l.start now
  | true, false => { l with active := false, level := false, pulse := none, resume := none }
  | _, _ => l

/-- The source that is the ALARM of a lane (R145). -/
def alarmSource (k : Lane) : Source := ⟨3 * k.val, by omega⟩

/-- Whether the lane of a lapsed phase sounds again and drives the line (R138). -/
def State.retriggered (s : State) (l : OutLine) (r : Resume) : Bool :=
  s.routed (alarmSource r.lane) l && s.sourceActive (alarmSource r.lane)

/-- Every line's activity computed afresh (R147), as at the end of each event that may change it. -/
def State.recomputeLines (s : State) : State :=
  { s with lines := perLine fun l => s.lines[l].follow (s.lineDriven l) s.gateTime (s.retriggered l) }

/-- A PULSED line that lane `k`'s alarm timer expiry has made inactive keeps note of its phase for the rest of the moment (R138).
DESIGN CHOICE (log entry 11): only the lane whose expiry made the line inactive is noted; where two lanes on one line expire at
one moment and the one that expired first is triggered again then, the line starts afresh by R147. -/
def LineState.noteLapse (old new : LineState) (k : Lane) : LineState :=
  if old.active && old.pulsed && !new.active then { new with resume := some ⟨k, old.level, old.pulse⟩ } else new

/-- ALARM_TIMER_EXPIRY (R140); R138 keeps a lapsed phase with ALARM_LATCH at 0 alone. -/
def alarmTimerExpiry (k : Lane) (s : State) : State :=
  if fires s.alarms[k].timer s.gateTime then
    let t := (s.setAlarm k ⟨if s.params.alarmLatch then .latched else .quiet, none⟩).recomputeLines
    if s.params.alarmLatch then t else { t with lines := perLine fun l => s.lines[l].noteLapse t.lines[l] k }
  else s

/-- The meaning of ALARM_TIMER_EXPIRY. -/
def execAlarmTimerExpiry (k : Lane) (s : State) : Host.Outcome State Fault Refusal := .next (alarmTimerExpiry k s)

/-- PULSE_TIMER_EXPIRY (R148). -/
def pulseTimerExpiry (l : OutLine) (s : State) : State :=
  if fires s.lines[l].pulse s.gateTime then
    s.modLine l fun ln => { ln with level := !ln.level, pulse := some (after s.gateTime Config.pulseHalf) }
  else s

/-- The meaning of PULSE_TIMER_EXPIRY. -/
def execPulseTimerExpiry (l : OutLine) (s : State) : Host.Outcome State Fault Refusal := .next (pulseTimerExpiry l s)

/-- TEST_TIMER_EXPIRY (R149). -/
def testTimerExpiry (l : OutLine) (s : State) : State :=
  if fires s.lines[l].test s.gateTime then (s.modLine l fun ln => { ln with test := none }).recomputeLines else s

/-- The meaning of TEST_TIMER_EXPIRY. -/
def execTestTimerExpiry (l : OutLine) (s : State) : Host.Outcome State Fault Refusal := .next (testTimerExpiry l s)

/-- The effect of PATTERN_SET on a line (R148). -/
def LineState.setPattern (l : LineState) (pulsed : Bool) (now : Time) : LineState :=
  if l.active && (l.pulsed != pulsed) then
    { l with pulsed := pulsed, level := true, pulse := if pulsed then some (after now Config.pulseHalf) else none }
  else { l with pulsed := pulsed }

end Sys2Proof.Machine
end

