-- ==== Sys2Proof/Machine/TagLink.lean ====
section
/-! DEFINITION. The tag link engine (02): rounds, slots, decoding of replies, the owner filter, the intake queue's tail. -/

namespace Sys2Proof.Machine

/-- The round started by a grant of the transceiver to antenna `a` (R29). -/
def State.startRound (s : State) (a : Antenna) (label : GrantLabel) : State :=
  let r : Round :=
    { antenna := a, label := label, exp := s.storedExp[a], frames := 0, slot := 0, c := 0, s := 0, e := 0,
      settleTimer := some (after s.gateTime Config.fieldSettle), holdTimer := none,
      roundTimer := some (after s.gateTime s.params.roundMax), rates := s.rates, owner := s.owner, expSet := false,
      cause := none }
  let t := { s with engine := .fieldSettle, round := some r, field := some a }
  (t.modLink a fun c => { c with rounds := bump c.rounds }).emit (.fieldOn a)

/-- Whether a round is under way with its field on: FIELD_SETTLE, FRAME or HELD. -/
def State.roundOn (s : State) : Bool := s.engine == .fieldSettle || s.engine == .frame || s.engine == .held

/-- The round enters CLOSING with an end cause (R45). -/
def State.closeRound (s : State) (r : Round) (cause : EndCause) : State :=
  let r' := { r with roundTimer := none, settleTimer := none, holdTimer := none, cause := some cause }
  let exps := if r.expSet then s.storedExp else s.storedExp.set r.antenna r.exp
  { s with engine := .closing, round := some r', field := none, storedExp := exps }.emit .fieldOff

/-- The slot `r.slot` opened, or the hold entered when the intake queue is full (R31). -/
def State.openSlot (s : State) (r : Round) : State :=
  if s.intake.length < Config.maxIntake then
    if r.slot = 0 then
      { s with engine := .frame,
               round := some { r with frames := r.frames + 1, c := 0, s := 0, e := 0, settleTimer := none,
                                      holdTimer := none } }.emit (.sweep r.exp)
    else
      { s with engine := .frame, round := some { r with settleTimer := none, holdTimer := none } }.emit .next
  else
    { s with engine := .held,
             round := some { r with settleTimer := none,
                                    holdTimer := some (after s.gateTime Config.holdLimit) } }.modLink r.antenna
      fun c => { c with holds := bump c.holds }

/-! ### Deciding a slot -/

/-- Whether a rate table entry accepts a preamble length (R34). -/
def RateEntry.accepts (e : RateEntry) (len : Nat) : Bool :=
  e.enabled && e.nominal ≤ len + e.tolerance && len ≤ e.nominal + e.tolerance

/-- The lowest-numbered entry that a reply matches (R34). -/
def lockedEntry (rates : Vector RateEntry 4) (len : Nat) : Option RateEntry :=
  rates.toList.find? fun e => e.accepts len

/-- What the record of a SINGLE gives (R37). -/
structure TagRecord where
  item : ItemNo
  owner : Owner
  issued : Bool
  cls : MediaClass
deriving DecidableEq, Repr

/-- The outcome of a slot (R33). -/
inductive SlotOutcome where
  | empty
  | collision
  | noise
  | corrupt
  | single (r : TagRecord)
deriving DecidableEq, Repr

/-- The record in 104 bits after the sync word, inversion done: SINGLE where its check holds, else CORRUPT (R36, R37). -/
def decideRecord (bits : List Bool) : SlotOutcome :=
  if crcBits (bits.take 88) = BitVec.ofNat 16 (bitsNat ((bits.drop 88).take 16)) then
    let status := (bits.drop 80).take 8
    .single ⟨BitVec.ofNat 64 (bitsNat (bits.take 64)), BitVec.ofNat 16 (bitsNat ((bits.drop 64).take 16)),
      status.headD false, BitVec.ofNat 4 (bitsNat (status.drop 4))⟩
  else .corrupt

/-- A reply's outcome: rate lock, sync word and polarity, length, check (R33 to R36). -/
def decideReply (rates : Vector RateEntry 4) (len : Nat) (bits : List Bool) : SlotOutcome :=
  match lockedEntry rates len with
  | none => .noise
  | some e =>
    if bits.length < 16 then .noise
    else
      let sync := BitVec.ofNat 16 (bitsNat (bits.take 16))
      let rest := bits.drop 16
      if sync = e.pattern then (if rest.length < 104 then .corrupt else decideRecord (rest.take 104))
      else if sync = ~~~e.pattern then
        (if rest.length < 104 then .corrupt else decideRecord ((rest.take 104).map not))
      else .noise

/-- The outcome of a slot from its report (R33). -/
def decideSlot (rates : Vector RateEntry 4) : SlotReport → SlotOutcome
  | .silence => .empty
  | .energy => .collision
  | .reply len bits _ => decideReply rates len.toNat bits

/-- The raw amplitude of a report. -/
def reportAmplitude : SlotReport → BitVec 12
  | .reply _ _ amp => amp
  | _ => 0

/-- Whether an owner code matches a pair of code and mask (R38). -/
def ownerMatches (code mask owner : BitVec 16) : Bool := owner &&& mask == code &&& mask

/-- Whether an owner code passes the filter (R38). -/
def OwnerFilter.accepts (f : OwnerFilter) (owner : Owner) : Bool :=
  if owner = 0 then f.acceptBlank
  else ownerMatches f.primaryCode f.primaryMask owner
    || (f.secondaryEnable && ownerMatches f.secondaryCode f.secondaryMask owner)

/-- A round with the outcome added to its frame tallies (R33). -/
def Round.tally (r : Round) : SlotOutcome → Round
  | .empty | .noise => { r with e := r.e + 1 }
  | .collision | .corrupt => { r with c := r.c + 1 }
  | .single _ => { r with s := r.s + 1 }

/-- The antenna's counters with the outcome counted; EMPTY has no counter (R33, R51). -/
def LinkCounters.countOutcome (c : LinkCounters) : SlotOutcome → LinkCounters
  | .empty => c
  | .noise => { c with noise := bump c.noise }
  | .collision => { c with collisions := bump c.collisions }
  | .corrupt => { c with corrupt := bump c.corrupt }
  | .single _ => { c with singles := bump c.singles }

/-- A SINGLE taken: the read appended or the foreign counter raised, and QUIET sent in both cases (R37, R28). -/
def State.takeSingle (s : State) (r : Round) (t : TagRecord) (amp : BitVec 12) : State :=
  let s' :=
    if r.owner.accepts t.owner then
      { s with intake := s.intake ++ [⟨t.item, t.owner, t.issued, t.cls, r.antenna, amp, s.gateTime⟩] }
    else s.modLink r.antenna fun c => { c with foreign := bump c.foreign }
  s'.emit (.quiet t.item)

/-- The working frame exponent after a frame (R39). -/
def adjustExp (f c e : Nat) : Nat :=
  if c > e ∧ f < Config.maxExp then f + 1
  else if c = 0 ∧ 2 * e ≥ 2 ^ f ∧ f > 0 then f - 1
  else f

/-- The frame closed after its last slot (R39, R40). -/
def State.closeFrame (s : State) (r : Round) : State :=
  let r' := { r with exp := adjustExp r.exp r.c r.e }
  if r.c = 0 ∧ r.s = 0 then s.closeRound r' .quietFrame
  else if r.frames ≥ Config.framesPerRound then s.closeRound r' .frameLimit
  else s.openSlot { r' with slot := 0 }

/-- SLOT_REPORT: taken in FRAME, discarded uncounted in any other state (R33, R41, R45). -/
def slotReport (report : SlotReport) (s : State) : State :=
  match s.engine, s.round with
  | .frame, some r =>
    let o := decideSlot r.rates report
    let r1 := r.tally o
    let s1 := s.modLink r.antenna fun c => c.countOutcome o
    let s2 :=
      match o with
      | .single t => s1.takeSingle r t (reportAmplitude report)
      | _ => s1
    if r1.slot + 1 < 2 ^ r1.exp then s2.openSlot { r1 with slot := r1.slot + 1 } else s2.closeFrame r1
  | _, _ => s

/-- The meaning of SLOT_REPORT. -/
def execSlotReport (report : SlotReport) (s : State) : Host.Outcome State Fault Refusal := .next (slotReport report s)

/-- HOLD_TIMER_EXPIRY (R32). -/
def holdTimerExpiry (s : State) : State :=
  match s.engine, s.round with
  | .held, some r =>
    if fires r.holdTimer s.gateTime then
      (s.modLink r.antenna fun c => { c with abandoned := bump c.abandoned }).closeRound r .holdLimit
    else s
  | _, _ => s

/-- The meaning of HOLD_TIMER_EXPIRY. -/
def execHoldTimerExpiry (s : State) : Host.Outcome State Fault Refusal := .next (holdTimerExpiry s)

/-- ROUND_TIMER_EXPIRY (R41). -/
def roundTimerExpiry (s : State) : State :=
  match s.round with
  | some r => if s.roundOn && fires r.roundTimer s.gateTime then s.closeRound r .timeLimit else s
  | none => s

/-- The meaning of ROUND_TIMER_EXPIRY. -/
def execRoundTimerExpiry (s : State) : Host.Outcome State Fault Refusal := .next (roundTimerExpiry s)

/-- FIELD_FAULT: ends a round with its field on, discarded in IDLE and CLOSING (R42). -/
def fieldFault (s : State) : State :=
  match s.round with
  | some r =>
    if s.roundOn then
      (s.modLink r.antenna fun c => { c with fieldFaults := bump c.fieldFaults }).closeRound r .fieldFault
    else s
  | none => s

/-- The meaning of FIELD_FAULT. -/
def execFieldFault (s : State) : Host.Outcome State Fault Refusal := .next (fieldFault s)

/-- The removal of a read, as the engine takes it: it ends a hold and opens the waiting slot (R32). -/
def State.readRemoved (s : State) : State :=
  match s.engine, s.round with
  | .held, some r => s.openSlot r
  | _, _ => s

/-- Every stored frame exponent set to START_EXP; the round under way will not write its own (R46). -/
def State.resetExps (s : State) : State :=
  { s with storedExp := Vector.replicate 5 s.params.startExp,
           round := s.round.map fun r => { r with expSet := true } }

/-- A round withdrawn when its antenna's index exceeds LANES (R43, R63). -/
def State.withdrawBeyondLanes (s : State) : State :=
  match s.round with
  | some r => if s.roundOn && !s.withinLanes r.antenna then s.closeRound r .withdrawn else s
  | none => s

end Sys2Proof.Machine
end

