-- ==== Sys2Proof/Machine/Transmit.lean ====
section
/-! DEFINITION. The transmitter of the link unit (09, section 9.5): its arbiter, the notice queue, the report queue and the
reply slot. A frame that starts to wait while the transmitter is FREE begins transmission at once, in the order in which an
event makes frames wait (R164, log entry 19). -/

namespace Sys2Proof.Machine

/-- The PENDING slots, by slot number (R127). -/
def State.pendingSlots (s : State) : List (SlotNo × Question) :=
  allSlots.filterMap fun j =>
    match s.slots[j] with
    | some q => if q.asked then none else some (j, q)
    | none => none

/-- The entry of the lowest taking order (R127); taking orders are compared as gate times are (R124). -/
def earliestQuestion : List (SlotNo × Question) → Option (SlotNo × Question)
  | [] => none
  | x :: xs => some (xs.foldl (fun best y => if before y.2.order best.2.order then y else best) x)

/-- The transmitter's arbiter: when FREE, it begins the frame of the first source that has one (R164). -/
def State.arbitrateTx (s : State) : State :=
  match s.sending with
  | some _ => s
  | none =>
    match s.reply with
    | some b => { s with sending := some ⟨frameOf b, s.restartPending⟩, reply := none }
    | none =>
      match earliestQuestion s.pendingSlots with
      | some (j, q) =>
        { s.setSlot j (some { q with asked := true }) with sending := some ⟨frameOf q.query, false⟩ }
      | none =>
        match s.notices, s.reports with
        | b :: rest, _ => { s with sending := some ⟨frameOf b, false⟩, notices := rest }
        | [], b :: rest => { s with sending := some ⟨frameOf b, false⟩, reports := rest }
        | [], [] => s

/-- A notice queued, or dropped and counted when the queue is full (R165). -/
def State.queueNotice (s : State) (b : Body) : State :=
  if s.notices.length < Config.maxNotices then { s with notices := s.notices ++ [b] }.arbitrateTx
  else s.modDevice fun d => { d with noticesLost := bump d.noticesLost }

/-- A report queued, or dropped and counted when the queue is full (R166). -/
def State.queueReport (s : State) (b : Body) : State :=
  if s.reports.length < Config.maxReports then { s with reports := s.reports ++ [b] }.arbitrateTx
  else s.modDevice fun d => { d with reportsLost := bump d.reportsLost }

/-- A REPLY placed in the reply slot (R161). -/
def State.placeReply (s : State) (b : Body) : State := { s with reply := some b }.arbitrateTx

end Sys2Proof.Machine
end

