-- ==== Sys2Proof/Machine/Arbiter.lean ====
section
/-! DEFINITION. The transceiver arbiter (03): choice and grant of rounds, antenna service, trials and retries; and the end of
an event that may make an antenna hot or change a source. -/

namespace Sys2Proof.Machine

/-- The antennas in cyclic order, from the one after last granted; by rising number when last granted is none (R56). -/
def cyclicFrom : Option Antenna → List Antenna
  | none => allAntennas
  | some a => allAntennas.drop (a.val + 1) ++ allAntennas.take (a.val + 1)

/-- The next candidate after last granted (R56). -/
def State.nextAntenna (s : State) (p : Antenna → Bool) : Option Antenna := (cyclicFrom s.lastGranted).find? p

/-- Whether BG_INTERVAL has passed since last background start: the background timer has expired or its time has come (R58). -/
def State.backgroundPassed (s : State) : Bool :=
  match s.bgTimer with
  | none => true
  | some e => due s.gateTime e

/-- A grant (R53, R56, R60). -/
def State.grantTo (s : State) (a : Antenna) (label : GrantLabel) : State :=
  let s1 := { s with grant := some ⟨a, label⟩, lastGranted := some a }
  let s2 :=
    match label with
    | .hot => s1
    | _ => { s1 with lastBackground := s.gateTime, bgTimer := some (after s.gateTime s.params.bgInterval) }
  let s3 :=
    match label with
    | .retry => s2.modAntenna a fun _ => { out := false, trial := true, settled := false, retry := .stopped }
    | _ => s2
  s3.startRound a label

/-- The first case of R56 that applies. Case 3 asks that no retry is due and does not say "within LANES" as case 2 does. DEDUCED
from R54 and R60 (log entry 32): the due retry of an antenna beyond LANES does not count there, so BACKGROUND is granted. -/
def State.choice (s : State) : Option (Antenna × GrantLabel) :=
  match s.nextAntenna fun a => s.eligible a && s.hot a with
  | some a => some (a, .hot)
  | none =>
    if s.backgroundPassed then
      match s.nextAntenna fun a => s.withinLanes a && s.antennas[a].retry == .due with
      | some a => some (a, .retry)
      | none => (s.nextAntenna s.eligible).map fun a => (a, .background)
    else none

/-- A choice of the arbiter: nothing unless the grant state is FREE and the engine is in IDLE (R56, R57). -/
def State.choose (s : State) : State :=
  if s.grant.isNone && s.engine == .idle then
    match s.choice with
    | some (a, label) => s.grantTo a label
    | none => s
  else s

/-- The end of an event: the arbiter chooses when an antenna has become hot in it (R57), and the alarm unit computes every
line afresh (R147). `s0` is the state before the event (log entry 12). -/
def State.endEvent (s s0 : State) : State :=
  (if allAntennas.any fun a => s.hot a && !s0.hot a then s.choose else s).recomputeLines

/-- The field on a retry round's antenna has settled: the antenna is in service again (R61, R62). -/
def State.trialSettled (s : State) (a : Antenna) : State :=
  let s1 := (s.modAntenna a fun t => { t with trial := false, settled := true }).markPassages
  s1.queueNotice (antennaNoticeBody .antennaRecovered a)

/-- An antenna taken out of service (R59). -/
def State.antennaFails (s : State) (a : Antenna) : State :=
  let s1 := (s.modAntenna a fun _ =>
    { out := true, trial := false, settled := false,
      retry := .running (after s.gateTime Config.retryInterval) }).markPassages
  s1.queueNotice (antennaNoticeBody .antennaFault a)

/-- What the arbiter does with a round's end report (R59, R61). -/
def State.roundEnded (s : State) (a : Antenna) (label : GrantLabel) (cause : Option EndCause) : State :=
  match cause with
  | some .fieldFault =>
    if label = .retry ∧ s.antennas[a].settled = false then
      s.modAntenna a fun t => { t with out := true, trial := false,
                                       retry := .running (after s.gateTime Config.retryInterval) }
    else s.antennaFails a
  | some .withdrawn =>
    if label = .retry ∧ s.antennas[a].settled = false then
      s.modAntenna a fun t => { t with out := true, trial := false, retry := .due }
    else s
  | _ => s

/-- FIELD_SETTLE_EXPIRY: the settled report, and the round's first frame (R30, R61). -/
def fieldSettleExpiry (s : State) : State :=
  match s.engine, s.round with
  | .fieldSettle, some r =>
    if fires r.settleTimer s.gateTime then
      let s1 := if r.label = .retry then s.trialSettled r.antenna else s
      (s1.openSlot r).recomputeLines
    else s
  | _, _ => s

/-- The meaning of FIELD_SETTLE_EXPIRY. -/
def execFieldSettleExpiry (s : State) : Host.Outcome State Fault Refusal := .next (fieldSettleExpiry s)

/-- FIELD_OFF_ACK: the round's end report, the transceiver free, and a choice (R45, R52, R57, R59, R61); outside CLOSING it
answers no request under way and has no effect (log entry 15). DESIGN CHOICE (log entry 15): after a reset taken in CLOSING two
field-off requests are outstanding, and the first acknowledgement taken ends CLOSING. -/
def fieldOffAck (s : State) : State :=
  if s.engine == .closing then
    let s1 := { s with engine := .idle, round := none, grant := none }
    let s2 :=
      match s.round with
      | some r => s1.roundEnded r.antenna r.label r.cause
      | none => s1
    s2.choose.recomputeLines
  else s

/-- The meaning of FIELD_OFF_ACK. -/
def execFieldOffAck (s : State) : Host.Outcome State Fault Refusal := .next (fieldOffAck s)

/-- BACKGROUND_TIMER_EXPIRY (R58). -/
def backgroundTimerExpiry (s : State) : State :=
  if fires s.bgTimer s.gateTime then { s with bgTimer := none }.choose else s

/-- The meaning of BACKGROUND_TIMER_EXPIRY. -/
def execBackgroundTimerExpiry (s : State) : Host.Outcome State Fault Refusal := .next (backgroundTimerExpiry s)

/-- Whether an antenna's retry timer runs and its time has come. -/
def retryFires (t : RetryTimer) (now : Time) : Bool :=
  match t with
  | .running e => due now e
  | _ => false

/-- RETRY_TIMER_EXPIRY (R60). -/
def retryTimerExpiry (a : Antenna) (s : State) : State :=
  if retryFires s.antennas[a].retry s.gateTime then
    (s.modAntenna a fun t => { t with retry := .due }).choose
  else s

/-- The meaning of RETRY_TIMER_EXPIRY. -/
def execRetryTimerExpiry (a : Antenna) (s : State) : Host.Outcome State Fault Refusal := .next (retryTimerExpiry a s)

/-- The background timer restarted for a new BG_INTERVAL, measured from the same last background start (R58), and the choice
that a SET of BG_INTERVAL is (R57). -/
def State.restartBackground (s : State) : State :=
  let e := after s.lastBackground s.params.bgInterval
  { s with bgTimer := if due s.gateTime e then none else some e }.choose

end Sys2Proof.Machine
end

