-- ==== Sys2Proof/Machine/Sighting.lean ====
section
/-! DEFINITION. The sighting unit (04): strength, read histories, residency, ageing, eviction, claims. -/

namespace Sys2Proof.Machine

/-- The base strength of a raw amplitude (R65). -/
def baseStrength (r : Nat) : Nat :=
  if r = 0 then 1
  else if r ≤ 15 then r
  else
    let e := Nat.log2 r
    8 * (e - 2) + (r / 2 ^ (e - 3) - 8)

/-- A sum of base strength and trim clamped into 1..79 (R66). -/
def trimmedStrength (base : Nat) (trim : Int) : Nat := (max 1 (min (Config.maxStrength : Int) (base + trim))).toNat

/-- The strength of a read, with the trim stored now (R65, R66). -/
def State.strength (s : State) (r : Read) : Nat :=
  trimmedStrength (baseStrength r.amplitude.toNat) s.params.trims[r.antenna]

/-- A read history with a record appended at the newest end; of 13 records the oldest leaves (R68). -/
def pushHistory (h : List HistoryRecord) (r : HistoryRecord) : List HistoryRecord :=
  (h ++ [r]).drop (h.length + 1 - Config.maxHistory)

/-- The highest strength among the records of an antenna that satisfy `p`; 0 where there is none (R72, R90). -/
def antennaMax (h : List HistoryRecord) (p : HistoryRecord → Bool) (a : Antenna) : Nat :=
  h.foldl (fun m r => if p r && r.antenna == a then max m r.strength else m) 0

/-- The resident baseline a history gives (R72). -/
def baselineOf (h : List HistoryRecord) : Vector Nat 5 :=
  let f := antennaMax h fun _ => true
  #v[f 0, f 1, f 2, f 3, f 4]

/-- The sighting with this item number. -/
def State.sighting? (s : State) (item : ItemNo) : Option Sighting := s.sightings.find? fun e => e.item == item

/-- An entry updated by a read (R70). -/
def Sighting.update (e : Sighting) (r : Read) (strength : Nat) : Sighting :=
  { e with owner := r.owner, issued := r.issued, cls := r.cls, lastSeen := r.time,
           history := pushHistory e.history ⟨r.antenna, strength, r.time⟩ }

/-- A new entry made by a read (R71). -/
def newSighting (r : Read) (strength : Nat) : Sighting :=
  { item := r.item, owner := r.owner, issued := r.issued, cls := r.cls, state := .active, firstSeen := r.time,
    lastSeen := r.time, ageExpiry := r.time, history := [⟨r.antenna, strength, r.time⟩] }

/-- A RESIDENT entry made ACTIVE by a read well above its baseline (R73). -/
def Sighting.wake (e : Sighting) (p : Params) (r : Read) (strength : Nat) : Sighting :=
  match e.state with
  | .resident b =>
    if strength ≥ b[r.antenna] + p.residentJump + 1 then { e with state := .active, firstSeen := r.time } else e
  | _ => e

/-- An ACTIVE entry made RESIDENT once heard for RESIDENT_TIME (R72). -/
def Sighting.rest (e : Sighting) (p : Params) (r : Read) : Sighting :=
  match e.state with
  | .active =>
    if elapsed e.firstSeen r.time ≥ p.residentTime * 1000 then { e with state := .resident (baselineOf e.history) } else e
  | _ => e

/-- The entry after the state tests and with its new age expiry (R69 steps 3 and 4, R75). -/
def Sighting.finishMerge (e : Sighting) (p : Params) (r : Read) (strength : Nat) : Sighting :=
  let e' := (e.wake p r strength).rest p r
  { e' with ageExpiry := after e'.lastSeen p.sightAge }

/-- An entry put into the table at the place of its item number. -/
def insertSighting (e : Sighting) : List Sighting → List Sighting
  | [] => [e]
  | x :: xs =>
    if e.item.toNat < x.item.toNat then e :: x :: xs
    else if e.item = x.item then e :: xs
    else x :: insertSighting e xs

/-- The group of R77 an entry belongs to: RESIDENT first, CLAIMED last. -/
def evictionGroup (e : Sighting) : Nat :=
  match e.state with
  | .resident _ => 0
  | .active => 1
  | .claimed _ _ => 2

/-- Whether `a` is evicted before `b`: earlier group, then older last-seen, then lower item number (R77). -/
def evictedBefore (a b : Sighting) : Bool :=
  evictionGroup a < evictionGroup b
    || (evictionGroup a == evictionGroup b
        && (before a.lastSeen b.lastSeen || (a.lastSeen == b.lastSeen && a.item.toNat < b.item.toNat)))

/-- The entry to evict (R77). -/
def evictionChoice : List Sighting → Option Sighting
  | [] => none
  | x :: xs => some (xs.foldl (fun best y => if evictedBefore y best then y else best) x)

/-- The table without the entry of this item number. -/
def removeSighting (l : List Sighting) (item : ItemNo) : List Sighting := l.filter fun e => e.item != item

/-- One entry evicted from a table of 128, and counted (R77, R78); a smaller table is left as it is. -/
def State.evictIfFull (s : State) : State :=
  if s.sightings.length < Config.maxSightings then s
  else
    match evictionChoice s.sightings with
    | some e =>
      { s with sightings := removeSighting s.sightings e.item }.modDevice
        fun d => { d with evictions := bump d.evictions }
    | none => s

/-- The entry a read leaves in the table (R70 to R73, R75). -/
def State.mergedEntry (s : State) (r : Read) : Sighting :=
  match s.sighting? r.item with
  | some e => (e.update r (s.strength r)).finishMerge s.params r (s.strength r)
  | none => (newSighting r (s.strength r)).finishMerge s.params r (s.strength r)

/-- The merge of a read into the table (R69 steps 1 to 4). -/
def State.mergeRead (s : State) (r : Read) : State :=
  let e := s.mergedEntry r
  let s1 := if (s.sighting? r.item).isSome then s else s.evictIfFull
  { s1 with sightings := insertSighting e s1.sightings }

/-- The entry of this item number deleted, when its age expiry is reached (R75). An expiry equal to gate time counts as reached;
`readMerge` calls this too, and there DESIGN CHOICE takes the same expiry as already passed (log entry 13). -/
def State.expireAge (s : State) (item : ItemNo) : State :=
  match s.sighting? item with
  | some e => if due s.gateTime e.ageExpiry then { s with sightings := removeSighting s.sightings item } else s
  | none => s

/-- The meaning of AGE_EXPIRY (R75). -/
def execAgeExpiry (item : ItemNo) (s : State) : Host.Outcome State Fault Refusal := .next (s.expireAge item)

/-! ### Claims (R79) -/

/-- Whether a direction is an outward one: OUT or UNKNOWN. -/
def Direction.outward : Direction → Bool
  | .out | .unknown => true
  | .in_ | .none_ => false

/-- Whether a claim with this direction is granted on an entry in this state (R79). -/
def SightState.grants (st : SightState) (dir : Direction) : Bool :=
  match st with
  | .active => true
  | .resident _ => false
  | .claimed _ held => !held.outward && dir.outward

/-- The outcome of a claim request: whether it is granted (R79). -/
def State.claimGranted (s : State) (item : ItemNo) (dir : Direction) : Bool :=
  match s.sighting? item with
  | some e => e.state.grants dir
  | none => false

/-- A claim request taken: a grant sets the entry's state and claimed-by, a refusal changes nothing (R79). -/
def State.claim (s : State) (item : ItemNo) (n : Nat) (dir : Direction) : State :=
  if s.claimGranted item dir then
    { s with sightings := s.sightings.map fun e => if e.item == item then { e with state := .claimed n dir } else e }
  else s

end Sys2Proof.Machine
end

