-- ==== Sys2Proof/Machine/Attribution.lean ====
section
/-! DEFINITION. Attribution (05): windows, competing passages, candidates, lane scores, the contest, the item list. -/

namespace Sys2Proof.Machine

/-- A window of gate time, both ends included (R87). -/
structure Window where
  start : Time
  stop : Time
deriving DecidableEq, Repr

/-- Whether a gate time lies within a window (R87). -/
def Window.has (w : Window) (t : Time) : Bool := (t - w.start).toNat ≤ (w.stop - w.start).toNat

/-- A passage's window at a run now (R87). -/
def State.windowOf (s : State) (p : Passage) : Window := ⟨p.opened - BitVec.ofNat 32 s.params.leadTime, s.gateTime⟩

/-- The competing passages at a run for `p` (R88). -/
def State.competitors (s : State) (p : Passage) : List Passage :=
  s.passages.filter fun q => q.number != p.number && q.live

/-- Whether an antenna is one of the lane's two. -/
def besideLane (k : Lane) (a : Antenna) : Bool := a == nearAntenna k || a == farAntenna k

/-- The number of records of a history within a window that satisfy `p` (R90). -/
def recordCount (h : List HistoryRecord) (w : Window) (p : Antenna → Bool) : Nat :=
  h.countP fun r => w.has r.time && p r.antenna

/-- The antenna maximum Pa within a window (R90). -/
def windowMax (h : List HistoryRecord) (w : Window) (a : Antenna) : Nat := antennaMax h (fun r => w.has r.time) a

/-- The score of a history for a lane scored by both its antennas (R90). -/
def scoreBoth (h : List HistoryRecord) (k : Lane) (w : Window) : Nat :=
  let near := windowMax h w (nearAntenna k)
  let far := windowMax h w (farAntenna k)
  near + far + min near far + min (recordCount h w (besideLane k)) 8

/-- The score of a history for a lane scored by antenna `g` alone (R91). -/
def scoreOne (h : List HistoryRecord) (g : Antenna) (w : Window) : Nat :=
  3 * windowMax h w g + min (recordCount h w (· == g)) 8

/-- The lane score of a history over a window, in the lane's condition now (R90, R91). -/
def State.laneScore (s : State) (h : List HistoryRecord) (k : Lane) (w : Window) : Nat :=
  match s.laneCondition k with
  | .normal => scoreBoth h k w
  | .oneAntenna => scoreOne h (if s.countedOut (nearAntenna k) then farAntenna k else nearAntenna k) w
  | .blind => 0

/-- Whether a sighting is a candidate for `p`, of direction `dir` (R89). -/
def State.candidate (s : State) (p : Passage) (dir : Direction) (e : Sighting) : Bool :=
  e.history.any (fun r => besideLane p.lane r.antenna && (s.windowOf p).has r.time) && e.state.grants dir

/-- What the contest decides of a candidate (R92). -/
inductive Contest where
  | left
  | won (score : Nat)
  | unattributed
deriving DecidableEq, Repr

/-- The contest for one candidate (R92). -/
def State.contest (s : State) (p : Passage) (e : Sighting) : Contest :=
  let own := s.laneScore e.history p.lane (s.windowOf p)
  if (s.competitors p).any fun q => s.laneScore e.history q.lane (s.windowOf q) > own then .left
  else if own > 0 ∧ own ≥ s.params.attrMin then .won own
  else .unattributed

/-- A winner with its score. -/
abbrev Winner := Nat × Sighting

/-- Whether one winner ranks before another: higher score, then lower item number (R94). -/
def ranksBefore (a b : Winner) : Bool := a.1 > b.1 || (a.1 == b.1 && a.2.item.toNat < b.2.item.toNat)

/-- A winner put into a ranking. -/
def insertWinner (w : Winner) : List Winner → List Winner
  | [] => [w]
  | x :: xs => if ranksBefore x w then x :: insertWinner w xs else w :: x :: xs

/-- Winners in ranking order (R94). -/
def rankWinners (l : List Winner) : List Winner := l.foldr insertWinner []

/-- The candidates of a run (R89). -/
def State.candidates (s : State) (p : Passage) (dir : Direction) : List Sighting :=
  s.sightings.filter fun e => s.candidate p dir e

/-- The winners of a run, in ranking order (R92, R94). -/
def State.winners (s : State) (p : Passage) (dir : Direction) : List Winner :=
  rankWinners ((s.candidates p dir).filterMap fun e =>
    match s.contest p e with
    | .won score => some (score, e)
    | _ => none)

/-- The number of candidates that a run decides as unattributed (R93). -/
def State.unattributedCount (s : State) (p : Passage) (dir : Direction) : Nat :=
  (s.candidates p dir).countP fun e => s.contest p e == .unattributed

/-- The item record of a granted claim (R96). -/
def itemOf (w : Winner) : Item :=
  { item := w.2.item, owner := w.2.owner, cls := w.2.cls, issued := w.2.issued, score := w.1 }

/-- The claims of the winners kept, in ranking order, with an item record for each granted claim (R95). -/
def claimAll (n : Nat) (dir : Direction) : List Winner → State → List Item → State × List Item
  | [], s, items => (s, items)
  | w :: ws, s, items =>
    if s.claimGranted w.2.item dir then claimAll n dir ws (s.claim w.2.item n dir) (items ++ [itemOf w])
    else claimAll n dir ws s items

/-- Attribution for the closed passage of number `n`, whose state becomes JUDGING (R86 to R97). -/
def State.attribute (s : State) (n : Nat) : State :=
  match s.passage? n with
  | none => s
  | some p =>
    let dir := p.direction.getD .unknown
    let ranked := s.winners p dir
    let s1 := s.modDevice fun d => { d with unattributed := satAdd Config.max16 d.unattributed (s.unattributedCount p dir) }
    let (s2, items) := claimAll n dir (ranked.take Config.maxItems) s1 []
    s2.modPassage n fun q =>
      { q with phase := .judging, settle := none, items := items,
               flags := { q.flags with overflow := q.flags.overflow || Config.maxItems < ranked.length } }

end Sys2Proof.Machine
end

