-- ==== Sys2Proof/Machine/Checks.lean ====
section
/-! DEFINITION. The check unit (06, 07): class matching, judging, verdicts and their alarms, the loan list, query slots, the
waiting list, answers, and the completion of a passage (R22). -/

namespace Sys2Proof.Machine

/-! ### The class table (06, section 6.2) -/

/-- Whether an entry matches an item record (R101). -/
def ClassEntry.covers (e : ClassEntry) (it : Item) : Bool :=
  e.enabled && ownerMatches e.ownerValue e.ownerMask it.owner
    && (it.item.extractLsb' 32 32 &&& e.prefixMask == e.prefixValue &&& e.prefixMask)
    && e.classSet.getLsbD it.cls.toNat

/-- The class entry fields of an item that no entry matches (R102). -/
def unmatchedClass : ItemClass := ⟨.check, true, false, false⟩

/-- The class entry fields that govern an item: the lowest-numbered enabled entry that matches (R101, R102). -/
def State.classOf (s : State) (it : Item) : ItemClass :=
  match s.classes.toList.find? fun e => e.covers it with
  | some e => e.fields
  | none => unmatchedClass

/-! ### The loan list (06, section 6.3) -/

/-- Whether the loan list holds an item number (R114). -/
def State.onLoan (s : State) (item : ItemNo) : Bool := s.loans.any fun l => l.item == item

/-- The list without the entry of an item number. -/
def dropLoan (l : List Loan) (item : ItemNo) : List Loan := l.filter fun x => x.item != item

/-- One item number added or renewed, the oldest entry evicted from a full list (R106). -/
def State.addLoan (s : State) (item : ItemNo) : State :=
  let entry : Loan := ⟨item, s.gateTime, after s.gateTime (s.params.loanLife * 60000)⟩
  if s.onLoan item then { s with loans := dropLoan s.loans item ++ [entry] }
  else if s.loans.length < Config.maxLoans then { s with loans := s.loans ++ [entry] }
  else { s with loans := s.loans.drop 1 ++ [entry] }.modDevice
    fun d => { d with loanEvictions := bump d.loanEvictions }

/-- LOAN_LIFE_END: the entry of this item number removed, when its life end is reached (R108). -/
def loanLifeEnd (item : ItemNo) (s : State) : State :=
  { s with loans := s.loans.filter fun l => !(l.item == item && due s.gateTime l.lifeEnd) }

/-- The meaning of LOAN_LIFE_END. -/
def execLoanLifeEnd (item : ItemNo) (s : State) : Host.Outcome State Fault Refusal := .next (loanLifeEnd item s)

/-! ### Alarms of a passage and verdicts (06, section 6.5) -/

/-- The first alarm of a passage: the mark, the count, the notice (R118). -/
def State.firstAlarm (s : State) (p : Passage) (reason : Reason) (item : Option ItemNo) : State :=
  let s1 := s.modPassage p.number fun q => { q with judging := q.judging.map fun j => { j with mark := true } }
  let s2 := s1.modCounts p.lane fun c => { c with withAlarm := raise c.withAlarm 1 }
  if p.flags.countOnly then s2 else s2.queueNotice (alarmNoticeBody p.lane p.number reason item)

/-- An alarm of the passage of number `n` (R118). -/
def State.passageAlarm (s : State) (n : Nat) (reason : Reason) (item : Option ItemNo) : State :=
  match s.passage? n with
  | none => s
  | some p =>
    let marked := (p.judging.map (·.mark)).getD false
    let s1 := if marked then s else s.firstAlarm p reason item
    if p.flags.countOnly then s1 else s1.triggerLane p.lane

/-- A verdict written into an item record that has none, with the effects of an alarm when it is ALARM (R117). -/
def State.giveVerdict (s : State) (ref : ItemRef) (verdict : Verdict) (reason : Reason) : State :=
  match s.item? ref with
  | none => s
  | some it =>
    if it.ruling.isSome then s
    else
      let s1 := s.modItem ref fun i => { i with ruling := some ⟨verdict, reason⟩ }
      let s2 := s1.modPassage ref.passage fun p =>
        { p with judging := p.judging.map fun j => { j with undecided := j.undecided - 1 } }
      if verdict = .alarm then s2.passageAlarm ref.passage reason (some it.item) else s2

/-- The verdict an item's copied fallback gives (R117); ALARM for a record with no fields copied. -/
def Item.fallback (it : Item) : Verdict :=
  match it.classFields with
  | some c => if c.fallbackPass then .pass else .alarm
  | none => .alarm

/-- An item's fallback given with a reason (R117). -/
def State.giveFallback (s : State) (ref : ItemRef) (reason : Reason) : State :=
  match s.item? ref with
  | some it => s.giveVerdict ref it.fallback reason
  | none => s

/-- A passage in JUDGING with no item left without verdict is reported and its record freed (R121, R22). -/
def State.completeIfDone (s : State) (n : Nat) : State :=
  match s.passage? n with
  | none => s
  | some p =>
    if p.phase = .judging ∧ (p.judging.map (·.undecided)) = some 0 then
      (s.queueReport (reportBody p)).freePassage n
    else s

/-! ### Query slots and the waiting list (07) -/

/-- The lowest-numbered FREE slot (R124). -/
def State.freeSlot? (s : State) : Option SlotNo := allSlots.find? fun j => s.slots[j].isNone

/-- An item takes slot `j` (R126). -/
def State.takeSlot (s : State) (ref : ItemRef) (j : SlotNo) : State :=
  match s.passage? ref.passage, s.item? ref with
  | some p, some it =>
    let q : Question :=
      ⟨false, ref, it.item, s.nextOrder, after s.gateTime s.params.queryTimeout, queryBody j it p.lane p.number⟩
    let s1 := { s.setSlot j (some q) with nextOrder := s.nextOrder + 1 }
    (s1.modItem ref fun i => { i with slot := some j }).arbitrateTx
  | _, _ => s

/-- An item handed to the query mechanism: the lowest free slot, or the tail of the waiting list (R126). -/
def State.askAbout (s : State) (ref : ItemRef) : State :=
  match s.freeSlot? with
  | some j => s.takeSlot ref j
  | none => { s with waiting := s.waiting ++ [ref] }

/-- A slot made FREE, and the query slot field of its item absent (R124). A PENDING slot's QUERY is withdrawn with it. -/
def State.freeSlot (s : State) (j : SlotNo) : State :=
  match s.slots[j] with
  | some q => (s.setSlot j none).modItem q.ref fun i => { i with slot := none }
  | none => s

/-- Freed slots handed on to the head of the waiting list, while LINKED, at most `fuel` times (R132). -/
def State.handOn : Nat → State → State
  | 0, s => s
  | fuel + 1, s =>
    match s.waiting, s.freeSlot? with
    | ref :: rest, some j => if s.linked then State.handOn fuel ({ s with waiting := rest }.takeSlot ref j) else s
    | _, _ => s

/-- Freed slots handed on until all four are in flight or nothing waits (R132). -/
def State.handSlotsOn (s : State) : State := State.handOn 4 s

/-! ### Judging (06, section 6.4) -/

/-- What judging decides of an item of an OUT or UNKNOWN passage: a verdict with its reason, or none for a query (R113). -/
def State.judgeOutward (s : State) (it : Item) (c : ItemClass) : Option Ruling :=
  if c.action = .exempt then some ⟨.pass, .exemptClass⟩
  else if c.action = .alwaysAlarm then some ⟨.alarm, .alwaysClass⟩
  else if it.issued then some ⟨.pass, .issuedTag⟩
  else if s.onLoan it.item && !c.guarded then some ⟨.pass, .onLoanList⟩
  else if c.noQuery then some ⟨.alarm, .notIssued⟩
  else if !s.linked then some ⟨if c.fallbackPass then .pass else .alarm, .standalone⟩
  else none

/-- One item judged (R112, R113, R115). -/
def State.judgeItem (s : State) (dir : Direction) (ref : ItemRef) : State :=
  match s.item? ref with
  | none => s
  | some it =>
    if dir.outward then
      match s.judgeOutward it (it.classFields.getD unmatchedClass) with
      | some r => s.giveVerdict ref r.verdict r.reason
      | none => s.askAbout ref
    else s.giveVerdict ref .notJudged .direction

/-- Items judged one by one, in item-list order (R111 step 5). -/
def judgeItems (n : Nat) (dir : Direction) : List Nat → State → State
  | [], s => s
  | i :: is, s => judgeItems n dir is (s.judgeItem dir ⟨n, i⟩)

/-- The judging event up to its last step: judging state, COUNT_ONLY, class matching, OVERFLOW, the items (R111). -/
def State.judge (s : State) (n : Nat) : State :=
  match s.passage? n with
  | none => s
  | some p =>
    let dir := p.direction.getD .unknown
    let s1 := s.modPassage n fun q =>
      { q with judging := some ⟨false, q.items.length⟩,
               flags := { q.flags with countOnly := q.flags.countOnly || s.params.countOnly[q.lane] },
               items := q.items.map fun it => { it with classFields := some (s.classOf it) } }
    let s2 := if dir.outward && p.flags.overflow then s1.passageAlarm n .overflow none else s1
    judgeItems n dir (List.range p.items.length) s2

/-- A SETTLING passage attributed now, moved to JUDGING and judged; complete at once when no item went to a query
(R21, R97, R111). -/
def State.settleNow (s : State) (n : Nat) : State := ((s.attribute n).judge n).completeIfDone n

/-! ### Answers, timeouts, silence, forcing (07) -/

/-- An item's slot freed and a verdict given, its passage complete if it was the last, the slot handed on
(R128, R131). -/
def State.resolveSlot (s : State) (j : SlotNo) (q : Question) (verdict : Verdict) (reason : Reason) : State :=
  (((s.freeSlot j).giveVerdict q.ref verdict reason).completeIfDone q.ref.passage).handSlotsOn

/-- The fallback verdict of the item a reference names. -/
def State.fallbackOf (s : State) (ref : ItemRef) : Verdict := ((s.item? ref).map Item.fallback).getD .alarm

/-- The question an ANSWER matches (R128). -/
def State.matchedSlot (s : State) (slot : Nat) (item : ItemNo) : Option (SlotNo × Question) :=
  if h : slot < 4 then
    match s.slots[slot] with
    | some q => if q.item = item then some (⟨slot, h⟩, q) else none
    | none => none
  else none

/-- A late answer counted and dropped (R129). -/
def State.lateAnswer (s : State) : State := s.modDevice fun d => { d with lateAnswers := bump d.lateAnswers }

/-- A delivered ANSWER taken by the check unit (R128, R129, R109). -/
def State.takeAnswer (s : State) (slot : Nat) (item : ItemNo) (result : Nat) : State :=
  match s.matchedSlot slot item with
  | none => s.lateAnswer
  | some (j, q) =>
    match result with
    | 1 => (s.addLoan item).resolveSlot j q .pass .hostIssued
    | 2 => s.resolveSlot j q .alarm .hostNotIssued
    | 3 => s.resolveSlot j q (s.fallbackOf q.ref) .hostUnknown
    | _ => s.lateAnswer

/-- SLOT_TIMER_EXPIRY (R131). -/
def slotTimerExpiry (j : SlotNo) (s : State) : State :=
  match s.slots[j] with
  | some q =>
    if due s.gateTime q.timer then
      ((s.modDevice fun d => { d with queryTimeouts := bump d.queryTimeouts }).resolveSlot j q (s.fallbackOf q.ref)
        .queryTimeout).recomputeLines
    else s
  | none => s

/-- The meaning of SLOT_TIMER_EXPIRY. -/
def execSlotTimerExpiry (j : SlotNo) (s : State) : Host.Outcome State Fault Refusal := .next (slotTimerExpiry j s)

/-- A slot in flight put into a list ordered by taking order (R133). -/
def insertByOrder (x : SlotNo × Question) : List (SlotNo × Question) → List (SlotNo × Question)
  | [] => [x]
  | y :: ys => if before x.2.order y.2.order then x :: y :: ys else y :: insertByOrder x ys

/-- The slots in flight, by taking order (R133). -/
def State.slotsInOrder (s : State) : List (SlotNo × Question) :=
  (allSlots.filterMap fun j => s.slots[j].map fun q => (j, q)).foldl (fun l x => insertByOrder x l) []

/-- Items in slots resolved by STANDALONE, in taking order (R133 step 1). -/
def resolveSlots : List (SlotNo × Question) → State → State
  | [], s => s
  | (j, q) :: rest, s =>
    resolveSlots rest (((s.freeSlot j).giveFallback q.ref .standalone).completeIfDone q.ref.passage)

/-- Items of the waiting list resolved by STANDALONE, from the head (R133 step 2). -/
def resolveWaiting : List ItemRef → State → State
  | [], s => s
  | ref :: rest, s =>
    resolveWaiting rest (({ s with waiting := rest }.giveFallback ref .standalone).completeIfDone ref.passage)

/-- Every pending item resolved as the link becomes STANDALONE (R133). -/
def State.resolveStandalone (s : State) : State :=
  let s1 := resolveSlots s.slotsInOrder s
  resolveWaiting s1.waiting s1

/-- The items of a forced passage without verdict given their fallbacks, slots freed, in item-list order
(R134 step 2). -/
def forceItems (n : Nat) : List Nat → State → State
  | [], s => s
  | i :: is, s =>
    match s.item? ⟨n, i⟩ with
    | some it =>
      if it.ruling.isSome then forceItems n is s
      else
        let s1 :=
          match it.slot with
          | some j => s.freeSlot j
          | none => s
        forceItems n is (s1.giveFallback ⟨n, i⟩ .forced)
    | none => forceItems n is s

/-- The questions of a passage withdrawn by its forced completion (R134). -/
def State.withdrawQuestions (s : State) (n : Nat) : State :=
  let count := ((s.passage? n).map fun p => p.items.length).getD 0
  let s1 := { s with waiting := s.waiting.filter fun r => r.passage != n }
  (forceItems n (List.range count) s1).handSlotsOn

end Sys2Proof.Machine
end

