-- ==== Sys2Proof/Machine/Passage.lean ====
section
/-! DEFINITION. The passage unit (01): closing, settling, forced completion, opening, the lane tracker, synthetic passages. -/

namespace Sys2Proof.Machine

/-! ### Closing and settling -/

/-- The retained counts of a lane after a passage of this direction and number of persons closes in it (R25). -/
def LaneCounts.addClosed (c : LaneCounts) (dir : Direction) (persons : Nat) : LaneCounts :=
  match dir with
  | .out => { c with personsOut := raise c.personsOut persons, passagesOut := raise c.passagesOut 1 }
  | .in_ => { c with personsIn := raise c.personsIn persons, passagesIn := raise c.passagesIn 1 }
  | .none_ => { c with passagesNone := raise c.passagesNone 1 }
  | .unknown => { c with passagesUnknown := raise c.passagesUnknown 1 }

/-- A passage closed: direction and closed time set, SETTLING entered, the counts raised; with SETTLE_TIME 0 it is
attributed and judged within the event (R10, R12, R14, R15, R17, R21). -/
def State.closePassage (s : State) (p : Passage) (dir : Direction) (stamp : Time) : State :=
  let timer := if s.params.settleTime = 0 then none else some (after s.gateTime s.params.settleTime)
  let s1 := s.modPassage p.number fun q =>
    { q with phase := .settling, direction := some dir, closed := some stamp, presence := none, settle := timer }
  let s2 := s1.modCounts p.lane fun c => c.addClosed dir p.persons
  if s.params.settleTime = 0 then s2.settleNow p.number else s2

/-- The lane's OPEN passage, if there is one, closed (R10, R14). -/
def State.closeOpen (s : State) (k : Lane) (dir : Direction) (stamp : Time) : State :=
  match s.openPassage? k with
  | some p => s.closePassage p dir stamp
  | none => s

/-- SETTLE_TIMER_EXPIRY (R21). -/
def settleTimerExpiry (n : Nat) (s : State) : State :=
  match s.passage? n with
  | some p => if p.phase = .settling ∧ fires p.settle s.gateTime then (s.settleNow n).endEvent s else s
  | none => s

/-- The meaning of SETTLE_TIMER_EXPIRY. -/
def execSettleTimerExpiry (n : Nat) (s : State) : Host.Outcome State Fault Refusal := .next (settleTimerExpiry n s)

/-- PRESENCE_TIMER_EXPIRY (R17); the closed time is the timer's expiry. -/
def presenceTimerExpiry (n : Nat) (s : State) : State :=
  match s.passage? n with
  | some p =>
    match p.presence with
    | some e =>
      if p.phase = .open_ ∧ due s.gateTime e then (s.closePassage p .unknown e).endEvent s else s
    | none => s
  | none => s

/-- The meaning of PRESENCE_TIMER_EXPIRY. -/
def execPresenceTimerExpiry (n : Nat) (s : State) : Host.Outcome State Fault Refusal := .next (presenceTimerExpiry n s)

/-! ### Forced completion and opening -/

/-- The record with the oldest opened time among those not OPEN, the first opened of equals (R23). -/
def State.forcedChoice (s : State) : Option Passage :=
  match s.passages.filter fun p => p.phase != .open_ with
  | [] => none
  | x :: xs => some (xs.foldl (fun best y => if before y.opened best.opened then y else best) x)

/-- A record completed by force (R23, R98, R120, R134). -/
def State.forceCompletion (s : State) (p : Passage) : State :=
  let s1 := if p.phase = .settling then (s.attribute p.number).judge p.number else s
  let s2 := s1.withdrawQuestions p.number
  let s3 := s2.modPassage p.number fun q => { q with flags := { q.flags with forced := true } }
  let s4 := s3.modDevice fun d => { d with forcedCompletions := bump d.forcedCompletions }
  match s4.passage? p.number with
  | some q => (s4.queueReport (reportBody q)).freePassage p.number
  | none => s4

/-- Room made for one more record, by force when the table is full (R23). -/
def State.makeRoom (s : State) : State :=
  if s.passages.length < Config.maxPassages then s
  else
    match s.forcedChoice with
    | some p => s.forceCompletion p
    | none => s

/-- The passage number after `n`: from 65535 to 1 (R19). -/
def nextNumber (n : Nat) : Nat := if n ≥ 65535 then 1 else n + 1

/-- The first number from `n` on that no record holds, trying `fuel` numbers (R19). -/
def freeNumber (used : List Nat) : Nat → Nat → Nat
  | 0, n => n
  | fuel + 1, n => if used.contains n then freeNumber used fuel (nextNumber n) else n

/-- A passage opened in lane `k`, after room is made and before it is marked (R9, R16, R19, R20, R23). -/
def State.openPassage (s : State) (k : Lane) (first : Option Beam) (persons : Nat) (opened : Time)
    (presence : Option Time) : State :=
  let s1 := s.makeRoom
  let n := freeNumber (s1.passages.map (·.number)) (s1.passages.length + 1) s1.nextPassage
  let p : Passage :=
    { number := n, lane := k, phase := .open_, firstBeam := first, direction := none, persons := persons,
      opened := opened, closed := none, flags := { synthetic := first.isNone }, items := [], settle := none,
      presence := presence, judging := none }
  { s1 with passages := s1.passages ++ [p.mark (s1.laneCondition k)], nextPassage := nextNumber n }

/-! ### The lane tracker (R9 to R15) -/

/-- The direction a completed crossing takes from its first beam (R12). -/
def crossingDirection : Beam → Direction
  | .inner => .out
  | .outer => .in_

/-- A BREAK of beam `x` of lane `k`, as the lane's tracker takes it (R9 to R13). -/
def State.trackBreak (s : State) (k : Lane) (x : Beam) (stamp : Time) : State :=
  match s.trackers[k] with
  | some .clear => (s.setTracker k (some (.opening x))).openPassage k (some x) 1 stamp none
  | some (.opening first) => if x = first then s else s.setTracker k (some (.crossing first))
  | some (.leaving first cleared) =>
    if x = first then
      let s1 := s.setTracker k (some (.crossing first))
      if stampInterval cleared stamp ≥ s.params.followGap then
        match s.openPassage? k with
        | some p => s1.modPassage p.number fun q => { q with persons := satAdd Config.maxPersons q.persons 1 }
        | none => s1
      else s1
    else s
  | _ => s

/-- A CLEAR of beam `x` of lane `k`, as the lane's tracker takes it (R10 to R13); the filtered level is already CLEAR. -/
def State.trackClear (s : State) (k : Lane) (x : Beam) (stamp : Time) : State :=
  match s.trackers[k] with
  | some (.opening first) =>
    if x = first then (s.setTracker k (some .clear)).closeOpen k .none_ stamp else s
  | some (.crossing first) =>
    if x = first then s.setTracker k (some (.leaving first stamp)) else s.setTracker k (some (.opening first))
  | some (.leaving first _) =>
    if x = first then s
    else
      let s1 := s.setTracker k (some .clear)
      match s.openPassage? k with
      | some p => s1.closePassage p (crossingDirection (p.firstBeam.getD first)) stamp
      | none => s1
  | some .waitClear => if s.laneClear k then s.setTracker k (some .clear) else s
  | _ => s

/-- A beam fault event of lane `k` (R14). -/
def State.trackFault (s : State) (k : Lane) (stamp : Time) : State :=
  match s.trackers[k] with
  | some .fault => s
  | some _ => (s.setTracker k (some .fault)).closeOpen k .unknown stamp
  | none => s

/-- A tracker set afresh from the lane's filtered levels: CLEAR, or WAIT_CLEAR where a beam is blocked (R15, R24, R27). -/
def State.freshTracker (s : State) (k : Lane) : Tracker := if s.laneClear k then .clear else .waitClear

/-- A beam recovery event of lane `k` (R15). -/
def State.trackRecovery (s : State) (k : Lane) (stamp : Time) : State :=
  match s.trackers[k] with
  | some .fault =>
    if s.laneHasFault k then s
    else
      let s1 := s.setTracker k (some (s.freshTracker k))
      match s.openPassage? k with
      | some p => if p.flags.synthetic then s1.closePassage p .unknown stamp else s1
      | none => s1
  | _ => s

/-! ### Synthetic passages and the merge of a read (R16, R69) -/

/-- Whether a read's sighting, in its state after the merge, may open or extend a synthetic passage (R16). -/
def SightState.mayQualify : SightState → Bool
  | .active => true
  | .resident _ => false
  | .claimed _ dir => !dir.outward

/-- A qualifying read in lane `k`: a synthetic passage opened, or its presence timer restarted (R16). -/
def State.qualifyingRead (s : State) (k : Lane) (time : Time) : State :=
  let timer := some (after s.gateTime Config.presenceGap)
  match s.openPassage? k with
  | none => s.openPassage k none 0 time timer
  | some p => if p.flags.synthetic then s.modPassage p.number fun q => { q with presence := timer } else s

/-- A merged read as the passage unit takes it, lane by lane of those beside the read's antenna (R16, log entry 10). -/
def State.readReported (s : State) (r : Read) (strength : Nat) (st : SightState) : State :=
  (lanesBeside r.antenna).foldl (fun t k =>
    if s.trackers[k] == some .fault && Config.presenceStrength ≤ strength && st.mayQualify then t.qualifyingRead k r.time
    else t) s

/-- READ_MERGE: the head read removed and merged, reported, and an age expiry that has already passed taken at once
(R69, R75, R32, R16). DEDUCED: that expiry is part of this command. DESIGN CHOICE: an age expiry equal to gate time at the merge
counts as already passed, so no attribution or merge of that moment comes between (log entry 13). -/
def readMerge (s : State) : State :=
  match s.intake with
  | [] => s
  | r :: rest =>
    let s1 := { s with intake := rest }.readRemoved
    let e := s1.mergedEntry r
    let s2 := (s1.mergeRead r).readReported r (s1.strength r) e.state
    (s2.expireAge r.item).endEvent s

/-- The meaning of READ_MERGE. -/
def execReadMerge (s : State) : Host.Outcome State Fault Refusal := .next (readMerge s)

end Sys2Proof.Machine
end

