-- ==== Sys2Proof/Machine/Beams.lean ====
section
/-! DEFINITION. The beam unit (01, section 1.1): filtering of beams and key, stuck beams, recovery, changes of service. -/

namespace Sys2Proof.Machine

/-- A raw level change as the filter takes it: the timer started, kept, or stopped when the level returns (R1). -/
def BeamState.rawChange (b : BeamState) (level : BeamLevel) (now : Time) (filter : Nat) : BeamState :=
  if level = b.raw then b
  else if level = b.filtered then { b with raw := level, filter := none }
  else { b with raw := level, filter := some ⟨now, after now filter⟩ }

/-- BEAM_RAW_CHANGE (R1, R5). -/
def beamRawChange (k : Lane) (x : Beam) (level : BeamLevel) (s : State) : State :=
  s.modBeam k x fun b => b.rawChange level s.gateTime s.params.beamFilter

/-- The meaning of BEAM_RAW_CHANGE. -/
def execBeamRawChange (k : Lane) (x : Beam) (level : BeamLevel) (s : State) : Host.Outcome State Fault Refusal :=
  .next (beamRawChange k x level s)

/-- The gate time BEAM_STUCK after `t` (R3). -/
def State.stuckExpiry (s : State) (t : Time) : Time := after t (s.params.beamStuck * 1000)

/-- A BREAK issued for a beam of a lane in service (R3, R9 to R13). -/
def State.issueBreak (s : State) (k : Lane) (x : Beam) (stamp : Time) : State :=
  (s.modBeam k x fun b => { b with stuck := some (s.stuckExpiry stamp) }).trackBreak k x stamp

/-- A CLEAR issued for a beam of a lane in service; of a beam in fault it ends the fault (R3, R4). -/
def State.issueClear (s : State) (k : Lane) (x : Beam) (stamp : Time) : State :=
  let s1 := (s.modBeam k x fun b => { b with stuck := none }).trackClear k x stamp
  if (s.beam k x).fault then
    let s2 := s1.modBeam k x fun b => { b with fault := false }
    (s2.queueNotice (beamNoticeBody .beamRecovered k x)).trackRecovery k stamp
  else s1

/-- BEAM_FILTER_EXPIRY: the filtered level takes the raw level, and the event is delivered when the lane is in service
(R1, R2, R5). -/
def beamFilterExpiry (k : Lane) (x : Beam) (s : State) : State :=
  match (s.beam k x).filter with
  | some t =>
    if due s.gateTime t.expiry then
      let level := (s.beam k x).raw
      let s1 := s.modBeam k x fun b => { b with filtered := level, filter := none }
      if s.laneInService k then
        (match level with
          | .blocked => s1.issueBreak k x t.start
          | .clear => s1.issueClear k x t.start).endEvent s
      else s1
    else s
  | none => s

/-- The meaning of BEAM_FILTER_EXPIRY. -/
def execBeamFilterExpiry (k : Lane) (x : Beam) (s : State) : Host.Outcome State Fault Refusal :=
  .next (beamFilterExpiry k x s)

/-- STUCK_TIMER_EXPIRY: the beam enters fault; the fault event is stamped with the timer's expiry (R3, R14). -/
def stuckTimerExpiry (k : Lane) (x : Beam) (s : State) : State :=
  match (s.beam k x).stuck with
  | some e =>
    if due s.gateTime e then
      let s1 := s.modBeam k x fun b => { b with stuck := none, fault := true }
      ((s1.queueNotice (beamNoticeBody .beamFault k x)).trackFault k e).endEvent s
    else s
  | none => s

/-- The meaning of STUCK_TIMER_EXPIRY. -/
def execStuckTimerExpiry (k : Lane) (x : Beam) (s : State) : Host.Outcome State Fault Refusal :=
  .next (stuckTimerExpiry k x s)

/-- KEY_RAW_CHANGE (R6). -/
def keyRawChange (pressed : Bool) (s : State) : State :=
  if pressed = s.key.raw then s
  else if pressed = s.key.filtered then { s with key := { s.key with raw := pressed, filter := none } }
  else
    { s with key := { s.key with raw := pressed, filter := some ⟨s.gateTime, after s.gateTime Config.keyFilter⟩ } }

/-- The meaning of KEY_RAW_CHANGE. -/
def execKeyRawChange (pressed : Bool) (s : State) : Host.Outcome State Fault Refusal := .next (keyRawChange pressed s)

/-- KEY_FILTER_EXPIRY: a change to PRESSED is a press, an acknowledgement of lanes 0 to 3 (R6, R142). -/
def keyFilterExpiry (s : State) : State :=
  match s.key.filter with
  | some t =>
    if due s.gateTime t.expiry then
      let s1 := { s with key := { s.key with filtered := s.key.raw, filter := none } }
      if s.key.raw then (s1.acknowledgeLanes fun _ => true).recomputeLines else s1
    else s
  | none => s

/-- The meaning of KEY_FILTER_EXPIRY. -/
def execKeyFilterExpiry (s : State) : Host.Outcome State Fault Refusal := .next (keyFilterExpiry s)

/-- A beam of a lane that leaves service: its stuck timer stopped and its fault ended silently (R5). -/
def BeamState.leaveService (b : BeamState) : BeamState := { b with stuck := none, fault := false }

/-- A beam of a lane that enters service: a stuck timer for a blocked beam (R5). -/
def BeamState.enterService (b : BeamState) (expiry : Time) : BeamState :=
  { b with stuck := if b.filtered = .blocked then some expiry else none }

/-- A lane that leaves service, in the beam unit, the passage unit and the alarm unit (R5, R24, R144). -/
def State.laneLeaves (s : State) (k : Lane) : State :=
  ({ s with beams := modAt s.beams k fun b => ⟨b.inner.leaveService, b.outer.leaveService⟩ }.setTracker k none).quietLane k

/-- A lane that enters service (R5, R24). -/
def State.laneEnters (s : State) (k : Lane) : State :=
  let e := s.stuckExpiry s.gateTime
  { s with beams := modAt s.beams k fun b => ⟨b.inner.enterService e, b.outer.enterService e⟩ }.setTracker k
    (some (s.freshTracker k))

/-- The effects of a change of LANES from `old` to the value now stored (R5, R24, R63, R144). -/
def State.lanesChanged (s : State) (old : Nat) : State :=
  let s1 := allLanes.foldl (fun t k =>
    if s.laneInService k && !decide (k.val < old) then t.laneEnters k
    else if !s.laneInService k && decide (k.val < old) then t.laneLeaves k
    else t) s
  s1.withdrawBeyondLanes.choose

end Sys2Proof.Machine
end

