-- ==== Sys2Proof/Machine/Reset.lean ====
section
/-! DEFINITION. The three kinds of reset: power-on and the reset pin (R169 and the reset rule of each block), and the restart
that takes place as the RESTART reply leaves the line (R168). -/

namespace Sys2Proof.Machine

/-- A beam after a reset: the filtered level from the raw level as found, and a stuck timer from gate time 0 for a blocked
beam of a lane in service (R7). -/
def BeamState.afterReset (b : BeamState) (inService : Bool) (stuck : Time) : BeamState :=
  { raw := b.raw, filtered := b.raw, filter := none,
    stuck := if inService && b.raw == .blocked then some stuck else none, fault := false }

/-- The beam unit after a reset (R7). -/
def State.resetBeams (s : State) : State :=
  let stuck := s.stuckExpiry 0
  { s with
    beams := perLane fun k =>
      ⟨s.beams[k].inner.afterReset (s.laneInService k) stuck, s.beams[k].outer.afterReset (s.laneInService k) stuck⟩,
    key := ⟨s.key.raw, s.key.raw, none⟩ }

/-- The trackers after a reset, from the filtered levels (R27). -/
def State.resetTrackers (s : State) : State :=
  { s with trackers := perLane fun k => if s.laneInService k then some (s.freshTracker k) else none }

/-- Power-on and the reset pin: the state after power-on, with the inputs as found; the frame being sent ends where it
stands, and field off is requested (R52, R169, log entry 6). -/
def State.powerUp (s : State) (cause : RestartCause) (strapA strapB : Bool) : State :=
  { State.reset with
    pending := s.pending, restartCause := cause, speed := speedOfStraps strapA strapB, beams := s.beams, key := s.key,
    air := s.air ++ [AirCommand.fieldOff] }.resetBeams.resetTrackers

/-- The meaning of POWER_ON. -/
def execPowerOn (strapA strapB : Bool) (s : State) : Host.Outcome State Fault Refusal :=
  .next (s.powerUp .powerOn strapA strapB)

/-- The meaning of RESET_PIN. -/
def execResetPin (strapA strapB : Bool) (s : State) : Host.Outcome State Fault Refusal :=
  .next (s.powerUp .resetPin strapA strapB)

/-- A line at RESTART: its test ended; its phase kept, so the pulse timer keeps its remaining time as gate time starts again
from 0 (R152, R168, log entry 20). -/
def LineState.atRestart (l : LineState) (now : Time) : LineState :=
  { l with test := none, pulse := l.pulse.map fun e => e - now, resume := none }

/-- The working state that every block but the beam unit and the trackers sets afresh at RESTART (R27, R46, R47, R51, R52,
R64, R85, R123, R137, R152, R168, R184). -/
def State.clearWorking (s : State) : State :=
  { s with
    gateTime := 0, restartCause := .restart,
    passages := [], nextPassage := 1,
    grant := none, lastGranted := none, lastBackground := 0, bgTimer := some (after 0 s.params.bgInterval),
    antennas := Vector.replicate 5 {},
    engine := .closing, round := none, field := none, air := s.air ++ [AirCommand.fieldOff],
    storedExp := Vector.replicate 5 s.params.startExp, linkCounters := Vector.replicate 5 {}, intake := [],
    sightings := [], loans := [],
    slots := Vector.replicate 4 none, waiting := [], nextOrder := 1,
    alarms := Vector.replicate 4 {}, lines := perLine fun l => s.lines[l].atRestart s.gateTime,
    rx := .hunt, gap := none, buffers := [], reply := none, notices := [], reports := [], restartPending := false,
    silence := if s.linked && s.params.silenceLimit != 0 then some (after 0 (s.params.silenceLimit * 1000)) else none,
    device := {} }

/-- The restart, in the event in which the RESTART reply leaves the line (R168). -/
def State.restartNow (s : State) : State := s.clearWorking.resetBeams.resetTrackers.recomputeLines

end Sys2Proof.Machine
end

