-- ==== Sys2Proof/Machine/Messages.lean ====
section
/-! DEFINITION. The messages of the circulation computer (10): what each command does when its frame is taken, the data of its
reply, and the taking of frames from the receive buffers (R161 to R163). -/

namespace Sys2Proof.Machine

/-- What the taking of a command gives: the state after its effects, and the result and data of its REPLY. -/
structure Taken where
  state : State
  result : Result
  data : List Byte
deriving DecidableEq, Repr

/-- A command refused: no effect of any kind, no data (R162). -/
def refuse (s : State) (r : Result) : Taken := ⟨s, r, []⟩

/-! ### Data blocks (R178) -/

/-- The five bytes of a lane in the status block (R178). -/
def State.laneStatus (s : State) (k : Lane) : List Byte :=
  [trackerCode s.trackers[k],
   if s.laneInService k then flagByte s.beams[k].inner.fault + 2 * flagByte s.beams[k].outer.fault else 0,
   s.alarms[k].state.code,
   flagByte s.params.countOnly[k],
   if s.laneInService k then (s.laneCondition k).code else 0xFF]

/-- The number of sightings whose state satisfies `p` (R84). -/
def State.countSightings (s : State) (p : SightState → Bool) : Nat := s.sightings.countP fun e => p e.state

/-- Whether a sighting's state is ACTIVE, RESIDENT, CLAIMED. -/
def SightState.isActive : SightState → Bool
  | .active => true
  | _ => false
/-- RESIDENT. -/
def SightState.isResident : SightState → Bool
  | .resident _ => true
  | _ => false
/-- CLAIMED. -/
def SightState.isClaimed : SightState → Bool
  | .claimed _ _ => true
  | _ => false

/-- The number of slots in flight (R124). -/
def State.slotsInFlight (s : State) : Nat := allSlots.countP fun j => s.slots[j].isSome

/-- The 46-byte status block (R178, R185). -/
def State.statusBlock (s : State) : List Byte :=
  [s.restartCause.code, flagByte s.linked, BitVec.ofNat 8 s.params.lanes] ++ toBytes 4 s.gateTime.toNat
    ++ allLanes.flatMap s.laneStatus ++ allAntennas.map (fun a => flagByte (s.countedOut a))
    ++ [BitVec.ofNat 8 s.passages.length, BitVec.ofNat 8 s.sightings.length,
        BitVec.ofNat 8 (s.countSightings SightState.isActive), BitVec.ofNat 8 (s.countSightings SightState.isResident),
        BitVec.ofNat 8 (s.countSightings SightState.isClaimed)]
    ++ toBytes 2 s.loans.length ++ [BitVec.ofNat 8 s.slotsInFlight] ++ toBytes 2 s.waiting.length
    ++ toBytes 2 s.device.noticesLost ++ toBytes 2 s.device.reportsLost

/-- The 28 bytes of a lane's retained counts (R178). -/
def LaneCounts.bytes (c : LaneCounts) : List Byte :=
  [c.personsOut, c.personsIn, c.passagesOut, c.passagesIn, c.passagesNone, c.passagesUnknown, c.withAlarm].flatMap
    (toBytes 4)

/-- The 18 bytes of an antenna's link counters (R178). -/
def LinkCounters.bytes (c : LinkCounters) : List Byte :=
  [c.rounds, c.singles, c.collisions, c.corrupt, c.noise, c.foreign, c.holds, c.abandoned, c.fieldFaults].flatMap
    (toBytes 2)

/-- The 16 bytes of the eight device counters that STATS_READ returns (R178). -/
def DeviceCounters.bytes (d : DeviceCounters) : List Byte :=
  [d.evictions, d.unattributed, d.lateAnswers, d.queryTimeouts, d.forcedCompletions, d.loanEvictions, d.framesRejected,
   d.overruns].flatMap (toBytes 2)

/-- The 20 bytes of a class entry (R174). -/
def ClassEntry.bytes (n : Nat) (e : ClassEntry) : List Byte :=
  [BitVec.ofNat 8 n, flagByte e.enabled] ++ toBytes 2 e.ownerValue.toNat ++ toBytes 2 e.ownerMask.toNat
    ++ toBytes 4 e.prefixValue.toNat ++ toBytes 4 e.prefixMask.toNat ++ toBytes 2 e.classSet.toNat
    ++ [e.fields.action.code, flagByte e.fields.noQuery, flagByte e.fields.fallbackPass, flagByte e.fields.guarded]

/-- The 7 bytes of a rate table entry (R174). -/
def RateEntry.bytes (n : Nat) (e : RateEntry) : List Byte :=
  [BitVec.ofNat 8 n, flagByte e.enabled] ++ toBytes 2 e.nominal ++ [BitVec.ofNat 8 e.tolerance]
    ++ toBytes 2 e.pattern.toNat

/-- The 10 bytes of the owner filter (R174). -/
def OwnerFilter.bytes (f : OwnerFilter) : List Byte :=
  toBytes 2 f.primaryCode.toNat ++ toBytes 2 f.primaryMask.toNat ++ toBytes 2 f.secondaryCode.toNat
    ++ toBytes 2 f.secondaryMask.toNat ++ [flagByte f.secondaryEnable, flagByte f.acceptBlank]

/-! ### Parameters (11) -/

/-- The action of a SET of SILENCE_LIMIT on the silence timer (R160). -/
def State.silenceSet (s : State) : State :=
  if s.params.silenceLimit = 0 then { s with silence := none }
  else if s.linked then { s with silence := some (after s.gateTime (s.params.silenceLimit * 1000)) }
  else s

/-- One pair of a SET stored, with its immediate effects (R181, R182). -/
def State.storePair (s : State) (pair : Nat × Int) : State :=
  let s1 := { s with params := s.params.put pair.1 (paramClamp pair.1 pair.2) }
  match pair.1 with
  | 1 => if s1.params.lanes = s.params.lanes then s1 else s1.lanesChanged s.params.lanes
  | 12 => s1.restartBackground
  | 13 => s1.resetExps
  | 18 => s1.silenceSet
  | _ => s1

/-- Whether a SET is refused with BUSY: it changes LANES while the passage table holds a record (R24, R182). -/
def State.setBusy (s : State) (pairs : List (Nat × Int)) : Bool :=
  !s.passages.isEmpty && pairs.any fun p => p.1 == 1 && paramClamp 1 p.2 != (s.params.lanes : Int)

/-- The pairs of a SET with the values that they store (R182). -/
def storedPairs (pairs : List (Nat × Int)) : List (Nat × Int) := pairs.map fun p => (p.1, paramClamp p.1 p.2)

/-- Pairs of id and value as data (R173). -/
def pairBytes (pairs : List (Nat × Int)) : List Byte := pairs.flatMap fun p => BitVec.ofNat 8 p.1 :: signedBytes p.2

/-- SET (R182). -/
def takeSet (fields : List Byte) (s : State) : Taken :=
  let pairs := setPairs fields
  if pairs.any fun p => !paramIdOk p.1 then refuse s .badIndex
  else if s.setBusy pairs then refuse s .busy
  else
    ⟨(pairs.foldl State.storePair s).endEvent s, if storedPairs pairs = pairs then .ok else .clamped,
      pairBytes (storedPairs pairs)⟩

/-- GET (R183). -/
def takeGet (fields : List Byte) (s : State) : Taken :=
  if fields.any fun b => !paramIdOk b.toNat then refuse s .badIndex
  else ⟨s, .ok, pairBytes (fields.map fun b => (b.toNat, s.params.get b.toNat))⟩

/-! ### Tables -/

/-- The class entry a CLASS_WRITE carries, with the action given (R103, R174). -/
def classEntryOf (fields : List Byte) (action : Action) : ClassEntry :=
  { enabled := fieldFlag fields 1,
    ownerValue := BitVec.ofNat 16 (fieldNat fields 2 2), ownerMask := BitVec.ofNat 16 (fieldNat fields 4 2),
    prefixValue := BitVec.ofNat 32 (fieldNat fields 6 4), prefixMask := BitVec.ofNat 32 (fieldNat fields 10 4),
    classSet := BitVec.ofNat 16 (fieldNat fields 14 2),
    fields := ⟨action, fieldFlag fields 17, fieldFlag fields 18, fieldFlag fields 19⟩ }

/-- CLASS_WRITE (R103). -/
def takeClassWrite (fields : List Byte) (s : State) : Taken :=
  let n := fieldNat fields 0 1
  if h : n < 8 then
    match actionOf (fieldNat fields 16 1) with
    | some action =>
      let e := classEntryOf fields action
      ⟨{ s with classes := s.classes.set n e }, .ok, e.bytes n⟩
    | none => refuse s .badIndex
  else refuse s .badIndex

/-- CLASS_READ (R103). -/
def takeClassRead (fields : List Byte) (s : State) : Taken :=
  let n := fieldNat fields 0 1
  if h : n < 8 then ⟨s, .ok, s.classes[n].bytes n⟩ else refuse s .badIndex

/-- RATE_WRITE (R48). -/
def takeRateWrite (fields : List Byte) (s : State) : Taken :=
  let n := fieldNat fields 0 1
  if h : n < 4 then
    let nominal := fieldNat fields 2 2
    let tolerance := fieldNat fields 4 1
    let e : RateEntry :=
      ⟨fieldFlag fields 1, min nominal 1023, min tolerance 63, BitVec.ofNat 16 (fieldNat fields 5 2)⟩
    ⟨{ s with rates := s.rates.set n e }, if nominal ≤ 1023 ∧ tolerance ≤ 63 then .ok else .clamped, e.bytes n⟩
  else refuse s .badIndex

/-- RATE_READ (R48). -/
def takeRateRead (fields : List Byte) (s : State) : Taken :=
  let n := fieldNat fields 0 1
  if h : n < 4 then ⟨s, .ok, s.rates[n].bytes n⟩ else refuse s .badIndex

/-- OWNER_SET (R50). -/
def takeOwnerSet (fields : List Byte) (s : State) : Taken :=
  let f : OwnerFilter :=
    ⟨BitVec.ofNat 16 (fieldNat fields 0 2), BitVec.ofNat 16 (fieldNat fields 2 2),
      BitVec.ofNat 16 (fieldNat fields 4 2), BitVec.ofNat 16 (fieldNat fields 6 2), fieldFlag fields 8,
      fieldFlag fields 9⟩
  ⟨{ s with owner := f }, .ok, f.bytes⟩

/-- OWNER_READ (R50). -/
def takeOwnerRead (s : State) : Taken := ⟨s, .ok, s.owner.bytes⟩

/-! ### Lines and alarms (08) -/

/-- ROUTE_SET (R146). -/
def takeRouteSet (fields : List Byte) (s : State) : Taken :=
  let n := fieldNat fields 0 1
  let set := fieldNat fields 1 1
  if h : n < 13 then
    if set < 64 then
      ⟨{ s with routes := s.routes.set n (BitVec.ofNat 6 set) }.recomputeLines, .ok,
        [BitVec.ofNat 8 n, BitVec.ofNat 8 set]⟩
    else refuse s .badIndex
  else refuse s .badIndex

/-- ROUTE_READ (R146). -/
def takeRouteRead (fields : List Byte) (s : State) : Taken :=
  let n := fieldNat fields 0 1
  if h : n < 13 then ⟨s, .ok, [BitVec.ofNat 8 n, BitVec.ofNat 8 s.routes[n].toNat]⟩ else refuse s .badIndex

/-- PATTERN_SET (R148). -/
def takePatternSet (fields : List Byte) (s : State) : Taken :=
  let n := fieldNat fields 0 1
  let pulsed := fieldFlag fields 1
  if h : n < 6 then
    ⟨s.modLine ⟨n, h⟩ fun l => l.setPattern pulsed s.gateTime, .ok, [BitVec.ofNat 8 n, flagByte pulsed]⟩
  else refuse s .badIndex

/-- ACKNOWLEDGE (R141). -/
def takeAcknowledge (fields : List Byte) (s : State) : Taken :=
  let set := fieldNat fields 0 1
  if set < 16 then ⟨(s.acknowledgeLanes fun k => set.testBit k.val).recomputeLines, .ok, []⟩ else refuse s .badIndex

/-- LINE_TEST (R149). -/
def takeLineTest (fields : List Byte) (s : State) : Taken :=
  let n := fieldNat fields 0 1
  let asked := fieldNat fields 1 1
  let used := max 1 (min asked 60)
  if h : n < 6 then
    ⟨(s.modLine ⟨n, h⟩ fun l => { l with test := some (after s.gateTime (used * 1000)) }).recomputeLines,
      if used = asked then .ok else .clamped, [BitVec.ofNat 8 n, BitVec.ofNat 8 used]⟩
  else refuse s .badIndex

/-! ### Loan list (06) -/

/-- The number of loan list entries, as the replies carry it (R106, R107). -/
def State.loanCount (s : State) : List Byte := toBytes 2 s.loans.length

/-- LOAN_ADD (R106). -/
def takeLoanAdd (fields : List Byte) (s : State) : Taken :=
  let t := (itemNumbers fields).foldl State.addLoan s
  ⟨t, .ok, t.loanCount⟩

/-- LOAN_DROP (R107). -/
def takeLoanDrop (fields : List Byte) (s : State) : Taken :=
  let t := { s with loans := (itemNumbers fields).foldl dropLoan s.loans }
  ⟨t, .ok, t.loanCount⟩

/-- LOAN_CLEAR (R107). -/
def takeLoanClear (s : State) : Taken :=
  let t := { s with loans := [] }
  ⟨t, .ok, t.loanCount⟩

/-! ### Counts, statistics, status, restart -/

/-- COUNTS_READ (R186). -/
def takeCountsRead (s : State) : Taken := ⟨s, .ok, s.counts.toList.flatMap LaneCounts.bytes⟩

/-- COUNTS_CLEAR (R26). -/
def takeCountsClear (fields : List Byte) (s : State) : Taken :=
  if fields.length = 0 then ⟨{ s with counts := Vector.replicate 4 {} }, .ok, []⟩
  else
    let n := fieldNat fields 0 1
    if h : n < 4 then ⟨{ s with counts := s.counts.set n {} }, .ok, []⟩ else refuse s .badIndex

/-- STATS_READ (R187). -/
def takeStatsRead (s : State) : Taken :=
  ⟨s, .ok, s.linkCounters.toList.flatMap LinkCounters.bytes ++ s.device.bytes⟩

/-- STATS_CLEAR: the per-antenna counters and the eight device counters, not notices lost and reports lost (R187). -/
def takeStatsClear (s : State) : Taken :=
  ⟨{ s with linkCounters := Vector.replicate 5 {},
            device := { noticesLost := s.device.noticesLost, reportsLost := s.device.reportsLost } }, .ok, []⟩

/-- STATUS_REQ (R185). -/
def takeStatusReq (s : State) : Taken := ⟨s, .ok, s.statusBlock⟩

/-- RESTART: restart becomes pending until its reply has left the line (R168). -/
def takeRestart (s : State) : Taken := ⟨{ s with restartPending := true }, .ok, []⟩

/-- What the taking of a command of an allowed length does; ANSWER, which draws no reply, is taken by `takeFrame`. -/
def takeCommand (k : Kind) (fields : List Byte) (s : State) : Taken :=
  match k with
  | .statusReq => takeStatusReq s
  | .set => takeSet fields s
  | .get => takeGet fields s
  | .classWrite => takeClassWrite fields s
  | .classRead => takeClassRead fields s
  | .rateWrite => takeRateWrite fields s
  | .rateRead => takeRateRead fields s
  | .ownerSet => takeOwnerSet fields s
  | .ownerRead => takeOwnerRead s
  | .routeSet => takeRouteSet fields s
  | .routeRead => takeRouteRead fields s
  | .patternSet => takePatternSet fields s
  | .acknowledge => takeAcknowledge fields s
  | .lineTest => takeLineTest fields s
  | .loanAdd => takeLoanAdd fields s
  | .loanDrop => takeLoanDrop fields s
  | .loanClear => takeLoanClear s
  | .answer => refuse s .badKind
  | .countsRead => takeCountsRead s
  | .countsClear => takeCountsClear fields s
  | .statsRead => takeStatsRead s
  | .statsClear => takeStatsClear s
  | .restart => takeRestart s

/-! ### Taking frames (09, section 9.4) -/

/-- A well-formed ANSWER passed to the check unit; no REPLY (R163, R177). -/
def State.deliverAnswer (s : State) (fields : List Byte) : State :=
  (s.takeAnswer (fieldNat fields 0 1) (BitVec.ofNat 64 (fieldNat fields 1 8)) (fieldNat fields 9 1)).recomputeLines

/-- A frame taken: kind, length, the command itself, and its REPLY (R162, R163). -/
def State.takeFrame (s : State) (body : Body) : State :=
  match body with
  | [] => s
  | code :: fields =>
    match kindOf code with
    | none => s.placeReply (replyBody code .badKind [])
    | some k =>
      if k.lengthOk fields.length then
        if k = .answer then s.deliverAnswer fields
        else
          let t := takeCommand k fields s
          t.state.placeReply (replyBody code t.result t.data)
      else s.placeReply (replyBody code .badLength [])

/-- Frames taken from the head of the receive buffers while the reply slot is empty and no restart is pending, at most
`fuel` of them (R161, R168, log entry 4). -/
def takeFrames : Nat → State → State
  | 0, s => s
  | fuel + 1, s =>
    match s.buffers with
    | [] => s
    | body :: rest =>
      if s.reply.isNone && !s.restartPending then takeFrames fuel ({ s with buffers := rest }.takeFrame body) else s

/-- Every waiting frame that can be taken, taken (R161). -/
def State.takeWaiting (s : State) : State := takeFrames s.buffers.length s

/-- A good frame completes: it is buffered or dropped as an overrun, the link is LINKED and the silence timer restarts
(R158, R159). -/
def State.arrive (s : State) (body : Body) : State :=
  let s1 :=
    if s.buffers.length < Config.maxBuffers then { s with buffers := s.buffers ++ [body] }
    else s.modDevice fun d => { d with overruns := bump d.overruns }
  let s2 :=
    { s1 with linked := true,
              silence := if s.params.silenceLimit = 0 then none
                         else some (after s.gateTime (s.params.silenceLimit * 1000)) }
  if s.linked then s2 else s2.recomputeLines

/-- A good frame arrives and is taken when nothing holds it back (R158, R159, R161; log entry 3). -/
def State.receive (s : State) (body : Body) : State := (s.arrive body).takeWaiting

/-- The meaning of UNKNOWN_KIND (R170). -/
def execUnknownKind (kind : Byte) (fields : List Byte) (s : State) : Host.Outcome State Fault Refusal :=
  .next (s.receive (kind :: fields))

/-- The meaning of STATUS_REQ (R185). -/
def execStatusReq (fields : List Byte) (s : State) : Host.Outcome State Fault Refusal :=
  .next (s.receive (Kind.statusReq.code :: fields))

/-- The meaning of SET (R182). -/
def execSet (fields : List Byte) (s : State) : Host.Outcome State Fault Refusal :=
  .next (s.receive (Kind.set.code :: fields))

/-- The meaning of GET (R183). -/
def execGet (fields : List Byte) (s : State) : Host.Outcome State Fault Refusal :=
  .next (s.receive (Kind.get.code :: fields))

/-- The meaning of CLASS_WRITE (R103). -/
def execClassWrite (fields : List Byte) (s : State) : Host.Outcome State Fault Refusal :=
  .next (s.receive (Kind.classWrite.code :: fields))

/-- The meaning of CLASS_READ (R103). -/
def execClassRead (fields : List Byte) (s : State) : Host.Outcome State Fault Refusal :=
  .next (s.receive (Kind.classRead.code :: fields))

/-- The meaning of RATE_WRITE (R48). -/
def execRateWrite (fields : List Byte) (s : State) : Host.Outcome State Fault Refusal :=
  .next (s.receive (Kind.rateWrite.code :: fields))

/-- The meaning of RATE_READ (R48). -/
def execRateRead (fields : List Byte) (s : State) : Host.Outcome State Fault Refusal :=
  .next (s.receive (Kind.rateRead.code :: fields))

/-- The meaning of OWNER_SET (R50). -/
def execOwnerSet (fields : List Byte) (s : State) : Host.Outcome State Fault Refusal :=
  .next (s.receive (Kind.ownerSet.code :: fields))

/-- The meaning of OWNER_READ (R50). -/
def execOwnerRead (fields : List Byte) (s : State) : Host.Outcome State Fault Refusal :=
  .next (s.receive (Kind.ownerRead.code :: fields))

/-- The meaning of ROUTE_SET (R146). -/
def execRouteSet (fields : List Byte) (s : State) : Host.Outcome State Fault Refusal :=
  .next (s.receive (Kind.routeSet.code :: fields))

/-- The meaning of ROUTE_READ (R146). -/
def execRouteRead (fields : List Byte) (s : State) : Host.Outcome State Fault Refusal :=
  .next (s.receive (Kind.routeRead.code :: fields))

/-- The meaning of PATTERN_SET (R148). -/
def execPatternSet (fields : List Byte) (s : State) : Host.Outcome State Fault Refusal :=
  .next (s.receive (Kind.patternSet.code :: fields))

/-- The meaning of ACKNOWLEDGE (R141). -/
def execAcknowledge (fields : List Byte) (s : State) : Host.Outcome State Fault Refusal :=
  .next (s.receive (Kind.acknowledge.code :: fields))

/-- The meaning of LINE_TEST (R149). -/
def execLineTest (fields : List Byte) (s : State) : Host.Outcome State Fault Refusal :=
  .next (s.receive (Kind.lineTest.code :: fields))

/-- The meaning of LOAN_ADD (R106). -/
def execLoanAdd (fields : List Byte) (s : State) : Host.Outcome State Fault Refusal :=
  .next (s.receive (Kind.loanAdd.code :: fields))

/-- The meaning of LOAN_DROP (R107). -/
def execLoanDrop (fields : List Byte) (s : State) : Host.Outcome State Fault Refusal :=
  .next (s.receive (Kind.loanDrop.code :: fields))

/-- The meaning of LOAN_CLEAR (R107). -/
def execLoanClear (fields : List Byte) (s : State) : Host.Outcome State Fault Refusal :=
  .next (s.receive (Kind.loanClear.code :: fields))

/-- The meaning of ANSWER (R128, R129). -/
def execAnswer (fields : List Byte) (s : State) : Host.Outcome State Fault Refusal :=
  .next (s.receive (Kind.answer.code :: fields))

/-- The meaning of COUNTS_READ (R186). -/
def execCountsRead (fields : List Byte) (s : State) : Host.Outcome State Fault Refusal :=
  .next (s.receive (Kind.countsRead.code :: fields))

/-- The meaning of COUNTS_CLEAR (R26). -/
def execCountsClear (fields : List Byte) (s : State) : Host.Outcome State Fault Refusal :=
  .next (s.receive (Kind.countsClear.code :: fields))

/-- The meaning of STATS_READ (R187). -/
def execStatsRead (fields : List Byte) (s : State) : Host.Outcome State Fault Refusal :=
  .next (s.receive (Kind.statsRead.code :: fields))

/-- The meaning of STATS_CLEAR (R187). -/
def execStatsClear (fields : List Byte) (s : State) : Host.Outcome State Fault Refusal :=
  .next (s.receive (Kind.statsClear.code :: fields))

/-- The meaning of RESTART (R168). -/
def execRestart (fields : List Byte) (s : State) : Host.Outcome State Fault Refusal :=
  .next (s.receive (Kind.restart.code :: fields))

end Sys2Proof.Machine
end

