-- ==== Sys2Proof/Machine/Receive.lean ====
section
/-! DEFINITION. The receiver of the serial line (R156, R157), the silence timer (R159), and the end of a transmission
(R164, R168). -/

namespace Sys2Proof.Machine

/-- The frame being received discarded and counted (R157, R167). -/
def State.discardFrame (s : State) : State :=
  { s with rx := .hunt, gap := none }.modDevice fun d => { d with framesRejected := bump d.framesRejected }

/-- A byte held inside a frame: the receiver in its next state, the gap timer restarted (R156). -/
def State.holdByte (s : State) (rx : Receiver) : State :=
  { s with rx := rx, gap := some (after s.gateTime Config.byteGap) }

/-- The second check byte taken: a good frame arrives, a bad check discards the frame (R155, R156). -/
def State.completeFrame (s : State) (got : List Byte) (check : List Byte) : State :=
  if check = checkBytes got then { s with rx := .hunt, gap := none }.receive got else s.discardFrame

/-- BYTE_RECEIVED (R156, R157); a byte error discards the frame being received and is not counted in HUNT. -/
def byteReceived (b : Byte) (stopBit : Bool) (s : State) : State :=
  match s.rx with
  | .hunt => if stopBit && b == mark then s.holdByte (.length none) else s
  | .length none => if stopBit then s.holdByte (.length (some b)) else s.discardFrame
  | .length (some hi) =>
    if stopBit then
      let len := beNat [hi, b]
      if 1 ≤ len ∧ len ≤ Config.maxBody then s.holdByte (.body len []) else s.discardFrame
    else s.discardFrame
  | .body len got =>
    if stopBit then
      if got.length + 1 < len then s.holdByte (.body len (got ++ [b])) else s.holdByte (.check len (got ++ [b]) none)
    else s.discardFrame
  | .check len got none => if stopBit then s.holdByte (.check len got (some b)) else s.discardFrame
  | .check _ got (some hi) => if stopBit then s.completeFrame got [hi, b] else s.discardFrame

/-- The meaning of BYTE_RECEIVED. -/
def execByteReceived (b : Byte) (stopBit : Bool) (s : State) : Host.Outcome State Fault Refusal :=
  .next (byteReceived b stopBit s)

/-- GAP_TIMER_EXPIRY (R157). -/
def gapTimerExpiry (s : State) : State := if fires s.gap s.gateTime then s.discardFrame else s

/-- The meaning of GAP_TIMER_EXPIRY. -/
def execGapTimerExpiry (s : State) : Host.Outcome State Fault Refusal := .next (gapTimerExpiry s)

/-- SILENCE_TIMER_EXPIRY: the link becomes STANDALONE and every pending item is resolved (R159, R133). -/
def silenceTimerExpiry (s : State) : State :=
  if fires s.silence s.gateTime then { s with linked := false, silence := none }.resolveStandalone.recomputeLines else s

/-- The meaning of SILENCE_TIMER_EXPIRY. -/
def execSilenceTimerExpiry (s : State) : Host.Outcome State Fault Refusal := .next (silenceTimerExpiry s)

/-- FRAME_LEFT_LINE: the transmitter is FREE; the restart takes place when the frame was its reply; the arbiter chooses
again, and a waiting frame is taken when the reply slot has emptied (R164, R161, R168). -/
def frameLeftLine (s : State) : State :=
  match s.sending with
  | none => s
  | some f =>
    let s1 := { s with sending := none }
    (if f.restartReply then s1.restartNow else s1).arbitrateTx.takeWaiting

/-- The meaning of FRAME_LEFT_LINE. -/
def execFrameLeftLine (s : State) : Host.Outcome State Fault Refusal := .next (frameLeftLine s)

end Sys2Proof.Machine
end

