-- ==== Sys2Proof/Machine/Dispatch.lean ====
section
/-! DEFINITION. The one dispatch: each command to its meaning. -/

namespace Sys2Proof.Machine

/-- The effect of a command on everything but the queue of commands that wait. -/
def exec (i : Instr) (s : State) : Host.Outcome State Fault Refusal :=
  match i with
  | .powerOn strapA strapB => Sys2Proof.Machine.execPowerOn strapA strapB s
  | .resetPin strapA strapB => Sys2Proof.Machine.execResetPin strapA strapB s
  | .beamRawChange lane beam level => Sys2Proof.Machine.execBeamRawChange lane beam level s
  | .beamFilterExpiry lane beam => Sys2Proof.Machine.execBeamFilterExpiry lane beam s
  | .stuckTimerExpiry lane beam => Sys2Proof.Machine.execStuckTimerExpiry lane beam s
  | .keyRawChange pressed => Sys2Proof.Machine.execKeyRawChange pressed s
  | .keyFilterExpiry => Sys2Proof.Machine.execKeyFilterExpiry s
  | .presenceTimerExpiry passage => Sys2Proof.Machine.execPresenceTimerExpiry passage s
  | .settleTimerExpiry passage => Sys2Proof.Machine.execSettleTimerExpiry passage s
  | .fieldSettleExpiry => Sys2Proof.Machine.execFieldSettleExpiry s
  | .slotReport report => Sys2Proof.Machine.execSlotReport report s
  | .holdTimerExpiry => Sys2Proof.Machine.execHoldTimerExpiry s
  | .roundTimerExpiry => Sys2Proof.Machine.execRoundTimerExpiry s
  | .fieldFault => Sys2Proof.Machine.execFieldFault s
  | .fieldOffAck => Sys2Proof.Machine.execFieldOffAck s
  | .backgroundTimerExpiry => Sys2Proof.Machine.execBackgroundTimerExpiry s
  | .retryTimerExpiry antenna => Sys2Proof.Machine.execRetryTimerExpiry antenna s
  | .readMerge => Sys2Proof.Machine.execReadMerge s
  | .ageExpiry item => Sys2Proof.Machine.execAgeExpiry item s
  | .loanLifeEnd item => Sys2Proof.Machine.execLoanLifeEnd item s
  | .slotTimerExpiry slot => Sys2Proof.Machine.execSlotTimerExpiry slot s
  | .alarmTimerExpiry lane => Sys2Proof.Machine.execAlarmTimerExpiry lane s
  | .pulseTimerExpiry line => Sys2Proof.Machine.execPulseTimerExpiry line s
  | .testTimerExpiry line => Sys2Proof.Machine.execTestTimerExpiry line s
  | .byteReceived byte stopBit => Sys2Proof.Machine.execByteReceived byte stopBit s
  | .gapTimerExpiry => Sys2Proof.Machine.execGapTimerExpiry s
  | .silenceTimerExpiry => Sys2Proof.Machine.execSilenceTimerExpiry s
  | .frameLeftLine => Sys2Proof.Machine.execFrameLeftLine s
  | .unknownKind kind fields => Sys2Proof.Machine.execUnknownKind kind fields s
  | .statusReq fields => Sys2Proof.Machine.execStatusReq fields s
  | .set fields => Sys2Proof.Machine.execSet fields s
  | .get fields => Sys2Proof.Machine.execGet fields s
  | .classWrite fields => Sys2Proof.Machine.execClassWrite fields s
  | .classRead fields => Sys2Proof.Machine.execClassRead fields s
  | .rateWrite fields => Sys2Proof.Machine.execRateWrite fields s
  | .rateRead fields => Sys2Proof.Machine.execRateRead fields s
  | .ownerSet fields => Sys2Proof.Machine.execOwnerSet fields s
  | .ownerRead fields => Sys2Proof.Machine.execOwnerRead fields s
  | .routeSet fields => Sys2Proof.Machine.execRouteSet fields s
  | .routeRead fields => Sys2Proof.Machine.execRouteRead fields s
  | .patternSet fields => Sys2Proof.Machine.execPatternSet fields s
  | .acknowledge fields => Sys2Proof.Machine.execAcknowledge fields s
  | .lineTest fields => Sys2Proof.Machine.execLineTest fields s
  | .loanAdd fields => Sys2Proof.Machine.execLoanAdd fields s
  | .loanDrop fields => Sys2Proof.Machine.execLoanDrop fields s
  | .loanClear fields => Sys2Proof.Machine.execLoanClear fields s
  | .answer fields => Sys2Proof.Machine.execAnswer fields s
  | .countsRead fields => Sys2Proof.Machine.execCountsRead fields s
  | .countsClear fields => Sys2Proof.Machine.execCountsClear fields s
  | .statsRead fields => Sys2Proof.Machine.execStatsRead fields s
  | .statsClear fields => Sys2Proof.Machine.execStatsClear fields s
  | .restart fields => Sys2Proof.Machine.execRestart fields s

end Sys2Proof.Machine
end

