-- ==== Sys2Proof/Machine/Idle.lean ====
section
/-! DEFINITION. What the part does while no command waits: the timers whose time has come expire one after another, and
otherwise a millisecond passes (log entry 1). -/

namespace Sys2Proof.Machine

/-- The lanes with their beams, in order. -/
def allLaneBeams : List (Lane × Beam) := allLanes.flatMap fun k => allBeams.map fun x => (k, x)

/-- Whether a filter timer runs and its time has come. -/
def filterFires (t : Option FilterTimer) (now : Time) : Bool :=
  match t with
  | some f => due now f.expiry
  | none => false

/-- The expiries now due in the beam unit. -/
def State.dueInBeamUnit (s : State) : List Instr :=
  (allLaneBeams.filter fun kx => filterFires (s.beam kx.1 kx.2).filter s.gateTime).map
      (fun kx => .beamFilterExpiry kx.1 kx.2)
    ++ (if filterFires s.key.filter s.gateTime then [Instr.keyFilterExpiry] else [])
    ++ (allLaneBeams.filter fun kx => fires (s.beam kx.1 kx.2).stuck s.gateTime).map
      (fun kx => .stuckTimerExpiry kx.1 kx.2)

/-- The expiries now due in the passage unit. -/
def State.dueInPassageUnit (s : State) : List Instr :=
  (s.passages.filter fun p => p.phase == .open_ && fires p.presence s.gateTime).map
      (fun p => .presenceTimerExpiry p.number)
    ++ (s.passages.filter fun p => p.phase == .settling && fires p.settle s.gateTime).map
      (fun p => .settleTimerExpiry p.number)

/-- The expiries now due of the round under way. -/
def State.dueInRound (s : State) : List Instr :=
  match s.round with
  | none => []
  | some r =>
    (if s.engine == .fieldSettle && fires r.settleTimer s.gateTime then [Instr.fieldSettleExpiry] else [])
      ++ (if s.engine == .held && fires r.holdTimer s.gateTime then [Instr.holdTimerExpiry] else [])
      ++ (if s.roundOn && fires r.roundTimer s.gateTime then [Instr.roundTimerExpiry] else [])

/-- The expiries now due in the arbiter. -/
def State.dueInArbiter (s : State) : List Instr :=
  (if fires s.bgTimer s.gateTime then [Instr.backgroundTimerExpiry] else [])
    ++ (allAntennas.filter fun a => retryFires s.antennas[a].retry s.gateTime).map (fun a => .retryTimerExpiry a)

/-- The expiries now due in the sighting unit and the check unit. -/
def State.dueInTables (s : State) : List Instr :=
  (s.sightings.filter fun e => due s.gateTime e.ageExpiry).map (fun e => .ageExpiry e.item)
    ++ (s.loans.filter fun l => due s.gateTime l.lifeEnd).map (fun l => .loanLifeEnd l.item)
    ++ (allSlots.filter fun j => fires (s.slots[j].map Question.timer) s.gateTime).map (fun j => .slotTimerExpiry j)

/-- The expiries now due in the alarm unit and the link unit. -/
def State.dueInOutputs (s : State) : List Instr :=
  (allLanes.filter fun k => fires s.alarms[k].timer s.gateTime).map (fun k => .alarmTimerExpiry k)
    ++ (allLines.filter fun l => fires s.lines[l].pulse s.gateTime).map (fun l => .pulseTimerExpiry l)
    ++ (allLines.filter fun l => fires s.lines[l].test s.gateTime).map (fun l => .testTimerExpiry l)
    ++ (if fires s.gap s.gateTime then [Instr.gapTimerExpiry] else [])
    ++ (if fires s.silence s.gateTime then [Instr.silenceTimerExpiry] else [])

/-- Every timer expiry that is due now, in the fixed order in which an idle part takes them (log entry 1). -/
def State.dueEvents (s : State) : List Instr :=
  s.dueInBeamUnit ++ s.dueInPassageUnit ++ s.dueInRound ++ s.dueInArbiter ++ s.dueInTables ++ s.dueInOutputs

/-- Gate time rises by 1, from 4294967295 to 0 (R184); the phases noted for the moment that ends are dropped (log entry 11). -/
def State.tick (s : State) : State :=
  { s with gateTime := s.gateTime + 1, lines := perLine fun l => { s.lines[l] with resume := none } }

end Sys2Proof.Machine
end

