-- ==== Sys2Proof/Safety.lean ====
section
/-! DEFINITION. The terms in which the statements about the part are made: runs of commands, the arrival of a frame and its
reply, and for each block the law that its state keeps between events. The laws are read from the spec's prose; the statements
are in Certificates/Slice0/Obligations.lean. -/

namespace Sys2Proof.Machine

/-! ### Runs, arrivals and replies -/

/-- Commands run one after another. -/
def execAll : List Instr → State → Host.Outcome State Fault Refusal
  | [], s => .next s
  | c :: cs, s =>
    match exec c s with
    | .next t => execAll cs t
    | .fault r => .fault r
    | .refused r => .refused r

/-- The command that a message of a kind is. -/
def Kind.command (k : Kind) (fields : List Byte) : Instr :=
  match k with
  | .statusReq => .statusReq fields
  | .set => .set fields
  | .get => .get fields
  | .classWrite => .classWrite fields
  | .classRead => .classRead fields
  | .rateWrite => .rateWrite fields
  | .rateRead => .rateRead fields
  | .ownerSet => .ownerSet fields
  | .ownerRead => .ownerRead fields
  | .routeSet => .routeSet fields
  | .routeRead => .routeRead fields
  | .patternSet => .patternSet fields
  | .acknowledge => .acknowledge fields
  | .lineTest => .lineTest fields
  | .loanAdd => .loanAdd fields
  | .loanDrop => .loanDrop fields
  | .loanClear => .loanClear fields
  | .answer => .answer fields
  | .countsRead => .countsRead fields
  | .countsClear => .countsClear fields
  | .statsRead => .statsRead fields
  | .statsClear => .statsClear fields
  | .restart => .restart fields

/-- Nothing holds a good frame back: the buffers and the reply slot are empty and no restart is pending (R161, R168). -/
abbrev State.ready (s : State) : Prop := s.buffers = [] ∧ s.reply = none ∧ s.restartPending = false

/-- The silence timer as a good frame leaves it (R159). -/
def State.silenceRestarted (s : State) : Option Time :=
  if s.params.silenceLimit = 0 then none else some (s.gateTime + BitVec.ofNat 32 (s.params.silenceLimit * 1000))

/-- The state in which a frame that arrives is taken: LINKED, the silence timer restarted, and when the link was STANDALONE
the lines computed afresh (R145, R147, R159). -/
def State.heard (s : State) : State :=
  let t := { s with linked := true, silence := s.silenceRestarted }
  if s.linked then t else t.recomputeLines

/-- A REPLY placed in the empty reply slot: it begins transmission at once when the transmitter is FREE, and otherwise waits
(R161, R164). -/
def State.answered (s : State) (kind : Byte) (result : Result) (data : List Byte) : State :=
  match s.sending with
  | some _ => { s with reply := some (replyBody kind result data) }
  | none => { s with sending := some ⟨frameOf (replyBody kind result data), s.restartPending⟩ }

/-- How many steps of the cyclic order A0, A1, A2, A3, A4, A0 lead from the antenna after last granted to `a`; from A0 when
last granted is none (R56). -/
def cyclicDistance (last : Option Antenna) (a : Antenna) : Nat :=
  match last with
  | none => a.val
  | some l => (a.val + 4 - l.val) % 5

/-! ### Parameters (11) -/

/-- Every parameter value lies within its range (R181). -/
abbrev State.paramLaw (s : State) : Prop := s.params.inRange = true

/-! ### Antennas, rounds and field (02, 03) -/

/-- An antenna's service: a retry timer runs or a retry is due exactly while it is OUT_OF_SERVICE (R59, R60), and a trial is of
an antenna that is IN_SERVICE and not yet settled in trial (R60, R61). -/
abbrev AntennaState.lawful (a : AntennaState) : Prop :=
  (a.out = true ↔ a.retry ≠ .stopped) ∧ (a.trial = true → a.out = false ∧ a.settled = false)

/-- Every antenna's service is lawful. -/
abbrev State.antennaLaw (s : State) : Prop := ∀ a : Antenna, s.antennas[a].lawful

/-- The round that a grant started, and the field: GRANTED exactly while a round is under way, no round in IDLE, field exactly in
FIELD_SETTLE, FRAME and HELD, and only on an IN_SERVICE antenna within LANES (R45, R53). -/
abbrev State.fieldLaw (s : State) : Prop :=
  s.grant = s.round.map (fun r => ⟨r.antenna, r.label⟩) ∧ (s.engine = .idle → s.round = none) ∧
  (s.roundOn = true → s.round.isSome = true) ∧
  s.field = (if s.roundOn = true then s.round.map Round.antenna else none) ∧
  ∀ a ∈ s.field, s.withinLanes a = true ∧ s.antennas[a].out = false

/-- A frame under way: its slot, its tallies and the count of frames begun agree (R31, R39, R40). -/
abbrev Round.inFrame (r : Round) : Prop :=
  r.slot < 2 ^ r.exp ∧ 1 ≤ r.frames ∧ r.frames ≤ Config.framesPerRound ∧ r.c + r.s + r.e = r.slot

/-- Frame exponents lie in 0..7 (R39, R46); the intake queue holds at most 8 reads (R47), fewer than 8 while a slot is open and
8 during a hold (R31). -/
abbrev State.frameLaw (s : State) : Prop :=
  s.intake.length ≤ Config.maxIntake ∧ (∀ a : Antenna, s.storedExp[a] ≤ Config.maxExp) ∧
  ∀ r ∈ s.round, r.exp ≤ Config.maxExp ∧
    (s.engine = .fieldSettle → r.slot = 0 ∧ r.frames = 0) ∧
    (s.engine = .frame → s.intake.length < Config.maxIntake ∧ r.inFrame) ∧
    (s.engine = .held → s.intake.length = Config.maxIntake ∧
      (r.slot = 0 → r.frames < Config.framesPerRound) ∧ (r.slot ≠ 0 → r.inFrame))

/-! ### Output lines (08) -/

/-- A line's level and pulse timer agree with its activity and pattern (R147, R148). -/
abbrev LineState.lawful (l : LineState) : Prop :=
  (l.active = false → l.level = false ∧ l.pulse = none) ∧
  (l.active = true → l.pulse.isSome = l.pulsed ∧ (l.pulsed = false → l.level = true)) ∧
  ∀ r ∈ l.resume, r.pulse.isSome = true

/-- A line is active exactly while a source routed to it is active or a test runs on it (R147, R150). -/
abbrev State.lineLaw (s : State) : Prop :=
  ∀ l : OutLine, s.lines[l].active = s.lineDriven l ∧ s.lines[l].lawful

/-! ### Passages (01) -/

/-- A record of the passage table: number, persons, items and the fields that are present in its state (R12, R18, R96, R121). -/
abbrev Passage.lawful (p : Passage) : Prop :=
  1 ≤ p.number ∧ p.number ≤ 65535 ∧ p.persons ≤ Config.maxPersons ∧ p.items.length ≤ Config.maxItems ∧
  (p.phase = .open_ ↔ p.direction = none) ∧ (p.phase = .open_ ↔ p.closed = none) ∧
  (p.phase = .settling ↔ p.settle.isSome = true) ∧
  (p.presence.isSome = true ↔ p.phase = .open_ ∧ p.flags.synthetic = true) ∧
  (p.flags.synthetic = true ↔ p.firstBeam = none) ∧
  (p.phase ≠ .judging → p.items = [] ∧ p.judging = none) ∧
  (p.phase = .judging → 0 < p.items.countP (fun it => it.ruling.isNone) ∧
    p.judging.map Judging.undecided = some (p.items.countP fun it => it.ruling.isNone))

/-- The OPEN passage a lane may have in each state of its tracker (01, section 1.2). -/
def trackerAgrees (t : Option Tracker) (p : Option Passage) : Bool :=
  match t with
  | none | some .clear | some .waitClear => p.isNone
  | some (.opening b) | some (.crossing b) | some (.leaving b _) => p.map Passage.firstBeam == some (some b)
  | some .fault => p.all fun q => q.flags.synthetic

/-- A lane has a tracker exactly while in service, and it agrees with the lane's OPEN passage (R24, 01 section 1.2). -/
abbrev State.trackerLaw (s : State) (k : Lane) : Prop :=
  s.trackers[k].isSome = s.laneInService k ∧ trackerAgrees s.trackers[k] (s.openPassage? k) = true

/-- The passage table: at most 16 records, no two with one number, at most one OPEN in a lane, each lane's tracker in agreement
(R18, R19). -/
abbrev State.passageLaw (s : State) : Prop :=
  s.passages.length ≤ Config.maxPassages ∧ (s.passages.map Passage.number).Nodup ∧
  1 ≤ s.nextPassage ∧ s.nextPassage ≤ 65535 ∧
  ((s.passages.filter fun p => p.phase == .open_).map Passage.lane).Nodup ∧
  (∀ p ∈ s.passages, p.lawful) ∧ ∀ k : Lane, s.trackerLaw k

/-! ### Sightings, loans (04, 06) -/

/-- Every strength of a resident baseline lies in 0..79 (R67). -/
def SightState.baselineOk : SightState → Bool
  | .resident b => b.all fun x => x ≤ Config.maxStrength
  | .active | .claimed _ _ => true

/-- An entry of the sighting table: a history of 1 to 12 strengths in 1..79, a baseline of strengths in 0..79 (R66 to R68). -/
abbrev Sighting.lawful (e : Sighting) : Prop :=
  1 ≤ e.history.length ∧ e.history.length ≤ Config.maxHistory ∧
  (∀ r ∈ e.history, 1 ≤ r.strength ∧ r.strength ≤ Config.maxStrength) ∧ e.state.baselineOk = true

/-- The sighting table: at most 128 entries, never two with one item number (R67). -/
abbrev State.sightingLaw (s : State) : Prop :=
  s.sightings.length ≤ Config.maxSightings ∧ s.sightings.Pairwise (fun a b => a.item.toNat < b.item.toNat) ∧
  ∀ e ∈ s.sightings, e.lawful

/-- The loan list: at most 512 entries, never two with one item number (R105). -/
abbrev State.loanLaw (s : State) : Prop :=
  s.loans.length ≤ Config.maxLoans ∧ (s.loans.map Loan.item).Nodup

/-! ### Queries (07) -/

/-- A reference names an item without verdict of a passage in JUDGING, with this query slot field (R124, R125). -/
abbrev State.awaits (s : State) (r : ItemRef) (slot : Option SlotNo) : Prop :=
  (s.passage? r.passage).map Passage.phase = some .judging ∧
  (s.item? r).map (fun it => (it.ruling, it.slot)) = some (none, slot)

/-- Whether the item a reference names holds the slot of its query slot field, or waits where it has none (R115, R125). -/
def State.holdsPlace (s : State) (r : ItemRef) : Option SlotNo → Bool
  | some j => s.slots[j].map Question.ref == some r
  | none => s.waiting.contains r

/-- The query slots and the waiting list: each question belongs to one item without verdict, which names its slot; each item
without verdict of a passage in JUDGING is in its slot or waits; items wait only while LINKED and all four slots are in flight,
each once; nothing is in flight while STANDALONE (R115, R124, R125, R132, R133). -/
abbrev State.queryLaw (s : State) : Prop :=
  (∀ j : SlotNo, ∀ q ∈ s.slots[j], s.awaits q.ref (some j) ∧ (s.item? q.ref).map Item.item = some q.item) ∧
  (∀ r ∈ s.waiting, s.awaits r none) ∧ s.waiting.Nodup ∧
  (∀ p ∈ s.passages, p.phase = .judging → ∀ i : Fin p.items.length,
    p.items[i].ruling = none → s.holdsPlace ⟨p.number, i.val⟩ p.items[i].slot = true) ∧
  (s.waiting ≠ [] → s.linked = true ∧ s.freeSlot? = none) ∧
  (s.linked = false → ∀ j : SlotNo, s.slots[j] = none)

/-! ### The link (09) -/

/-- What the receiver holds in each of its states (09 section 9.2, R156). -/
def Receiver.ok : Receiver → Bool
  | .hunt | .length _ => true
  | .body len got => 1 ≤ len && len ≤ Config.maxBody && got.length < len
  | .check len got _ => 1 ≤ len && len ≤ Config.maxBody && got.length == len

/-- What the receiver holds, and its gap timer, which runs inside a frame (R156). -/
abbrev State.receiverLaw (s : State) : Prop := (s.rx = .hunt ↔ s.gap = none) ∧ s.rx.ok = true

/-- The queues of the link unit keep within their capacities (R158, R165, R166); nothing waits while the transmitter is FREE
(R164), no frame waits in the buffers while it could be taken (R161), a pending restart has its reply waiting or being sent
(R168), and the silence timer is stopped while STANDALONE (R159). -/
abbrev State.linkLaw (s : State) : Prop :=
  s.buffers.length ≤ Config.maxBuffers ∧ s.notices.length ≤ Config.maxNotices ∧
  s.reports.length ≤ Config.maxReports ∧
  (s.sending = none → s.reply = none ∧ s.pendingSlots = [] ∧ s.notices = [] ∧ s.reports = []) ∧
  (s.buffers ≠ [] → s.reply.isSome = true ∨ s.restartPending = true) ∧
  (s.restartPending = true → s.reply.isSome = true ∨ s.sending.map Sending.restartReply = some true) ∧
  (∀ f ∈ s.sending, f.restartReply = true → s.restartPending = true ∧ s.reply = none) ∧
  (s.linked = false → s.silence = none) ∧ s.receiverLaw

/-! ### Counters (01, 02, 11) -/

/-- No link counter passes its maximum (R51). -/
abbrev LinkCounters.lawful (c : LinkCounters) : Prop :=
  c.rounds ≤ Config.max16 ∧ c.singles ≤ Config.max16 ∧ c.collisions ≤ Config.max16 ∧ c.corrupt ≤ Config.max16 ∧
  c.noise ≤ Config.max16 ∧ c.foreign ≤ Config.max16 ∧ c.holds ≤ Config.max16 ∧ c.abandoned ≤ Config.max16 ∧
  c.fieldFaults ≤ Config.max16

/-- No device counter passes its maximum (R167, 11 section 11.6). -/
abbrev DeviceCounters.lawful (d : DeviceCounters) : Prop :=
  d.evictions ≤ Config.max16 ∧ d.unattributed ≤ Config.max16 ∧ d.lateAnswers ≤ Config.max16 ∧
  d.queryTimeouts ≤ Config.max16 ∧ d.forcedCompletions ≤ Config.max16 ∧ d.loanEvictions ≤ Config.max16 ∧
  d.framesRejected ≤ Config.max16 ∧ d.overruns ≤ Config.max16 ∧ d.noticesLost ≤ Config.max16 ∧
  d.reportsLost ≤ Config.max16

/-- No retained count passes its maximum (R25). -/
abbrev LaneCounts.lawful (c : LaneCounts) : Prop :=
  c.personsOut ≤ Config.max32 ∧ c.personsIn ≤ Config.max32 ∧ c.passagesOut ≤ Config.max32 ∧
  c.passagesIn ≤ Config.max32 ∧ c.passagesNone ≤ Config.max32 ∧ c.passagesUnknown ≤ Config.max32 ∧
  c.withAlarm ≤ Config.max32

/-- No counter passes its maximum (R187). -/
abbrev State.counterLaw (s : State) : Prop :=
  (∀ a : Antenna, s.linkCounters[a].lawful) ∧ s.device.lawful ∧ ∀ k : Lane, s.counts[k].lawful

/-- No retained count of a lane lies above the other's. -/
abbrev LaneCounts.atMost (a b : LaneCounts) : Prop :=
  a.personsOut ≤ b.personsOut ∧ a.personsIn ≤ b.personsIn ∧ a.passagesOut ≤ b.passagesOut ∧
  a.passagesIn ≤ b.passagesIn ∧ a.passagesNone ≤ b.passagesNone ∧ a.passagesUnknown ≤ b.passagesUnknown ∧
  a.withAlarm ≤ b.withAlarm

/-- No link counter of an antenna lies above the other's. -/
abbrev LinkCounters.atMost (a b : LinkCounters) : Prop :=
  a.rounds ≤ b.rounds ∧ a.singles ≤ b.singles ∧ a.collisions ≤ b.collisions ∧ a.corrupt ≤ b.corrupt ∧
  a.noise ≤ b.noise ∧ a.foreign ≤ b.foreign ∧ a.holds ≤ b.holds ∧ a.abandoned ≤ b.abandoned ∧
  a.fieldFaults ≤ b.fieldFaults

/-- No device counter lies above the other's. -/
abbrev DeviceCounters.atMost (a b : DeviceCounters) : Prop :=
  a.evictions ≤ b.evictions ∧ a.unattributed ≤ b.unattributed ∧ a.lateAnswers ≤ b.lateAnswers ∧
  a.queryTimeouts ≤ b.queryTimeouts ∧ a.forcedCompletions ≤ b.forcedCompletions ∧
  a.loanEvictions ≤ b.loanEvictions ∧ a.framesRejected ≤ b.framesRejected ∧ a.overruns ≤ b.overruns ∧
  a.noticesLost ≤ b.noticesLost ∧ a.reportsLost ≤ b.reportsLost

end Sys2Proof.Machine
end

