-- ==== Sys2Proof/WellFormed.lean ====
section
/-! DEFINITION. Which commands the outside can send: the operands a type does not already bound. -/

namespace Sys2Proof

/-- The kind codes the circulation computer may send (R170, 10 section 10.1). -/
def acceptedCodes : List Byte :=
  [0x10, 0x11, 0x12, 0x18, 0x19, 0x1A, 0x1B, 0x1C, 0x1D, 0x20, 0x21, 0x22, 0x23, 0x24, 0x28, 0x29, 0x2A, 0x2C,
   0x30, 0x31, 0x32, 0x33, 0x3F]

/-- A body is the kind byte and at most 399 bytes after it (R155). -/
def fieldsFit (fields : List Byte) : Bool := fields.length + 1 ≤ Config.maxBody

/-- A passage number lies in 1..65535 (R18). -/
def passageNumberOk (n : Nat) : Bool := 1 ≤ n && n ≤ 65535

/-- The commands the outside can send: bodies fit a frame, UNKNOWN_KIND carries a code that R170 does not accept, and a
passage number is one. -/
def Instr.wellFormed : Instr → Bool
  | .powerOn _ _ => true
  | .resetPin _ _ => true
  | .beamRawChange _ _ _ => true
  | .beamFilterExpiry _ _ => true
  | .stuckTimerExpiry _ _ => true
  | .keyRawChange _ => true
  | .keyFilterExpiry => true
  | .presenceTimerExpiry n => passageNumberOk n
  | .settleTimerExpiry n => passageNumberOk n
  | .fieldSettleExpiry => true
  | .slotReport _ => true
  | .holdTimerExpiry => true
  | .roundTimerExpiry => true
  | .fieldFault => true
  | .fieldOffAck => true
  | .backgroundTimerExpiry => true
  | .retryTimerExpiry _ => true
  | .readMerge => true
  | .ageExpiry _ => true
  | .loanLifeEnd _ => true
  | .slotTimerExpiry _ => true
  | .alarmTimerExpiry _ => true
  | .pulseTimerExpiry _ => true
  | .testTimerExpiry _ => true
  | .byteReceived _ _ => true
  | .gapTimerExpiry => true
  | .silenceTimerExpiry => true
  | .frameLeftLine => true
  | .unknownKind k f => fieldsFit f && !acceptedCodes.contains k
  | .statusReq f => fieldsFit f
  | .set f => fieldsFit f
  | .get f => fieldsFit f
  | .classWrite f => fieldsFit f
  | .classRead f => fieldsFit f
  | .rateWrite f => fieldsFit f
  | .rateRead f => fieldsFit f
  | .ownerSet f => fieldsFit f
  | .ownerRead f => fieldsFit f
  | .routeSet f => fieldsFit f
  | .routeRead f => fieldsFit f
  | .patternSet f => fieldsFit f
  | .acknowledge f => fieldsFit f
  | .lineTest f => fieldsFit f
  | .loanAdd f => fieldsFit f
  | .loanDrop f => fieldsFit f
  | .loanClear f => fieldsFit f
  | .answer f => fieldsFit f
  | .countsRead f => fieldsFit f
  | .countsClear f => fieldsFit f
  | .statsRead f => fieldsFit f
  | .statsClear f => fieldsFit f
  | .restart f => fieldsFit f

end Sys2Proof
end

