-- ==== Sys2Proof/Certificates/Slice0/Obligations.lean ====
section
/-! DEFINITION. The statements for the provers. Where a statement says how an event ends, it names the shared operation that
does it (`recomputeLines`, `queueNotice`, `choose` and so on); each of those has statements of its own. -/

open Sys2Proof Sys2Proof.Machine

/-! ### Steps and commands -/

/-- A step takes the command at the front of the queue and runs it with the queue's rest. -/
def Obligations.StepRunsFrontCommand : Prop :=
  ∀ (s : State) (c : Instr) (rest : List Instr), s.pending = c :: rest → step s = exec c { s with pending := rest }

/-- On an empty queue a due expiry runs, and with none due gate time rises by 1 and wraps (R184). Nothing else changes, but that the
phases noted for the moment that ends are dropped: they are the model's own (log entry 11). The order of expiries that are due
together is the model's choice (log entry 1). -/
def Obligations.IdleStepPassesTime : Prop :=
  ∀ s : State, s.pending = [] →
    (s.dueEvents = [] → step s = .next { s with
      gateTime := s.gateTime + 1, lines := perLine fun l => { s.lines[l] with resume := none } }) ∧
    ∀ c rest, s.dueEvents = c :: rest → step s = exec c s

/-- Every command, in every state and with every operand, has a next state: no command faults, none is refused. That is deduced from
the whole spec, which gives every event an effect or says that it is discarded (log entry 28). The queue, which a command leaves as
it is, is the model's own (log entry 23). -/
def Obligations.EveryCommandCompletes : Prop :=
  ∀ (c : Instr) (s : State), ∃ t, exec c s = .next t ∧ t.pending = s.pending

/-- Slot reports outside FRAME and field fault reports in IDLE and CLOSING are discarded and counted nowhere (R41, R42, R45). The
model's own choices: a timer's expiry command does nothing while its timer is stopped or its time has not come (log entry 2), and
a field-off acknowledgement outside CLOSING does nothing (log entry 15). -/
def Obligations.EventsWithoutEffect : Prop :=
  ∀ s : State,
    (∀ rep, s.engine ≠ .frame → exec (.slotReport rep) s = .next s) ∧
    (s.engine = .idle ∨ s.engine = .closing → exec .fieldFault s = .next s) ∧
    (s.engine ≠ .closing → exec .fieldOffAck s = .next s) ∧
    (∀ k x, filterFires (s.beam k x).filter s.gateTime = false → exec (.beamFilterExpiry k x) s = .next s) ∧
    (∀ k x, fires (s.beam k x).stuck s.gateTime = false → exec (.stuckTimerExpiry k x) s = .next s) ∧
    (filterFires s.key.filter s.gateTime = false → exec .keyFilterExpiry s = .next s) ∧
    (∀ n, (∀ p ∈ s.passages, p.number = n → fires p.presence s.gateTime = false) →
      exec (.presenceTimerExpiry n) s = .next s) ∧
    (∀ n, (∀ p ∈ s.passages, p.number = n → fires p.settle s.gateTime = false) →
      exec (.settleTimerExpiry n) s = .next s) ∧
    (∀ r, s.round = some r → fires r.settleTimer s.gateTime = false → exec .fieldSettleExpiry s = .next s) ∧
    (∀ r, s.round = some r → fires r.holdTimer s.gateTime = false → exec .holdTimerExpiry s = .next s) ∧
    (∀ r, s.round = some r → fires r.roundTimer s.gateTime = false → exec .roundTimerExpiry s = .next s) ∧
    (fires s.bgTimer s.gateTime = false → exec .backgroundTimerExpiry s = .next s) ∧
    (∀ a, retryFires s.antennas[a].retry s.gateTime = false → exec (.retryTimerExpiry a) s = .next s) ∧
    (∀ i, (∀ e ∈ s.sightings, e.item = i → due s.gateTime e.ageExpiry = false) → exec (.ageExpiry i) s = .next s) ∧
    (∀ i, (∀ l ∈ s.loans, l.item = i → due s.gateTime l.lifeEnd = false) → exec (.loanLifeEnd i) s = .next s) ∧
    (∀ j, fires (s.slots[j].map Question.timer) s.gateTime = false → exec (.slotTimerExpiry j) s = .next s) ∧
    (∀ k, fires s.alarms[k].timer s.gateTime = false → exec (.alarmTimerExpiry k) s = .next s) ∧
    (∀ l, fires s.lines[l].pulse s.gateTime = false → exec (.pulseTimerExpiry l) s = .next s) ∧
    (∀ l, fires s.lines[l].test s.gateTime = false → exec (.testTimerExpiry l) s = .next s) ∧
    (fires s.gap s.gateTime = false → exec .gapTimerExpiry s = .next s) ∧
    (fires s.silence s.gateTime = false → exec .silenceTimerExpiry s = .next s)

/-! ### Resets -/

/-- Power-on gives the state after power-on, with the straps sampled and the inputs as found, and requests field off; the reset
pin gives the same state but for the restart cause (R49, R50, R104, R151, R169, R181, R184). -/
def Obligations.PowerOnTakesDefaults : Prop :=
  ∀ (a b : Bool) (s : State), ∃ t,
    exec (.powerOn a b) s = .next t ∧
    t = { State.reset with
          pending := s.pending, speed := speedOfStraps a b, beams := t.beams, key := t.key, trackers := t.trackers,
          air := s.air ++ [.fieldOff] } ∧
    exec (.resetPin a b) s = .next { t with restartCause := .resetPin }

/-- What each of the three resets takes from the inputs as found: filtered levels from raw levels, filter timers stopped, faults
cleared, a stuck timer from gate time 0 for a blocked beam of a lane in service (R7), trackers from the filtered levels (R27). -/
def Obligations.ResetTakesInputsAsFound : Prop :=
  ∀ (c : Instr) (s t : State),
    ((∃ a b, c = .powerOn a b) ∨ (∃ a b, c = .resetPin a b) ∨
      (c = .frameLeftLine ∧ s.sending.map Sending.restartReply = some true)) →
    exec c s = .next t →
      (∀ k x, (t.beam k x).raw = (s.beam k x).raw ∧ (t.beam k x).filtered = (s.beam k x).raw ∧
        (t.beam k x).filter = none ∧ (t.beam k x).fault = false ∧
        (t.beam k x).stuck =
          if t.laneInService k = true ∧ (s.beam k x).raw = .blocked then
            some (BitVec.ofNat 32 (t.params.beamStuck * 1000)) else none) ∧
      t.key = ⟨s.key.raw, s.key.raw, none⟩ ∧
      ∀ k : Lane, t.trackers[k] =
        if t.laneInService k = true then
          some (if (s.beam k .inner).raw = .clear ∧ (s.beam k .outer).raw = .clear then .clear else .waitClear)
        else none

/-- RESTART is answered OK and leaves restart pending; the restart takes place in the event in which that reply leaves the line:
configuration and retained counts are kept, working state is cleared (R27, R46, R52, R64, R85, R123, R137, R152, R168, R184). -/
def Obligations.RestartFollowsItsReply : Prop :=
  (∀ s : State, s.ready →
    exec (.restart []) s = .next ({ s.heard with restartPending := true }.answered 0x3F .ok [])) ∧
  ∀ (s : State) (f : Sending), s.sending = some f → f.restartReply = true → ∃ t, exec .frameLeftLine s = .next t ∧
    (t.params = s.params ∧ t.counts = s.counts ∧ t.rates = s.rates ∧ t.owner = s.owner ∧ t.classes = s.classes ∧
      t.routes = s.routes ∧ t.speed = s.speed ∧ t.linked = s.linked ∧ ∀ l : OutLine, t.lines[l].pulsed = s.lines[l].pulsed) ∧
    (t.gateTime = 0 ∧ t.restartCause = .restart ∧ t.passages = [] ∧ t.nextPassage = 1 ∧ t.sightings = [] ∧ t.loans = [] ∧
      t.slots = Vector.replicate 4 none ∧ t.waiting = [] ∧ t.nextOrder = 1 ∧ t.intake = []) ∧
    (t.grant = none ∧ t.lastGranted = none ∧ t.lastBackground = 0 ∧
      t.bgTimer = some (BitVec.ofNat 32 s.params.bgInterval) ∧ t.antennas = Vector.replicate 5 {} ∧ t.engine = .closing ∧
      t.round = none ∧ t.field = none ∧ t.air = s.air ++ [.fieldOff] ∧
      t.storedExp = Vector.replicate 5 s.params.startExp ∧ t.linkCounters = Vector.replicate 5 {}) ∧
    (t.alarms = Vector.replicate 4 {} ∧ ∀ l : OutLine, t.lines[l].test = none ∧
      t.lines[l].active = (s.routed 12 l && !s.linked) ∧
      (s.lines[l].active = true → t.lines[l].active = true → t.lines[l].level = s.lines[l].level)) ∧
    (t.rx = .hunt ∧ t.gap = none ∧ t.buffers = [] ∧ t.reply = none ∧ t.sending = none ∧ t.notices = [] ∧ t.reports = [] ∧
      t.restartPending = false ∧ t.device = {} ∧
      t.silence = if s.linked = true ∧ s.params.silenceLimit ≠ 0 then
        some (BitVec.ofNat 32 (s.params.silenceLimit * 1000)) else none)

/-! ### Beams and key -/

/-- A raw change of a beam starts the filter timer when the new level differs from the filtered level and stops it when it does
not, whether or not the lane is in service (R1, R5); in a lane that is not in service the expiry moves the filtered level and does
nothing else (R5). The key is filtered in the same way with 20 ms; a change to PRESSED acknowledges all four lanes and the lines
follow, one to RELEASED has no further effect (R6, R142). -/
def Obligations.FiltersFollowRawLevels : Prop :=
  ∀ s : State,
    (∀ k x, filterFires (s.beam k x).filter s.gateTime = true → s.laneInService k = false →
      exec (.beamFilterExpiry k x) s = .next (s.modBeam k x fun b => { b with filtered := b.raw, filter := none })) ∧
    (∀ k x, exec (.beamRawChange k x (s.beam k x).raw) s = .next s) ∧ exec (.keyRawChange s.key.raw) s = .next s ∧
    (∀ k x level, level ≠ (s.beam k x).raw →
      exec (.beamRawChange k x level) s = .next (s.modBeam k x fun b =>
        { b with raw := level,
                 filter := if level = b.filtered then none
                           else some ⟨s.gateTime, s.gateTime + BitVec.ofNat 32 s.params.beamFilter⟩ })) ∧
    (∀ level, level ≠ s.key.raw →
      exec (.keyRawChange level) s = .next { s with
        key := ⟨level, s.key.filtered, if level = s.key.filtered then none else some ⟨s.gateTime, s.gateTime + 20⟩⟩ }) ∧
    (filterFires s.key.filter s.gateTime = true →
      exec .keyFilterExpiry s = .next
        (if s.key.raw = true then
          { s with key := ⟨true, true, none⟩, alarms := Vector.replicate 4 {} }.recomputeLines
        else { s with key := ⟨false, false, none⟩ }))

/-- A BREAK in CLEAR opens a passage, stamped with the time of the raw change, marked with its lane's condition, and starts the
stuck timer (R1, R3, R9, R18, R20); while a record is free nothing else leaves or enters the table. -/
def Obligations.BreakOpensPassage : Prop :=
  ∀ (s : State) (k : Lane) (x : Beam) (f : FilterTimer),
    (s.beam k x).filter = some f → due s.gateTime f.expiry = true → (s.beam k x).raw = .blocked →
    s.laneInService k = true → s.trackers[k] = some .clear → s.passages.length < 16 →
    let number := freeNumber (s.passages.map Passage.number) (s.passages.length + 1) s.nextPassage
    let blocked := s.modBeam k x fun b =>
      { b with filtered := .blocked, filter := none,
               stuck := some (f.start + BitVec.ofNat 32 (s.params.beamStuck * 1000)) }
    exec (.beamFilterExpiry k x) s = .next (State.endEvent { blocked with
      trackers := s.trackers.set k (some (.opening x)),
      passages := s.passages ++
        [{ number := number, lane := k, phase := .open_, firstBeam := some x, direction := none, persons := 1,
           opened := f.start, closed := none,
           flags := { oneAntenna := s.laneCondition k == .oneAntenna, blind := s.laneCondition k == .blind },
           items := [], settle := none, presence := none, judging := none }],
      nextPassage := if 65535 ≤ number then 1 else number + 1 } s)

/-- The tracker's rows that open and close no passage: CROSSING, LEAVING, back to OPENING, follow counting, WAIT_CLEAR, and FAULT,
in which BREAK and CLEAR are passed over; the event changes filter, stuck timer, tracker and persons alone (R1, R3, R10 to R14). -/
def Obligations.TrackerRows : Prop :=
  ∀ (s : State) (k : Lane) (x : Beam) (f : FilterTimer),
    (s.beam k x).filter = some f → due s.gateTime f.expiry = true → s.laneInService k = true →
    ((s.beam k x).raw = .blocked →
      let blocked := s.modBeam k x fun b =>
        { b with filtered := .blocked, filter := none,
                 stuck := some (f.start + BitVec.ofNat 32 (s.params.beamStuck * 1000)) }
      (∀ y, x ≠ y → s.trackers[k] = some (.opening y) → exec (.beamFilterExpiry k x) s =
        .next (State.endEvent { blocked with trackers := s.trackers.set k (some (.crossing y)) } s)) ∧
      (∀ c p, s.trackers[k] = some (.leaving x c) → s.openPassage? k = some p → exec (.beamFilterExpiry k x) s =
        .next (State.endEvent { blocked with
          trackers := s.trackers.set k (some (.crossing x)),
          passages := if (if before f.start c then 0 else elapsed c f.start) ≥ s.params.followGap then
              s.passages.map fun q => if q.number = p.number then { q with persons := min (q.persons + 1) 15 } else q
            else s.passages } s)) ∧
      (s.trackers[k] = some .waitClear ∨ s.trackers[k] = some .fault → exec (.beamFilterExpiry k x) s =
        .next (blocked.endEvent s))) ∧
    ((s.beam k x).raw = .clear → (s.beam k x).fault = false →
      let cleared := s.modBeam k x fun b => { b with filtered := .clear, filter := none, stuck := none }
      (s.trackers[k] = some (.crossing x) → exec (.beamFilterExpiry k x) s =
        .next (State.endEvent { cleared with trackers := s.trackers.set k (some (.leaving x f.start)) } s)) ∧
      (∀ y, x ≠ y → s.trackers[k] = some (.crossing y) → exec (.beamFilterExpiry k x) s =
        .next (State.endEvent { cleared with trackers := s.trackers.set k (some (.opening y)) } s)) ∧
      (s.trackers[k] = some .waitClear → exec (.beamFilterExpiry k x) s =
        .next (State.endEvent { cleared with
          trackers := s.trackers.set k
            (some (if (s.beam k (otherBeam x)).filtered = .clear then .clear else .waitClear)) } s)) ∧
      (s.trackers[k] = some .fault → exec (.beamFilterExpiry k x) s = .next (cleared.endEvent s)))

/-- A CLEAR that ends a crossing: a turn-back closes NONE, a completed crossing OUT or IN by its first beam; the passage settles
for SETTLE_TIME, or with SETTLE_TIME 0 is attributed and judged in the event, and adds to its lane's counts (R10, R12, R21, R25,
R86). -/
def Obligations.ClearClosesPassage : Prop :=
  ∀ (s : State) (k : Lane) (x first : Beam) (f : FilterTimer) (p : Passage) (d : Direction),
    (s.beam k x).filter = some f → due s.gateTime f.expiry = true → (s.beam k x).raw = .clear → (s.beam k x).fault = false →
    s.laneInService k = true → s.openPassage? k = some p → p.firstBeam = some first →
    ((s.trackers[k] = some (.opening first) ∧ x = first ∧ d = .none_) ∨
      (∃ c, s.trackers[k] = some (.leaving first c) ∧ x ≠ first ∧ d = if first = .inner then .out else .in_)) →
    let cleared := s.modBeam k x fun b => { b with filtered := .clear, filter := none, stuck := none }
    let closed : State := { cleared with
      trackers := s.trackers.set k (some .clear),
      passages := s.passages.map (fun q => if q.number = p.number then
        { q with phase := .settling, direction := some d, closed := some f.start, presence := none,
                 settle := if s.params.settleTime = 0 then none
                           else some (s.gateTime + BitVec.ofNat 32 s.params.settleTime) } else q),
      counts := modAt s.counts k (fun c =>
        match d with
        | .out => { c with personsOut := min (c.personsOut + p.persons) 4294967295,
                           passagesOut := min (c.passagesOut + 1) 4294967295 }
        | .in_ => { c with personsIn := min (c.personsIn + p.persons) 4294967295,
                           passagesIn := min (c.passagesIn + 1) 4294967295 }
        | _ => { c with passagesNone := min (c.passagesNone + 1) 4294967295 }) }
    exec (.beamFilterExpiry k x) s = .next
      ((if s.params.settleTime = 0 then closed.settleNow p.number else closed).endEvent s)

/-- A stuck timer's expiry: the beam enters fault with its notice, the tracker moves to FAULT, an OPEN passage closes UNKNOWN at the
expiry (R3, R14, R25). A CLEAR of a beam in fault ends the fault with its notice; the tracker leaves FAULT when no beam of the lane
is in fault, and an OPEN synthetic passage then closes UNKNOWN (R4, R15). A passage closed settles, or with SETTLE_TIME 0 is
attributed and judged in the event (R21). -/
def Obligations.BeamFaultsComeAndGo : Prop :=
  ∀ (s : State) (k : Lane) (x : Beam),
    let closing := fun (t : State) (p : Passage) (stamp : Time) =>
      let closed : State := { t with
        passages := t.passages.map (fun q => if q.number = p.number then
          { q with phase := .settling, direction := some .unknown, closed := some stamp, presence := none,
                   settle := if s.params.settleTime = 0 then none
                             else some (s.gateTime + BitVec.ofNat 32 s.params.settleTime) } else q),
        counts := modAt t.counts k fun c => { c with passagesUnknown := min (c.passagesUnknown + 1) 4294967295 } }
      if s.params.settleTime = 0 then closed.settleNow p.number else closed
    (∀ e, (s.beam k x).stuck = some e → due s.gateTime e = true → s.trackers[k].isSome = true →
      let stuck := (s.modBeam k x fun b => { b with stuck := none, fault := true }).queueNotice
        (beamNoticeBody .beamFault k x)
      let faulted : State := { stuck with trackers := s.trackers.set k (some .fault) }
      (s.openPassage? k = none ∨ s.trackers[k] = some .fault →
        exec (.stuckTimerExpiry k x) s = .next (faulted.endEvent s)) ∧
      ∀ p, s.openPassage? k = some p → s.trackers[k] ≠ some .fault →
        exec (.stuckTimerExpiry k x) s = .next ((closing faulted p e).endEvent s)) ∧
    ∀ f : FilterTimer, (s.beam k x).filter = some f → due s.gateTime f.expiry = true → (s.beam k x).raw = .clear →
      s.laneInService k = true → (s.beam k x).fault = true → s.trackers[k] = some .fault →
      let cleared := (s.modBeam k x fun b =>
        { b with filtered := .clear, filter := none, stuck := none, fault := false }).queueNotice
          (beamNoticeBody .beamRecovered k x)
      let released : State := { cleared with
        trackers := s.trackers.set k
          (some (if (s.beam k (otherBeam x)).filtered = .clear then .clear else .waitClear)) }
      ((s.beam k (otherBeam x)).fault = true → exec (.beamFilterExpiry k x) s = .next (cleared.endEvent s)) ∧
      ((s.beam k (otherBeam x)).fault = false →
        (s.openPassage? k = none → exec (.beamFilterExpiry k x) s = .next (released.endEvent s)) ∧
        ∀ p, s.openPassage? k = some p → p.flags.synthetic = true →
          exec (.beamFilterExpiry k x) s = .next ((closing released p f.start).endEvent s))

/-! ### Passages and attribution -/

/-- A presence timer's expiry closes the OPEN synthetic passage UNKNOWN at the expiry; it then settles for SETTLE_TIME, or with
SETTLE_TIME 0 is attributed and judged in the event (R17, R21, R25, R86). -/
def Obligations.PresenceExpiryClosesPassage : Prop :=
  ∀ (s : State) (p : Passage) (e : Time),
    s.passage? p.number = some p → p.phase = .open_ → p.presence = some e → due s.gateTime e = true →
    let closed : State := { s with
      passages := s.passages.map (fun (q : Passage) => if q.number = p.number then
        { q with phase := .settling, direction := some .unknown, closed := some e, presence := none,
                 settle := if s.params.settleTime = 0 then none
                           else some (s.gateTime + BitVec.ofNat 32 s.params.settleTime) } else q),
      counts := modAt s.counts p.lane (fun c =>
        { c with passagesUnknown := min (c.passagesUnknown + 1) 4294967295 }) }
    exec (.presenceTimerExpiry p.number) s = .next
      ((if s.params.settleTime = 0 then closed.settleNow p.number else closed).endEvent s)

/-- A settle timer's expiry attributes the passage, judges it, and reports it when nothing waits for an answer; a passage that takes
no item is reported, COUNT_ONLY as its lane's mode says, and its record is freed (R21, R22, R97, R111, R121). The judging event:
judging state, COUNT_ONLY, class matching of every item, the OVERFLOW alarm before the first item, the items in item-list order;
after it each item has its class fields and the verdict of its step, and the count of items without verdict is that of the items
that went to a query (R102, R111 to R113, R116). -/
def Obligations.SettleExpiryJudgesPassage : Prop :=
  (∀ (s : State) (p : Passage), s.passage? p.number = some p → p.phase = .settling → fires p.settle s.gateTime = true →
    exec (.settleTimerExpiry p.number) s = .next
      ((((s.attribute p.number).judge p.number).completeIfDone p.number).endEvent s)) ∧
  (∀ (s : State) (p : Passage) (d : Direction),
    s.passage? p.number = some p → p.phase = .settling → fires p.settle s.gateTime = true → p.direction = some d →
    p.flags.overflow = false → s.winners p d = [] → (s.passages.map Passage.number).Nodup →
    let body := reportBody { p with
      phase := .judging, settle := none, items := [], judging := some ⟨false, 0⟩,
      flags := { p.flags with countOnly := p.flags.countOnly || s.params.countOnly[p.lane] } }
    ∃ t, exec (.settleTimerExpiry p.number) s = .next t ∧
      t.passages = s.passages.filter (fun q => q.number != p.number) ∧
      t.reports = (s.queueReport body).reports ∧ t.sending = (s.queueReport body).sending ∧
      t.sightings = s.sightings ∧ t.counts = s.counts ∧ t.alarms = s.alarms ∧ t.notices = (s.queueReport body).notices ∧
      t.device.unattributed =
        min (s.device.unattributed +
          ((s.candidates p d).filter fun e => s.contest p e == .unattributed).length) 65535) ∧
  ∀ (s : State) (p : Passage) (d : Direction),
    s.passage? p.number = some p → p.direction = some d → (s.passages.map Passage.number).Nodup →
    (∀ it ∈ p.items, it.ruling = none) →
    let started : State := { s with
      passages := s.passages.map fun (q : Passage) => if q.number = p.number then
        { p with judging := some ⟨false, p.items.length⟩,
                 flags := { p.flags with countOnly := p.flags.countOnly || s.params.countOnly[p.lane] },
                 items := p.items.map fun it => { it with classFields := some (s.classOf it) } } else q }
    let warned := if (d = .out ∨ d = .unknown) ∧ p.flags.overflow = true then
      started.passageAlarm p.number .overflow none else started
    let decided := fun (it : Item) =>
      if d = .out ∨ d = .unknown then s.judgeOutward it (s.classOf it) else some ⟨.notJudged, .direction⟩
    s.judge p.number = (List.range p.items.length).foldl (fun t i => t.judgeItem d ⟨p.number, i⟩) warned ∧
    (∀ (i : Nat) (it : Item), p.items[i]? = some it → ∃ judged, (s.judge p.number).item? ⟨p.number, i⟩ = some judged ∧
      judged.item = it.item ∧ judged.classFields = some (s.classOf it) ∧ judged.ruling = decided it) ∧
    (((s.judge p.number).passage? p.number).bind Passage.judging).map Judging.undecided =
      some (p.items.filter fun it => decided it == none).length

/-- Attribution takes the first 24 winners in ranking order: their item records are the passage's item list, their sightings are
CLAIMED by it, every other sighting stays as it is, and OVERFLOW is set exactly when a winner was held back (R93 to R97). -/
def Obligations.AttributionTakesWinners : Prop :=
  ∀ (s : State) (p : Passage) (d : Direction),
    s.sightingLaw → s.passage? p.number = some p → p.direction = some d →
    let kept := (s.winners p d).take 24
    (s.attribute p.number).passage? p.number = some { p with
      phase := .judging, settle := none,
      items := kept.map fun w =>
        { item := w.2.item, owner := w.2.owner, cls := w.2.cls, issued := w.2.issued, score := w.1 },
      flags := { p.flags with overflow := p.flags.overflow || decide (24 < (s.winners p d).length) } } ∧
    (s.attribute p.number).sightings = s.sightings.map (fun e =>
      if e.item ∈ kept.map (fun w => w.2.item) then { e with state := .claimed p.number d } else e) ∧
    ∀ q, q ≠ p.number → (s.attribute p.number).passage? q = s.passage? q

/-- A sighting is a candidate when it was heard within the window on an antenna of the lane and is ACTIVE, or CLAIMED by an IN or
NONE passage while the passage is OUT or UNKNOWN (R87, R89). The winners are the candidates that no competitor scores higher and
whose own score is above 0 and at least ATTR_MIN, ranked by score, highest first, and by item number, lowest first (R92, R94). -/
def Obligations.WinnersAreRanked : Prop :=
  ∀ (s : State) (p : Passage) (d : Direction), s.sightingLaw →
    (∀ e : Sighting, s.candidate p d e = true ↔
      (∃ r ∈ e.history, (r.antenna.val = p.lane.val ∨ r.antenna.val = p.lane.val + 1) ∧
        (r.time - (p.opened - BitVec.ofNat 32 s.params.leadTime)).toNat ≤
          (s.gateTime - (p.opened - BitVec.ofNat 32 s.params.leadTime)).toNat) ∧
      (e.state = .active ∨
        ∃ n held, e.state = .claimed n held ∧ (held = .in_ ∨ held = .none_) ∧ (d = .out ∨ d = .unknown))) ∧
    (∀ w : Winner, w ∈ s.winners p d ↔
      w.2 ∈ s.sightings ∧ s.candidate p d w.2 = true ∧ w.1 = s.laneScore w.2.history p.lane (s.windowOf p) ∧
      (∀ q ∈ s.passages, q.number ≠ p.number → q.phase = .open_ ∨ q.phase = .settling →
        s.laneScore w.2.history q.lane (s.windowOf q) ≤ w.1) ∧
      0 < w.1 ∧ s.params.attrMin ≤ w.1) ∧
    (s.winners p d).Pairwise fun a b =>
      b.1 < a.1 ∨ (b.1 = a.1 ∧ a.2.item.toNat < b.2.item.toNat)

/-- The lane score: both antennas of a NORMAL lane, three times the one in service of a ONE_ANTENNA lane, 0 in a BLIND lane; the
antenna maxima are the highest strengths heard in the window, 0 where none was, and the score lies in 0..245 (R90, R91). -/
def Obligations.LaneScoreFormula : Prop :=
  ∀ (s : State) (h : List HistoryRecord) (k : Lane) (w : Window),
    (∀ r ∈ h, r.strength ≤ 79) →
    s.laneScore h k w ≤ 245 ∧
    (∀ a, (∀ r ∈ h, r.antenna = a → w.has r.time = true → r.strength ≤ windowMax h w a) ∧
      (windowMax h w a = 0 ∨ ∃ r ∈ h, r.antenna = a ∧ w.has r.time = true ∧ r.strength = windowMax h w a)) ∧
    (s.laneCondition k = .normal → s.laneScore h k w =
      windowMax h w (nearAntenna k) + windowMax h w (farAntenna k) +
        min (windowMax h w (nearAntenna k)) (windowMax h w (farAntenna k)) +
        min (h.filter fun r => w.has r.time && (r.antenna == nearAntenna k || r.antenna == farAntenna k)).length 8) ∧
    (∀ g, s.laneCondition k = .oneAntenna → (g = nearAntenna k ∨ g = farAntenna k) → s.countedOut g = false →
      s.laneScore h k w =
        3 * windowMax h w g + min (h.filter fun r => w.has r.time && r.antenna == g).length 8) ∧
    (s.laneCondition k = .blind → s.laneScore h k w = 0)

/-- A passage opened with the table full forces the record with the oldest opened time among those not OPEN, of equal times the one
opened first; with a record free nothing is forced. A SETTLING record is attributed and judged first. Of a record in JUDGING the
waiting items leave the list, the items without verdict take their fallbacks with reason FORCED and the effects of an alarm, its
slots become FREE and are handed on, the count rises, the report, flagged FORCED, is queued, and the record is freed (R23, R117,
R118, R134). The opening, by a BREAK in CLEAR or by a read that qualifies, follows in the same event (R9, R16, R19, R20). -/
def Obligations.ForcedCompletionFreesOldest : Prop :=
  (∀ s : State, s.passages.length < 16 → s.makeRoom = s) ∧
  (∀ (s : State) (p : Passage) (l₁ l₂ : List Passage), 16 ≤ s.passages.length →
    s.passages = l₁ ++ p :: l₂ → p.phase ≠ .open_ →
    (∀ q ∈ l₁, q.phase ≠ .open_ → before p.opened q.opened = true) →
    (∀ q ∈ l₂, q.phase ≠ .open_ → q.opened = p.opened ∨ before p.opened q.opened = true) →
    s.makeRoom = s.forceCompletion p) ∧
  (∀ (s : State) (p : Passage), s.passage? p.number = some p → p.phase = .settling →
    let judged := (s.attribute p.number).judge p.number
    ∃ q, judged.passage? p.number = some q ∧ q.phase = .judging ∧ s.forceCompletion p = judged.forceCompletion q) ∧
  (∀ (s : State) (p : Passage) (g : Judging), s.queryLaw → s.linkLaw → (s.passages.map Passage.number).Nodup →
    s.passage? p.number = some p → p.phase = .judging → p.judging = some g →
    let fallback := fun (it : Item) =>
      (if it.classFields.map ItemClass.fallbackPass = some true then .pass else .alarm : Verdict)
    let alarmed := p.items.filter fun it => it.ruling == none && fallback it == .alarm
    let noted := match alarmed with
      | it :: _ =>
        if g.mark || p.flags.countOnly then s
        else s.queueNotice (alarmNoticeBody p.lane p.number .forced (some it.item))
      | [] => s
    let withdrawn : State := { noted with
      passages := s.passages.filter (fun q => q.number != p.number),
      waiting := s.waiting.filter (fun r => r.passage != p.number),
      slots := s.slots.map (fun o => if o.map (fun q => q.ref.passage) = some p.number then none else o),
      counts := if alarmed ≠ [] ∧ g.mark = false then
          modAt s.counts p.lane (fun c => { c with withAlarm := min (c.withAlarm + 1) 4294967295 })
        else s.counts,
      alarms := if alarmed ≠ [] ∧ p.flags.countOnly = false then
          s.alarms.set p.lane ⟨.sounding, some (s.gateTime + BitVec.ofNat 32
            ((if s.params.alarmTime = 0 then 256 else s.params.alarmTime) * 100))⟩
        else s.alarms,
      device := { noted.device with forcedCompletions := min (s.device.forcedCompletions + 1) 65535 } }
    s.forceCompletion p = withdrawn.handSlotsOn.queueReport (reportBody { p with
      flags := { p.flags with forced := true },
      items := p.items.map fun it =>
        if it.ruling = none then { it with slot := none, ruling := some ⟨fallback it, .forced⟩ } else it })) ∧
  (∀ (s : State) (k : Lane) (x : Beam) (f : FilterTimer),
    (s.beam k x).filter = some f → due s.gateTime f.expiry = true → (s.beam k x).raw = .blocked →
    s.laneInService k = true → s.trackers[k] = some .clear → 16 ≤ s.passages.length →
    let blocked := s.modBeam k x fun b =>
      { b with filtered := .blocked, filter := none,
               stuck := some (f.start + BitVec.ofNat 32 (s.params.beamStuck * 1000)) }
    let room := ({ blocked with trackers := s.trackers.set k (some (.opening x)) } : State).makeRoom
    let number := freeNumber (room.passages.map Passage.number) (room.passages.length + 1) room.nextPassage
    exec (.beamFilterExpiry k x) s = .next (State.endEvent { room with
      passages := room.passages ++
        [{ number := number, lane := k, phase := .open_, firstBeam := some x, direction := none, persons := 1,
           opened := f.start, closed := none,
           flags := { oneAntenna := s.laneCondition k == .oneAntenna, blind := s.laneCondition k == .blind },
           items := [], settle := none, presence := none, judging := none }],
      nextPassage := if 65535 ≤ number then 1 else number + 1 } s)) ∧
  ∀ (s : State) (r : Read) (rest : List Read) (k : Lane),
    s.intake = r :: rest → (s.mergedEntry r).state = .active → 20 ≤ s.strength r → s.trackers[k] = some .fault →
    (r.antenna = nearAntenna k ∨ r.antenna = farAntenna k) →
    (∀ j : Lane, j ≠ k → r.antenna = nearAntenna j ∨ r.antenna = farAntenna j → s.trackers[j] ≠ some .fault) →
    due s.gateTime (r.time + BitVec.ofNat 32 s.params.sightAge) = false → s.openPassage? k = none →
    16 ≤ s.passages.length →
    let room := ((({ s with intake := rest } : State).readRemoved).mergeRead r).makeRoom
    let number := freeNumber (room.passages.map Passage.number) (room.passages.length + 1) room.nextPassage
    exec .readMerge s = .next (State.endEvent { room with
      passages := room.passages ++
        [{ number := number, lane := k, phase := .open_, firstBeam := none, direction := none, persons := 0,
           opened := r.time, closed := none,
           flags := { synthetic := true, oneAntenna := s.laneCondition k == .oneAntenna,
                      blind := s.laneCondition k == .blind },
           items := [], settle := none, presence := some (s.gateTime + 1000), judging := none }],
      nextPassage := if 65535 ≤ number then 1 else number + 1 } s)

/-- Each opening takes the first number, in cyclic order from the next passage number on, that no record in the table holds once
room has been made, and the number after it becomes the next passage number, from 65535 to 1 (R19, R23). -/
def Obligations.PassageNumbersAreFree : Prop :=
  ∀ (s : State) (k : Lane) (first : Option Beam) (persons : Nat) (opened : Time) (presence : Option Time),
    s.passages.length ≤ 16 → 1 ≤ s.nextPassage → s.nextPassage ≤ 65535 →
    let used := s.makeRoom.passages.map Passage.number
    ∃ p, (s.openPassage k first persons opened presence).passages = s.makeRoom.passages ++ [p] ∧
      1 ≤ p.number ∧ p.number ≤ 65535 ∧ p.number ∉ used ∧
      (∀ i, i < (p.number + 65535 - s.nextPassage) % 65535 → (s.nextPassage - 1 + i) % 65535 + 1 ∈ used) ∧
      (s.openPassage k first persons opened presence).nextPassage = if p.number = 65535 then 1 else p.number + 1

/-- A merged read of strength 20 or more, of a sighting that is then ACTIVE or CLAIMED by an IN or NONE passage, qualifies for each
lane in FAULT beside its antenna: it opens a synthetic passage in a lane without an OPEN passage, and restarts the presence timer of
the OPEN synthetic passage of the other (R16, R18, R20, R69). A read that is weaker, or of a sighting in another state, opens and
restarts nothing. Of two lanes the lower opens first: the model's choice (log entry 10). -/
def Obligations.QualifyingReadOpensSynthetic : Prop :=
  ∀ (s : State) (r : Read) (rest : List Read),
    s.intake = r :: rest → s.passageLaw → s.passages.length < 15 →
    due s.gateTime (r.time + BitVec.ofNat 32 s.params.sightAge) = false →
    let state := (s.mergedEntry r).state
    let strong := 20 ≤ s.strength r ∧
      (state = .active ∨ ∃ n d, state = .claimed n d ∧ (d = .in_ ∨ d = .none_))
    let hit := fun (k : Lane) => (r.antenna.val = k.val ∨ r.antenna.val = k.val + 1) ∧ s.trackers[k] = some .fault
    ∃ t, exec .readMerge s = .next t ∧ t.intake = rest ∧
      (¬strong → t.passages = s.passages ∧ t.nextPassage = s.nextPassage) ∧
      (strong → ∃ opened : List Passage,
        t.passages = s.passages.map (fun q => if q.phase = .open_ ∧ hit q.lane then
          { q with presence := some (s.gateTime + 1000) } else q) ++ opened ∧
        opened.map Passage.lane = allLanes.filter (fun k => decide (hit k) && (s.openPassage? k).isNone) ∧
        (t.passages.map Passage.number).Nodup ∧
        ∀ p ∈ opened, p =
          { number := p.number, lane := p.lane, phase := .open_, firstBeam := none, direction := none, persons := 0,
            opened := r.time, closed := none,
            flags := { synthetic := true, oneAntenna := s.laneCondition p.lane == .oneAntenna,
                       blind := s.laneCondition p.lane == .blind },
            items := [], settle := none, presence := some (s.gateTime + 1000), judging := none })

/-! ### The tag link and the arbiter -/

/-- The CRC of R36 and of R155: over the bytes 0x31 to 0x39 it is 0x29B1; and a run of bits that is followed by its own CRC, most
significant bit first, leaves the register at 0. -/
def Obligations.CrcLeavesZeroOverItself : Prop :=
  crc [0x31, 0x32, 0x33, 0x34, 0x35, 0x36, 0x37, 0x38, 0x39] = 0x29B1 ∧
  ∀ bytes : List Byte, crc (bytes ++ toBytes 2 (crc bytes).toNat) = 0

/-- Rate lock and polarity: a reply is taken against the lowest-numbered enabled entry whose range holds its preamble length; its
record is read as received after the pattern, inverted after the pattern's complement, and any other sync word is NOISE (R33 to
R35). -/
def Obligations.RateLockAndPolarity : Prop :=
  ∀ (rates : Vector RateEntry 4) (len : Nat) (bits : List Bool),
    (∀ i : Fin 4, rates[i].accepts len = true →
      (∀ j : Fin 4, j < i → rates[j].accepts len = false) →
      (bits.length < 16 → decideReply rates len bits = .noise) ∧
      (16 ≤ bits.length → bitsNat (bits.take 16) = rates[i].pattern.toNat →
        decideReply rates len bits =
          if bits.length < 120 then .corrupt else decideRecord ((bits.drop 16).take 104)) ∧
      (16 ≤ bits.length → bitsNat (bits.take 16) = 65535 - rates[i].pattern.toNat →
        decideReply rates len bits =
          if bits.length < 120 then .corrupt else decideRecord (((bits.drop 16).take 104).map not)) ∧
      (16 ≤ bits.length → bitsNat (bits.take 16) ≠ rates[i].pattern.toNat →
        bitsNat (bits.take 16) ≠ 65535 - rates[i].pattern.toNat → decideReply rates len bits = .noise)) ∧
    ((∀ i : Fin 4, rates[i].accepts len = false) → decideReply rates len bits = .noise) ∧
    (∀ i : Fin 4, rates[i].accepts len = true ↔
      rates[i].enabled = true ∧ (rates[i].nominal : Int) - rates[i].tolerance ≤ len ∧
        len ≤ rates[i].nominal + rates[i].tolerance) ∧
    (State.reset.rates[0].accepts len = true ↔ 360 ≤ len ∧ len ≤ 408) ∧
    (State.reset.rates[1].accepts len = true ↔ 180 ≤ len ∧ len ≤ 204)

/-- The owner filter: a blank code passes exactly when accept-blank is on; any other code passes when it matches the primary, or
the secondary while that is enabled; the stock filter accepts every non-blank code and refuses blank tags (R38). -/
def Obligations.OwnerFilterPasses : Prop :=
  (∀ (f : OwnerFilter) (o : Owner), f.accepts o = true ↔
    (o = 0 ∧ f.acceptBlank = true) ∨
    (o ≠ 0 ∧ (o &&& f.primaryMask = f.primaryCode &&& f.primaryMask ∨
      (f.secondaryEnable = true ∧ o &&& f.secondaryMask = f.secondaryCode &&& f.secondaryMask)))) ∧
  (∀ code o : BitVec 16, (o &&& 0 = code &&& 0) ∧ (o &&& 0xFFFF = code &&& 0xFFFF ↔ o = code)) ∧
  ∀ o : Owner, State.reset.owner.accepts o = true ↔ o ≠ 0

/-- The working frame exponent after a frame: up by 1 when more slots collided than stood empty, down by 1 when none collided and
at least half stood empty, within 0..7; at 0 a lone collision raises it and nothing lowers it (R39). -/
def Obligations.FrameExponentFollowsTallies : Prop :=
  ∀ f c s e : Nat, f ≤ 7 → c + s + e = 2 ^ f →
    (e < c → f < 7 → adjustExp f c e = f + 1) ∧
    (¬(e < c ∧ f < 7) → c = 0 → 2 ^ f ≤ 2 * e → 0 < f → adjustExp f c e = f - 1) ∧
    (¬(e < c ∧ f < 7) → ¬(c = 0 ∧ 2 ^ f ≤ 2 * e ∧ 0 < f) → adjustExp f c e = f) ∧
    adjustExp f c e ≤ 7 ∧ (f = 0 → c = 1 → adjustExp f c e = 1) ∧ (f = 0 → c = 0 → adjustExp f c e = 0)

/-- A slot report taken in FRAME before the frame's last slot: the tally and the counter of its outcome rise, a SINGLE sends QUIET
and is queued as a read or counted as foreign, and NEXT opens the next slot; with 8 reads waiting the round enters HELD instead, the
slot unopened (R28, R31, R33, R37, R51). Silence is EMPTY and undecodable energy a COLLISION; a record of 104 bits is SINGLE exactly
when its check field is the CRC of the 88 bits before it, and then gives item number, owner code, issued flag and media class, and
is CORRUPT otherwise (R33, R36, R37). -/
def Obligations.SlotReportOpensNextSlot : Prop :=
  (∀ (s : State) (r : Round) (rep : SlotReport),
    s.engine = .frame → s.round = some r → r.slot + 1 < 2 ^ r.exp →
    let o := decideSlot r.rates rep
    let counted := modAt s.linkCounters r.antenna fun c =>
      match o with
      | .empty => c
      | .noise => { c with noise := min (c.noise + 1) 65535 }
      | .collision => { c with collisions := min (c.collisions + 1) 65535 }
      | .corrupt => { c with corrupt := min (c.corrupt + 1) 65535 }
      | .single _ => { c with singles := min (c.singles + 1) 65535 }
    let taken : State := match o with
      | .single t =>
        if r.owner.accepts t.owner = true then { s with
          linkCounters := counted, air := s.air ++ [.quiet t.item],
          intake := s.intake ++ [⟨t.item, t.owner, t.issued, t.cls, r.antenna, reportAmplitude rep, s.gateTime⟩] }
        else { s with
          linkCounters := modAt counted r.antenna fun c => { c with foreign := min (c.foreign + 1) 65535 },
          air := s.air ++ [.quiet t.item] }
      | _ => { s with linkCounters := counted }
    let c := r.c + if o = .collision ∨ o = .corrupt then 1 else 0
    let e := r.e + if o = .empty ∨ o = .noise then 1 else 0
    let singles := r.s + match o with
      | .single _ => 1
      | _ => 0
    (taken.intake.length < 8 → exec (.slotReport rep) s = .next { taken with
      air := taken.air ++ [.next],
      round := some { r with c := c, e := e, s := singles, slot := r.slot + 1, settleTimer := none, holdTimer := none } }) ∧
    (8 ≤ taken.intake.length → exec (.slotReport rep) s = .next { taken with
      engine := .held, round := some { r with c := c, e := e, s := singles, slot := r.slot + 1, settleTimer := none, holdTimer := some (s.gateTime + 20) },
      linkCounters := modAt taken.linkCounters r.antenna fun x => { x with holds := min (x.holds + 1) 65535 } })) ∧
  ∀ rates : Vector RateEntry 4,
    decideSlot rates .silence = .empty ∧ decideSlot rates .energy = .collision ∧
    (∀ len bits amp, decideSlot rates (.reply len bits amp) = decideReply rates len.toNat bits) ∧
    ∀ bits : List Bool, bits.length = 104 → decideRecord bits =
      if bitsNat (bits.drop 88) = (crcBits (bits.take 88)).toNat then
        .single ⟨BitVec.ofNat 64 (bitsNat (bits.take 64)), BitVec.ofNat 16 (bitsNat ((bits.drop 64).take 16)),
          bits.getD 80 false, BitVec.ofNat 4 (bitsNat ((bits.drop 84).take 4))⟩
      else .corrupt

/-- A report of the last slot of a frame: it is counted, a SINGLE sends QUIET and is queued as a read or counted as foreign, and then
the frame closes with the exponent adjusted by the frame's tallies, this slot among them. A frame with no SINGLE, no collision and
no CORRUPT ends the round QUIET_FRAME, a sixth frame ends it FRAME_LIMIT, and otherwise SWEEP opens the next frame with the new
exponent, or the round is HELD with 8 reads waiting (R28, R31, R33, R37, R39, R40, R45, R46). -/
def Obligations.LastSlotEndsFrame : Prop :=
  ∀ (s : State) (r : Round) (rep : SlotReport),
    s.engine = .frame → s.round = some r → r.slot + 1 = 2 ^ r.exp →
    let o := decideSlot r.rates rep
    let counted := modAt s.linkCounters r.antenna fun c =>
      match o with
      | .empty => c
      | .noise => { c with noise := min (c.noise + 1) 65535 }
      | .collision => { c with collisions := min (c.collisions + 1) 65535 }
      | .corrupt => { c with corrupt := min (c.corrupt + 1) 65535 }
      | .single _ => { c with singles := min (c.singles + 1) 65535 }
    let taken : State := match o with
      | .single t =>
        if r.owner.accepts t.owner = true then { s with
          linkCounters := counted, air := s.air ++ [.quiet t.item],
          intake := s.intake ++ [⟨t.item, t.owner, t.issued, t.cls, r.antenna, reportAmplitude rep, s.gateTime⟩] }
        else { s with
          linkCounters := modAt counted r.antenna fun c => { c with foreign := min (c.foreign + 1) 65535 },
          air := s.air ++ [.quiet t.item] }
      | _ => { s with linkCounters := counted }
    let c := r.c + if o = .collision ∨ o = .corrupt then 1 else 0
    let e := r.e + if o = .empty ∨ o = .noise then 1 else 0
    let singles := r.s + match o with
      | .single _ => 1
      | _ => 0
    let exp := adjustExp r.exp c e
    let closing := fun (cause : EndCause) => { taken with
      engine := .closing, field := none, air := taken.air ++ [.fieldOff],
      round := some { r with c := c, e := e, s := singles, exp := exp, roundTimer := none, settleTimer := none,
                             holdTimer := none, cause := some cause },
      storedExp := if r.expSet then s.storedExp else s.storedExp.set r.antenna exp }
    (c = 0 → singles = 0 → exec (.slotReport rep) s = .next (closing .quietFrame)) ∧
    (¬(c = 0 ∧ singles = 0) → 6 ≤ r.frames → exec (.slotReport rep) s = .next (closing .frameLimit)) ∧
    (¬(c = 0 ∧ singles = 0) → r.frames < 6 →
      (taken.intake.length < 8 → exec (.slotReport rep) s = .next { taken with
        air := taken.air ++ [.sweep exp],
        round := some { r with exp := exp, slot := 0, frames := r.frames + 1, c := 0, s := 0, e := 0,
                               settleTimer := none, holdTimer := none } }) ∧
      (8 ≤ taken.intake.length → exec (.slotReport rep) s = .next { taken with
      engine := .held, round := some { r with c := c, e := e, s := singles, exp := exp, slot := 0, settleTimer := none, holdTimer := some (s.gateTime + 20) },
      linkCounters := modAt taken.linkCounters r.antenna fun x => { x with holds := min (x.holds + 1) 65535 } }))

/-- The engine enters HELD, with the slot unopened, when the intake queue fills; the removal of a read ends the hold and opens the
waiting slot (R31, R32). -/
def Obligations.FullIntakeHoldsRound : Prop :=
  ∀ (s : State) (r : Round), s.round = some r →
    (s.intake.length = 8 → s.openSlot r = { s with
      engine := .held,
      round := some { r with settleTimer := none, holdTimer := some (s.gateTime + 20) },
      linkCounters := modAt s.linkCounters r.antenna fun c => { c with holds := min (c.holds + 1) 65535 } }) ∧
    (s.engine = .held → ∀ rd rest, s.intake = rd :: rest → rest.length < 8 → ∃ t, exec .readMerge s = .next t ∧
      t.intake = rest ∧ t.engine = .frame ∧
      t.air = s.air ++ [if r.slot = 0 then .sweep r.exp else .next] ∧
      t.round.map Round.holdTimer = some none ∧ t.round.map Round.roundTimer = some r.roundTimer)

/-- The ends of a round by its hold timer, its round timer and a field fault: CLOSING with the cause, the counter of the cause,
field off requested, the working exponent stored unless START_EXP has been set since the grant (R32, R41, R42, R45, R46). -/
def Obligations.RoundEndsInClosing : Prop :=
  ∀ (s : State) (r : Round), s.round = some r →
    let closing := fun (t : State) (cause : EndCause) =>
      { t with engine := .closing, field := none,
               round := some { r with roundTimer := none, settleTimer := none, holdTimer := none, cause := some cause },
               storedExp := if r.expSet then s.storedExp else s.storedExp.set r.antenna r.exp }.emit .fieldOff
    (s.engine = .held → fires r.holdTimer s.gateTime = true → exec .holdTimerExpiry s = .next
      (closing (s.modLink r.antenna fun c => { c with abandoned := min (c.abandoned + 1) 65535 }) .holdLimit)) ∧
    (s.engine = .fieldSettle ∨ s.engine = .frame ∨ s.engine = .held →
      (fires r.roundTimer s.gateTime = true → exec .roundTimerExpiry s = .next (closing s .timeLimit)) ∧
      exec .fieldFault s = .next
        (closing (s.modLink r.antenna fun c => { c with fieldFaults := min (c.fieldFaults + 1) 65535 }) .fieldFault))

/-- Field settle: SWEEP with the working exponent opens the first frame, or with 8 reads waiting the round is HELD; in a retry round
the antenna comes back into service for every reader, passages are marked afresh and one antenna recovered notice is queued (R20,
R30, R31, R61). -/
def Obligations.FieldSettleOpensFirstFrame : Prop :=
  ∀ (s : State) (r : Round),
    s.engine = .fieldSettle → s.round = some r → fires r.settleTimer s.gateTime = true → r.slot = 0 →
    let sweeping := fun (t : State) => State.recomputeLines { t with
      engine := .frame, air := t.air ++ [.sweep r.exp],
      round := some { r with frames := r.frames + 1, c := 0, s := 0, e := 0, settleTimer := none, holdTimer := none } }
    let holding := fun (t : State) => State.recomputeLines { t with
      engine := .held, round := some { r with settleTimer := none, holdTimer := some (s.gateTime + 20) },
      linkCounters := modAt s.linkCounters r.antenna fun c => { c with holds := min (c.holds + 1) 65535 } }
    let opening := fun (t : State) => if s.intake.length < 8 then sweeping t else holding t
    (r.label ≠ .retry → exec .fieldSettleExpiry s = .next (opening s)) ∧
    (r.label = .retry → exec .fieldSettleExpiry s = .next (opening
      (({ s with antennas := modAt s.antennas r.antenna fun a => { a with trial := false, settled := true } } :
          State).markPassages.queueNotice (antennaNoticeBody .antennaRecovered r.antenna))))

/-- The field-off acknowledgement frees the transceiver and is a choice point; a FIELD_FAULT takes the antenna out of service with a
notice and a 10 s retry timer, before settle of a retry round without a notice, and a withdrawn retry is due again (R45, R52, R57,
R59, R61). -/
def Obligations.FieldOffAckEndsRound : Prop :=
  ∀ s : State, s.engine = .closing →
    let free : State := { s with engine := .idle, round := none, grant := none }
    (s.round = none → exec .fieldOffAck s = .next free.choose.recomputeLines) ∧
    ∀ r, s.round = some r →
      (r.cause ≠ some .fieldFault → ¬(r.cause = some .withdrawn ∧ r.label = .retry ∧ s.antennas[r.antenna].settled = false) →
        exec .fieldOffAck s = .next free.choose.recomputeLines) ∧
      (r.cause = some .withdrawn → r.label = .retry → s.antennas[r.antenna].settled = false →
        exec .fieldOffAck s = .next
          ({ free with antennas := modAt s.antennas r.antenna fun a =>
              { a with out := true, trial := false, retry := .due } }.choose.recomputeLines)) ∧
      (r.cause = some .fieldFault →
        let failed : State := { free with antennas := modAt s.antennas r.antenna fun _ =>
          { out := true, trial := false, settled := false, retry := .running (s.gateTime + 10000) } }
        exec .fieldOffAck s = .next
          ((if r.label = .retry ∧ s.antennas[r.antenna].settled = false then failed
            else failed.markPassages.queueNotice (antennaNoticeBody .antennaFault r.antenna)).choose.recomputeLines))

/-- The arbiter's choice: a hot eligible antenna first; with none, once BG_INTERVAL has passed, a due retry within LANES, else an
eligible antenna; each time the next candidate after last granted in cyclic order (R54, R56). An antenna is hot when a lane beside
it that is in service has an OPEN or SETTLING passage or its tracker in FAULT (R55). That the arbiter chooses once, at the end of an
event in which an antenna became hot, is deduced from R57 (log entry 12); that a retry due beyond LANES does not hold back a background
round is deduced from R54 and R60 (log entry 32). -/
def Obligations.ChoiceFollowsPrecedence : Prop :=
  ∀ s : State,
    (∀ (p : Antenna → Bool) (a : Antenna), s.nextAntenna p = some a ↔
      p a = true ∧ ∀ b, p b = true → cyclicDistance s.lastGranted a ≤ cyclicDistance s.lastGranted b) ∧
    (∀ p : Antenna → Bool, s.nextAntenna p = none ↔ ∀ a, p a = false) ∧
    (∀ s0 : State, (∃ a, s.hot a = true ∧ s0.hot a = false) → s.endEvent s0 = s.choose.recomputeLines) ∧
    (∀ s0 : State, (∀ a, s.hot a = true → s0.hot a = true) → s.endEvent s0 = s.recomputeLines) ∧
    (∀ a, s.eligible a = true ↔ a.val ≤ s.params.lanes ∧ s.antennas[a].out = false) ∧
    (∀ a, s.hot a = true ↔ ∃ k : Lane, (k.val = a.val ∨ k.val + 1 = a.val) ∧ k.val < s.params.lanes ∧
      ((∃ p ∈ s.passages, p.lane = k ∧ (p.phase = .open_ ∨ p.phase = .settling)) ∨ s.trackers[k] = some .fault)) ∧
    (∀ a, s.nextAntenna (fun b => s.eligible b && s.hot b) = some a → s.choice = some (a, .hot)) ∧
    ((∀ a, (s.eligible a && s.hot a) = false) →
      (s.backgroundPassed = false → s.choice = none) ∧
      (s.backgroundPassed = true →
        (∀ a, s.nextAntenna (fun b => s.withinLanes b && s.antennas[b].retry == .due) = some a →
          s.choice = some (a, .retry)) ∧
        ((∀ a, (s.withinLanes a && s.antennas[a].retry == .due) = false) →
          s.choice = (s.nextAntenna s.eligible).map fun a => (a, .background))))

/-- A choice with the grant state FREE and the engine in IDLE grants what R56 gives, and otherwise nothing: a grant starts a round
with copies of the rate table and the owner filter, the stored exponent, the settle and round timers; a RETRY or BACKGROUND grant
restarts the background timer, a HOT grant leaves it and last background start as they are (R29, R53, R56, R57, R60). A retry
timer's expiry marks the antenna's retry as due and is a choice point, and so is the background timer's (R57, R58, R60). -/
def Obligations.TimersGrantRounds : Prop :=
  let granted := fun (s : State) (a : Antenna) (label : GrantLabel) => { s with
    grant := some ⟨a, label⟩, lastGranted := some a,
    lastBackground := if label = .hot then s.lastBackground else s.gateTime,
    bgTimer := if label = .hot then s.bgTimer else some (s.gateTime + BitVec.ofNat 32 s.params.bgInterval),
    antennas := if label = .retry then s.antennas.set a ⟨false, true, false, .stopped⟩ else s.antennas,
    engine := .fieldSettle, field := some a, air := s.air ++ [.fieldOn a],
    linkCounters := modAt s.linkCounters a (fun c => { c with rounds := min (c.rounds + 1) 65535 }),
    round := some
      { antenna := a, label := label, exp := s.storedExp[a], frames := 0, slot := 0, c := 0, s := 0, e := 0,
        settleTimer := some (s.gateTime + 2), holdTimer := none,
        roundTimer := some (s.gateTime + BitVec.ofNat 32 s.params.roundMax), rates := s.rates, owner := s.owner,
        expSet := false, cause := none } }
  (∀ s : State,
    (s.grant ≠ none ∨ s.engine ≠ .idle ∨ s.choice = none → s.choose = s) ∧
    ∀ a label, s.grant = none → s.engine = .idle → s.choice = some (a, label) → s.choose = granted s a label) ∧
  (∀ (s : State) (a : Antenna), retryFires s.antennas[a].retry s.gateTime = true →
    exec (.retryTimerExpiry a) s = .next (s.modAntenna a fun t => { t with retry := .due }).choose) ∧
  ∀ (s : State), fires s.bgTimer s.gateTime = true →
    let expired := { s with bgTimer := none }
    (s.grant ≠ none ∨ s.engine ≠ .idle ∨ s.choice = none → exec .backgroundTimerExpiry s = .next expired) ∧
    ∀ a label, s.grant = none → s.engine = .idle → s.choice = some (a, label) →
      exec .backgroundTimerExpiry s = .next (granted expired a label)

/-! ### Sightings -/

/-- The base strength of an amplitude: 1 for 0, the amplitude up to 15, and eight steps for each doubling from 16 on; it lies in
1..79 (R65). -/
def Obligations.StrengthIsLogarithmic : Prop :=
  baseStrength 0 = 1 ∧ (∀ r, 1 ≤ r → r ≤ 15 → baseStrength r = r) ∧
  (∀ r e, 16 ≤ r → r ≤ 4095 → 2 ^ e ≤ r → r < 2 ^ (e + 1) →
    4 ≤ e ∧ e ≤ 11 ∧ 8 ≤ r / 2 ^ (e - 3) ∧ r / 2 ^ (e - 3) - 8 ≤ 7 ∧
    baseStrength r = 8 * (e - 2) + (r / 2 ^ (e - 3) - 8)) ∧
  (∀ r, r ≤ 4095 → 1 ≤ baseStrength r ∧ baseStrength r ≤ 79) ∧ baseStrength 15 = 15 ∧ baseStrength 16 = 16 ∧
  ∀ (s : State) (r : Read),
    (s.strength r : Int) = max 1 (min 79 (baseStrength r.amplitude.toNat + s.params.trims[r.antenna]))

/-- The merge of a read of a tag the table holds: the record is appended, the thirteenth oldest leaves, last-seen, owner, flag and
class follow the read, the age restarts; an ACTIVE entry heard for RESIDENT_TIME becomes RESIDENT, a RESIDENT one heard more than
RESIDENT_JUMP above its baseline ACTIVE, a CLAIMED one stays so (R68, R70, R72, R73, R75). -/
def Obligations.MergeUpdatesEntry : Prop :=
  ∀ (s : State) (r : Read) (e : Sighting), s.sighting? r.item = some e → e.history.length ≤ 12 → s.paramLaw →
    let m := s.mergedEntry r
    m.item = e.item ∧ m.owner = r.owner ∧ m.issued = r.issued ∧ m.cls = r.cls ∧ m.lastSeen = r.time ∧
    m.ageExpiry = r.time + BitVec.ofNat 32 s.params.sightAge ∧
    m.history = (if e.history.length < 12 then e.history else e.history.drop 1) ++ [⟨r.antenna, s.strength r, r.time⟩] ∧
    (e.state = .active → m.firstSeen = e.firstSeen ∧
      (elapsed e.firstSeen r.time < s.params.residentTime * 1000 → m.state = .active) ∧
      (s.params.residentTime * 1000 ≤ elapsed e.firstSeen r.time → ∃ b, m.state = .resident b ∧
        ∀ a : Antenna, (∀ x ∈ m.history, x.antenna = a → x.strength ≤ b[a]) ∧
          (b[a] = 0 ∨ ∃ x ∈ m.history, x.antenna = a ∧ x.strength = b[a]))) ∧
    (∀ b, e.state = .resident b →
      (b[r.antenna] + s.params.residentJump < s.strength r → m.state = .active ∧ m.firstSeen = r.time) ∧
      (s.strength r ≤ b[r.antenna] + s.params.residentJump → m.state = .resident b ∧ m.firstSeen = e.firstSeen)) ∧
    ∀ n d, e.state = .claimed n d → m.state = .claimed n d ∧ m.firstSeen = e.firstSeen

/-- The merge of a read of a tag the table does not hold makes a new ACTIVE entry; READ_MERGE leaves the entry in the table unless
its age has already passed, and with an empty queue does nothing (R69, R71, R75). An entry's age expiry deletes it and changes
nothing else (R75, R76). That the READ_MERGE itself deletes an entry whose age has passed is deduced, and that an age expiry equal to
gate time counts as passed there is the model's choice (log entry 13). -/
def Obligations.EntriesComeAndGo : Prop :=
  ∀ s : State,
    (∀ e, s.sighting? e.item = some e → due s.gateTime e.ageExpiry = true →
      exec (.ageExpiry e.item) s = .next { s with sightings := s.sightings.filter fun x => x.item != e.item }) ∧
    (s.intake = [] → exec .readMerge s = .next s) ∧
    ∀ r rest, s.intake = r :: rest →
      (s.sighting? r.item = none → 1 ≤ s.params.residentTime → s.mergedEntry r =
        { item := r.item, owner := r.owner, issued := r.issued, cls := r.cls, state := .active, firstSeen := r.time,
          lastSeen := r.time, ageExpiry := r.time + BitVec.ofNat 32 s.params.sightAge,
          history := [⟨r.antenna, s.strength r, r.time⟩] }) ∧
      ((∀ k : Lane, s.trackers[k] ≠ some .fault) → ∃ t, exec .readMerge s = .next t ∧ t.intake = rest ∧
        t.passages = s.passages ∧ t.trackers = s.trackers ∧
        t.sighting? r.item = if due s.gateTime (s.mergedEntry r).ageExpiry then none else some (s.mergedEntry r))

/-- Eviction: RESIDENT entries first, then ACTIVE, then CLAIMED; within the group the oldest last-seen, then the lowest item
number. The last-seen times are taken to lie within one half of the range of gate time (R77, R78). -/
def Obligations.EvictionOrder : Prop :=
  ∀ (s : State) (base : Time), s.sightings.length = 128 →
    (∀ e ∈ s.sightings, (e.lastSeen - base).toNat < 2 ^ 31) → s.sightings.Pairwise (fun a b => a.item.toNat < b.item.toNat) →
    ∃ v ∈ s.sightings, s.evictIfFull = { s with
        sightings := s.sightings.filter (fun e => e.item != v.item),
        device := { s.device with evictions := min (s.device.evictions + 1) 65535 } } ∧
      ∀ e ∈ s.sightings, e ≠ v →
        evictionGroup v < evictionGroup e ∨
        (evictionGroup v = evictionGroup e ∧
          ((v.lastSeen - base).toNat < (e.lastSeen - base).toNat ∨
            (v.lastSeen = e.lastSeen ∧ v.item.toNat < e.item.toNat)))

/-- A claim request: granted on an ACTIVE entry, and on one CLAIMED by an IN or NONE passage when the claim is OUT or UNKNOWN; a
grant changes state and claimed-by alone, and a refusal leaves the table unchanged (R79). -/
def Obligations.ClaimTable : Prop :=
  ∀ (s : State) (i : ItemNo) (n : Nat) (d : Direction),
    (s.sighting? i = none → s.claimGranted i d = false) ∧
    (∀ e, s.sighting? i = some e →
      (e.state = .active → s.claimGranted i d = true) ∧
      (∀ b, e.state = .resident b → s.claimGranted i d = false) ∧
      (∀ m held, e.state = .claimed m held →
        (s.claimGranted i d = true ↔ (held = .in_ ∨ held = .none_) ∧ (d = .out ∨ d = .unknown)))) ∧
    (s.claimGranted i d = true → s.claim i n d = { s with
      sightings := s.sightings.map fun e => if e.item = i then { e with state := .claimed n d } else e }) ∧
    (s.claimGranted i d = false → s.claim i n d = s)

/-! ### Checks, queries, alarms -/

/-- Judging: the lowest-numbered enabled class entry that matches governs an item, and with none CHECK, NO_QUERY, ALARM, not
protected (R101, R102); an item of an OUT or UNKNOWN passage is decided by the first of the seven steps whose condition holds
(R113 to R115), an item of an IN or NONE passage is NOT_JUDGED (R112). -/
def Obligations.ItemsAreJudgedInSteps : Prop :=
  ∀ (s : State) (it : Item),
    (∀ i : Fin 8, s.classes[i].covers it = true ↔
      s.classes[i].enabled = true ∧
      it.owner &&& s.classes[i].ownerMask = s.classes[i].ownerValue &&& s.classes[i].ownerMask ∧
      BitVec.ofNat 32 (it.item.toNat / 2 ^ 32) &&& s.classes[i].prefixMask =
        s.classes[i].prefixValue &&& s.classes[i].prefixMask ∧
      s.classes[i].classSet.getLsbD it.cls.toNat = true) ∧
    (∀ i : Fin 8, s.classes[i].covers it = true → (∀ j : Fin 8, j < i → s.classes[j].covers it = false) →
      s.classOf it = s.classes[i].fields) ∧
    ((∀ i : Fin 8, s.classes[i].covers it = false) → s.classOf it = ⟨.check, true, false, false⟩) ∧
    (∀ c : ItemClass,
      (c.action = .exempt → s.judgeOutward it c = some ⟨.pass, .exemptClass⟩) ∧
      (c.action = .alwaysAlarm → s.judgeOutward it c = some ⟨.alarm, .alwaysClass⟩) ∧
      (c.action = .check → it.issued = true → s.judgeOutward it c = some ⟨.pass, .issuedTag⟩) ∧
      (c.action = .check → it.issued = false →
        ((∃ l ∈ s.loans, l.item = it.item) ∧ c.guarded = false → s.judgeOutward it c = some ⟨.pass, .onLoanList⟩) ∧
        (¬((∃ l ∈ s.loans, l.item = it.item) ∧ c.guarded = false) →
          (c.noQuery = true → s.judgeOutward it c = some ⟨.alarm, .notIssued⟩) ∧
          (c.noQuery = false → s.linked = false →
            s.judgeOutward it c = some ⟨if c.fallbackPass then .pass else .alarm, .standalone⟩) ∧
          (c.noQuery = false → s.linked = true → s.judgeOutward it c = none)))) ∧
    ∀ (ref : ItemRef) (d : Direction), s.item? ref = some it →
      (d = .in_ ∨ d = .none_ → s.judgeItem d ref = s.giveVerdict ref .notJudged .direction) ∧
      ∀ c, it.classFields = some c → d = .out ∨ d = .unknown →
        (∀ v reason, s.judgeOutward it c = some ⟨v, reason⟩ → s.judgeItem d ref = s.giveVerdict ref v reason) ∧
        (s.judgeOutward it c = none → s.judgeItem d ref = s.askAbout ref)

/-- An alarm of a passage: the first sets the mark, raises the count and, unless the passage is COUNT_ONLY, queues its notice;
each, unless COUNT_ONLY, makes the lane SOUNDING for ALARM_TIME (R118, R119, R138, R139). The timer's expiry makes the lane
LATCHED or QUIET by ALARM_LATCH, and each line stays active or not by its sources (R140, R147); with ALARM_LATCH at 0 a PULSED line
that becomes inactive keeps note of its phase (R138; the note is the model's own, log entry 11). -/
def Obligations.AlarmsSoundAndEnd : Prop :=
  (∀ (s : State) (p : Passage) (j : Judging) (reason : Reason) (item : Option ItemNo),
    s.passage? p.number = some p → p.judging = some j →
    let time := (if s.params.alarmTime = 0 then 256 else s.params.alarmTime) * 100
    let alarm : LaneAlarm := ⟨.sounding, some (s.gateTime + BitVec.ofNat 32 time)⟩
    let sound := fun (t : State) => { t with alarms := t.alarms.set p.lane alarm }
    let first : State := { s with
      passages := s.passages.map (fun (q : Passage) => if q.number = p.number then
        { q with judging := q.judging.map fun x => { x with mark := true } } else q),
      counts := modAt s.counts p.lane (fun c => { c with withAlarm := min (c.withAlarm + 1) 4294967295 }) }
    (j.mark = true → s.passageAlarm p.number reason item = if p.flags.countOnly then s else sound s) ∧
    (j.mark = false → s.passageAlarm p.number reason item =
      if p.flags.countOnly then first
      else sound (first.queueNotice (alarmNoticeBody p.lane p.number reason item)))) ∧
  ∀ (s : State) (k : Lane), fires s.alarms[k].timer s.gateTime = true →
    ∃ t, exec (.alarmTimerExpiry k) s = .next t ∧ t = { s with
        alarms := s.alarms.set k ⟨if s.params.alarmLatch then .latched else .quiet, none⟩, lines := t.lines } ∧
      ∀ l : OutLine, t.lines[l].active = t.lineDriven l ∧
        (s.lines[l].active = true → t.lines[l].active = true → t.lines[l] = s.lines[l]) ∧
        (t.lines[l].active = false → s.lines[l].active = true → t.lines[l] = { s.lines[l] with
          active := false, level := false, pulse := none,
          resume := if s.params.alarmLatch = false ∧ s.lines[l].pulsed = true then
            some ⟨k, s.lines[l].level, s.lines[l].pulse⟩ else none })

/-- The loan list: LOAN_ADD takes its numbers one by one, renewing, appending, or evicting the oldest of a full list; LOAN_DROP and
LOAN_CLEAR remove; each reply carries the number of entries afterwards; a life end removes its entry uncounted (R106 to R108,
R110). -/
def Obligations.LoanListChanges : Prop :=
  (∀ (s : State) (i : ItemNo),
    let entry : Loan := ⟨i, s.gateTime, s.gateTime + BitVec.ofNat 32 (s.params.loanLife * 60000)⟩
    ((∃ l ∈ s.loans, l.item = i) → s.addLoan i = { s with loans := (s.loans.filter fun l => l.item != i) ++ [entry] }) ∧
    (¬(∃ l ∈ s.loans, l.item = i) →
      (s.loans.length < 512 → s.addLoan i = { s with loans := s.loans ++ [entry] }) ∧
      (512 ≤ s.loans.length → s.addLoan i = { s with
        loans := s.loans.drop 1 ++ [entry],
        device := { s.device with loanEvictions := min (s.device.loanEvictions + 1) 65535 } }))) ∧
  (∀ (s : State) (items : List ItemNo), s.ready → 1 ≤ items.length → items.length ≤ 16 →
    (let t := items.foldl State.addLoan s.heard
     exec (.loanAdd (items.flatMap fun i => toBytes 8 i.toNat)) s =
       .next (t.answered 0x28 .ok (toBytes 2 t.loans.length))) ∧
    (let t : State := { s.heard with loans := s.loans.filter fun l => !items.contains l.item }
     exec (.loanDrop (items.flatMap fun i => toBytes 8 i.toNat)) s =
       .next (t.answered 0x29 .ok (toBytes 2 t.loans.length)))) ∧
  (∀ s : State, s.ready → exec (.loanClear []) s = .next ({ s.heard with loans := [] }.answered 0x2A .ok [0, 0])) ∧
  ∀ (s : State) (l : Loan), l ∈ s.loans → (s.loans.map Loan.item).Nodup → due s.gateTime l.lifeEnd = true →
    exec (.loanLifeEnd l.item) s = .next { s with loans := s.loans.filter fun x => x.item != l.item }

/-- Query slots. Taking: an item takes the lowest FREE slot with the next taking order, QUERY_TIMEOUT and its QUERY, which is sent at
once when the transmitter is FREE, or joins the tail of the waiting list when all four are in flight (R124, R126, R127, R164, R176).
Ending: a matched ANSWER gives PASS, ALARM or the copied fallback, and ISSUED is learned; a slot timer's expiry gives the fallback
and is counted; the slot is FREE, an ALARM has the effects of R118, the passage is reported and freed when that was its last item
without verdict (R109, R117, R121, R128, R131), and the slot is handed on to the head of the waiting list while LINKED (R132). An
ANSWER that matches nothing is counted as late and dropped (R129). -/
def Obligations.QuestionsEnd : Prop :=
  (∀ (s : State) (ref : ItemRef) (p : Passage) (it : Item),
    s.passage? ref.passage = some p → p.items[ref.position]? = some it →
    (s.sending = none → s.reply = none ∧ s.pendingSlots = []) →
    (∀ j : SlotNo, s.slots[j] = none → (∀ i : SlotNo, i < j → s.slots[i] ≠ none) →
      let query := [0x81, BitVec.ofNat 8 j.val] ++ toBytes 8 it.item.toNat ++ toBytes 2 it.owner.toNat ++
        [BitVec.ofNat 8 it.cls.toNat, BitVec.ofNat 8 p.lane.val] ++ toBytes 2 p.number
      s.askAbout ref = { s.modItem ref fun x => { x with slot := some j } with
        slots := s.slots.set j (some
          { asked := s.sending.isNone, ref := ref, item := it.item, order := s.nextOrder,
            timer := s.gateTime + BitVec.ofNat 32 s.params.queryTimeout, query := query }),
        nextOrder := s.nextOrder + 1,
        sending := if s.sending = none then some ⟨frameOf query, false⟩ else s.sending }) ∧
    ((∀ j : SlotNo, s.slots[j] ≠ none) → s.askAbout ref = { s with waiting := s.waiting ++ [ref] })) ∧
  (∀ s : State, (∀ r ∈ s.waiting, (s.item? r).isSome = true) →
    (s.waiting = [] ∨ s.linked = false ∨ (∀ j : SlotNo, s.slots[j] ≠ none) → s.handSlotsOn = s) ∧
    ∀ ref rest, s.waiting = ref :: rest → s.linked = true → (∃ j : SlotNo, s.slots[j] = none) →
      s.handSlotsOn = ({ s with waiting := rest }.askAbout ref).handSlotsOn) ∧
  (∀ (s : State) (j : SlotNo) (q : Question) (p : Passage) (g : Judging) (it : Item) (c : ItemClass),
    s.linkLaw → (s.passages.map Passage.number).Nodup → s.slots[j] = some q →
    s.passage? q.ref.passage = some p → p.phase = .judging → p.judging = some g →
    p.items[q.ref.position]? = some it → it.ruling = none → it.classFields = some c →
    let fallback : Verdict := if c.fallbackPass then .pass else .alarm
    let ended := fun (b : State) (v : Verdict) (reason : Reason) =>
      let done : Passage := { p with
        items := p.items.set q.ref.position { it with slot := none, ruling := some ⟨v, reason⟩ },
        judging := some ⟨g.mark || v == .alarm, g.undecided - 1⟩ }
      let noted := if v = .alarm ∧ g.mark = false ∧ p.flags.countOnly = false then
        b.queueNotice (alarmNoticeBody p.lane p.number reason (some it.item)) else b
      let sent := if g.undecided ≤ 1 then noted.queueReport (reportBody done) else noted
      ({ sent with
        slots := s.slots.set j none,
        passages := if g.undecided ≤ 1 then s.passages.filter (fun x => x.number != p.number)
          else s.passages.map (fun x => if x.number = p.number then done else x),
        counts := if v = .alarm ∧ g.mark = false then
            modAt s.counts p.lane (fun x => { x with withAlarm := min (x.withAlarm + 1) 4294967295 })
          else s.counts,
        alarms := if v = .alarm ∧ p.flags.countOnly = false then
            s.alarms.set p.lane ⟨.sounding, some (s.gateTime + BitVec.ofNat 32
              ((if s.params.alarmTime = 0 then 256 else s.params.alarmTime) * 100))⟩
          else s.alarms } : State).handSlotsOn.recomputeLines
    (due s.gateTime q.timer = true → exec (.slotTimerExpiry j) s = .next (ended
      { s with device := { s.device with queryTimeouts := min (s.device.queryTimeouts + 1) 65535 } }
      fallback .queryTimeout)) ∧
    (s.ready →
      let answer := fun (result : Byte) => Instr.answer (BitVec.ofNat 8 j.val :: toBytes 8 q.item.toNat ++ [result])
      exec (answer 1) s = .next (ended (s.heard.addLoan q.item) .pass .hostIssued) ∧
      exec (answer 2) s = .next (ended s.heard .alarm .hostNotIssued) ∧
      exec (answer 3) s = .next (ended s.heard fallback .hostUnknown))) ∧
  ∀ (s : State) (slot result : Byte) (i : ItemNo), s.ready →
    (4 ≤ slot.toNat ∨ result = 0 ∨ 4 ≤ result.toNat ∨
      ∀ (j : SlotNo) (q : Question), j.val = slot.toNat → s.slots[j] = some q → q.item ≠ i) →
    exec (.answer (slot :: toBytes 8 i.toNat ++ [result])) s = .next
      { s.heard with device := { s.device with lateAnswers := min (s.device.lateAnswers + 1) 65535 } }.recomputeLines

/-- The silence timer's expiry: the link is STANDALONE with its timer stopped, every slot is FREE, the waiting list is empty; every
passage in JUDGING leaves the table with each item that was pending given its fallback with reason STANDALONE, and its report waits,
is being sent, or was dropped and counted because the queue was full. A lane sounds when a fallback of one of its passages that is
not COUNT_ONLY is ALARM, and each passage's first alarm is counted. The query timeouts counter does not rise (R117, R118, R121,
R133, R159, R166). -/
def Obligations.SilenceResolvesQuestions : Prop :=
  ∀ s : State, fires s.silence s.gateTime = true → s.passageLaw → s.queryLaw → s.linkLaw → s.counterLaw →
    let fallback := fun (it : Item) =>
      (if it.classFields.map ItemClass.fallbackPass = some true then .pass else .alarm : Verdict)
    let alarms := fun (p : Passage) =>
      p.phase == .judging && p.items.any fun it => it.ruling == none && fallback it == .alarm
    let body := fun (p : Passage) => reportBody { p with
      items := p.items.map fun it =>
        if it.ruling = none then { it with slot := none, ruling := some ⟨fallback it, .standalone⟩ } else it }
    let ended := (s.passages.filter fun p => p.phase == .judging).length
    ∃ t, exec .silenceTimerExpiry s = .next t ∧
      (t.linked = false ∧ t.silence = none ∧ t.slots = Vector.replicate 4 none ∧ t.waiting = [] ∧
        t.device.queryTimeouts = s.device.queryTimeouts ∧ t.loans = s.loans ∧ t.params = s.params ∧
        ∀ l : OutLine, t.lines[l].active = t.lineDriven l) ∧
      (t.passages = s.passages.filter (fun p => p.phase != .judging) ∧
        (∀ p ∈ s.passages, p.phase = .judging →
          body p ∈ t.reports ∨ t.sending = some ⟨frameOf (body p), false⟩ ∨
            t.reports.length = 16 ∧ min (s.device.reportsLost + 1) 65535 ≤ t.device.reportsLost) ∧
        (s.sending ≠ none → t.sending = s.sending ∧ s.reports <+: t.reports ∧
          t.reports.length = min (s.reports.length + ended) 16 ∧
          t.device.reportsLost = min (s.device.reportsLost + (s.reports.length + ended - 16)) 65535)) ∧
      ∀ k : Lane,
        t.alarms[k] = (if s.passages.any (fun p => alarms p && p.lane == k && !p.flags.countOnly) then
            ⟨.sounding, some (s.gateTime + BitVec.ofNat 32
              ((if s.params.alarmTime = 0 then 256 else s.params.alarmTime) * 100))⟩
          else s.alarms[k]) ∧
        t.counts[k] = { s.counts[k] with
          withAlarm := min (s.counts[k].withAlarm + (s.passages.filter fun p =>
            alarms p && p.lane == k && p.judging.map Judging.mark == some false).length) 4294967295 }

/-! ### Output lines -/

/-- Lines computed afresh: a line is active exactly while a source routed to it is active or its test runs; one that becomes active
starts ON, with a pulse timer of 500 ms when PULSED; one that stays active keeps level and phase; one that becomes inactive is OFF
(R147). A pulse timer's expiry turns the level over (R148), a test timer's expiry ends the test (R149). A PULSED line whose alarm
expired and was triggered again at one moment, with ALARM_LATCH at 0, keeps its phase (R138; log entry 11). -/
def Obligations.LinesFollowSources : Prop :=
  ∀ (s : State) (l : OutLine),
    (s.recomputeLines = { s with lines := s.recomputeLines.lines } ∧
      (s.lineDriven l = true ↔
        s.lines[l].test ≠ none ∨ ∃ n : Source, s.routes[n].getLsbD l.val = true ∧ s.sourceActive n = true) ∧
      (s.lines[l].active = s.lineDriven l → s.recomputeLines.lines[l] = s.lines[l]) ∧
      (s.lines[l].active = true → s.lineDriven l = false → s.recomputeLines.lines[l] =
        { s.lines[l] with active := false, level := false, pulse := none, resume := none }) ∧
      (s.lines[l].active = false → s.lineDriven l = true →
        (s.lines[l].resume = none → s.recomputeLines.lines[l] =
          { s.lines[l] with active := true, level := true,
                            pulse := if s.lines[l].pulsed then some (s.gateTime + 500) else none }) ∧
        ∀ r, s.lines[l].resume = some r →
          let driving := s.alarms[r.lane].state = .sounding ∧ s.routes[3 * r.lane.val].getLsbD l.val = true
          (s.lines[l].pulsed = true ∧ driving → s.recomputeLines.lines[l] =
            { s.lines[l] with active := true, level := r.level, pulse := r.pulse, resume := none }) ∧
          (¬(s.lines[l].pulsed = true ∧ driving) → s.recomputeLines.lines[l] =
            { s.lines[l] with active := true, level := true, resume := none,
                              pulse := if s.lines[l].pulsed then some (s.gateTime + 500) else none }))) ∧
    (fires s.lines[l].pulse s.gateTime = true → exec (.pulseTimerExpiry l) s = .next (s.modLine l fun x =>
      { x with level := !x.level, pulse := some (s.gateTime + 500) })) ∧
    (fires s.lines[l].test s.gateTime = true → exec (.testTimerExpiry l) s = .next
      (s.modLine l fun x => { x with test := none }).recomputeLines)

/-- The messages of the alarm unit: ACKNOWLEDGE makes the named lanes QUIET (R141), ROUTE_SET replaces a source's line set (R146),
PATTERN_SET stores a pattern and restarts the phase of an active line whose pattern changes (R148), LINE_TEST runs a test for 1 to
60 s (R149). -/
def Obligations.AlarmUnitMessages : Prop :=
  ∀ s : State, s.ready →
    (∀ set : Byte, set.toNat < 16 → exec (.acknowledge [set]) s = .next
      ({ s.heard with alarms := perLane fun k => if set.toNat.testBit k.val then {} else s.alarms[k] }.recomputeLines.answered
        0x23 .ok [])) ∧
    (∀ (n : Source) (set : Byte), set.toNat < 64 → exec (.routeSet [BitVec.ofNat 8 n.val, set]) s = .next
      ({ s.heard with routes := s.routes.set n (BitVec.ofNat 6 set.toNat) }.recomputeLines.answered
        0x20 .ok [BitVec.ofNat 8 n.val, set])) ∧
    (∀ (l : OutLine) (pattern : Byte), exec (.patternSet [BitVec.ofNat 8 l.val, pattern]) s = .next
      ((s.heard.modLine l fun x =>
          if x.active = true ∧ x.pulsed ≠ (pattern != 0) then
            { x with pulsed := pattern != 0, level := true,
                     pulse := if pattern = 0 then none else some (s.gateTime + 500) }
          else { x with pulsed := pattern != 0 }).answered
        0x22 .ok [BitVec.ofNat 8 l.val, if pattern = 0 then 0 else 1])) ∧
    ∀ (l : OutLine) (asked : Byte),
      let used := max 1 (min asked.toNat 60)
      exec (.lineTest [BitVec.ofNat 8 l.val, asked]) s = .next
        ((s.heard.modLine l fun x =>
            { x with test := some (s.gateTime + BitVec.ofNat 32 (used * 1000)) }).recomputeLines.answered
          0x24 (if used = asked.toNat then .ok else .clamped) [BitVec.ofNat 8 l.val, BitVec.ofNat 8 used])

/-! ### Messages -/

/-- Tables written and counters cleared: CLASS_WRITE replaces an entry by the one it carries (R103), RATE_WRITE one with nominal and
tolerance clamped (R48), OWNER_SET the filter (R50); each reply carries what is stored. COUNTS_CLEAR clears every lane or the one
named (R26), STATS_CLEAR all but notices lost and reports lost (R187). -/
def Obligations.TablesWrittenAndCleared : Prop :=
  ∀ s : State, s.ready →
    (∀ (n : Fin 8) (e : ClassEntry), exec (.classWrite (e.bytes n)) s = .next
      ({ s.heard with classes := s.classes.set n e }.answered 0x18 .ok (e.bytes n))) ∧
    (∀ (n : Fin 4) (enabled tolerance : Byte) (nominal pattern : BitVec 16),
      let e : RateEntry := ⟨enabled != 0, min nominal.toNat 1023, min tolerance.toNat 63, pattern⟩
      exec (.rateWrite ([BitVec.ofNat 8 n.val, enabled] ++ toBytes 2 nominal.toNat ++ [tolerance] ++
          toBytes 2 pattern.toNat)) s = .next
        ({ s.heard with rates := s.rates.set n e }.answered 0x1A
          (if nominal.toNat ≤ 1023 ∧ tolerance.toNat ≤ 63 then .ok else .clamped) (e.bytes n))) ∧
    (∀ f : OwnerFilter, exec (.ownerSet f.bytes) s = .next ({ s.heard with owner := f }.answered 0x1C .ok f.bytes)) ∧
    (exec (.countsClear []) s = .next
      ({ s.heard with counts := Vector.replicate 4 {} }.answered 0x31 .ok [])) ∧
    (∀ k : Lane, exec (.countsClear [BitVec.ofNat 8 k.val]) s = .next
      ({ s.heard with counts := s.counts.set k {} }.answered 0x31 .ok [])) ∧
    (exec (.statsClear []) s = .next
      ({ s.heard with
         linkCounters := Vector.replicate 5 {},
         device := { noticesLost := s.device.noticesLost, reportsLost := s.device.reportsLost } }.answered 0x33 .ok []))

/-- The messages that read: each is answered OK with the data of R173 and R178 and changes nothing else (R26, R48, R50, R103, R146,
R183, R185 to R187); the status block is 46 bytes, the counts 112, the statistics 106. -/
def Obligations.ReadMessagesAnswer : Prop :=
  (∀ s : State, s.ready →
    (exec (.statusReq []) s = .next (s.heard.answered 0x10 .ok s.heard.statusBlock)) ∧
    (∀ ids : List Byte, 1 ≤ ids.length → ids.length ≤ 20 → (∀ i ∈ ids, 1 ≤ i.toNat ∧ i.toNat ≤ 27) →
      exec (.get ids) s = .next (s.heard.answered 0x12 .ok
        (ids.flatMap fun i => i :: toBytes 2 ((s.params.get i.toNat) % 65536).toNat))) ∧
    (∀ n : Fin 8, exec (.classRead [BitVec.ofNat 8 n.val]) s = .next
      (s.heard.answered 0x19 .ok (s.classes[n].bytes n))) ∧
    (∀ n : Fin 4, exec (.rateRead [BitVec.ofNat 8 n.val]) s = .next (s.heard.answered 0x1B .ok (s.rates[n].bytes n))) ∧
    (exec (.ownerRead []) s = .next (s.heard.answered 0x1D .ok s.owner.bytes)) ∧
    (∀ n : Source, exec (.routeRead [BitVec.ofNat 8 n.val]) s = .next
      (s.heard.answered 0x21 .ok [BitVec.ofNat 8 n.val, BitVec.ofNat 8 s.routes[n].toNat])) ∧
    (exec (.countsRead []) s = .next (s.heard.answered 0x30 .ok (s.counts.toList.flatMap LaneCounts.bytes))) ∧
    (exec (.statsRead []) s = .next
      (s.heard.answered 0x32 .ok (s.linkCounters.toList.flatMap LinkCounters.bytes ++ s.device.bytes)))) ∧
  ∀ s : State, s.statusBlock.length = 46 ∧ (s.counts.toList.flatMap LaneCounts.bytes).length = 112 ∧
    (s.linkCounters.toList.flatMap LinkCounters.bytes ++ s.device.bytes).length = 106

/-- SET: an id outside 1..27 refuses the whole message with BAD_INDEX, a change of LANES while the table holds a record with BUSY;
otherwise each pair's value is stored clamped, the last appearance of an id stands, and the reply carries each pair as stored
(R24, R182). START_EXP resets every stored frame exponent (R46), a pair of SILENCE_LIMIT restarts or stops the silence timer and no
other pair touches it (R160). A change of LANES gives each lane that enters service a fresh tracker and stuck timers, takes tracker,
stuck timers, faults and alarm from each that leaves, withdraws a round beyond LANES and is a choice point (R5, R24, R43, R57, R63,
R144); BG_INTERVAL restarts the background timer from last background start, and is a choice point (R57, R58). -/
def Obligations.SetStoresValues : Prop :=
  ∀ (s : State) (pairs : List (Nat × Int)),
    s.ready → 1 ≤ pairs.length → pairs.length ≤ 20 →
    (∀ p ∈ pairs, p.1 < 256 ∧ -32768 ≤ p.2 ∧ p.2 ≤ 32767) →
    let stored := fun (p : Nat × Int) =>
      if p.1 = 17 ∨ 24 ≤ p.1 then (if p.2 = 0 then 0 else 1) else max (paramRange p.1).1 (min p.2 (paramRange p.1).2)
    let data := fun (v : Nat × Int → Int) => pairs.flatMap fun p => BitVec.ofNat 8 p.1 :: toBytes 2 (v p % 65536).toNat
    let set := Instr.set (data Prod.snd)
    ((∃ p ∈ pairs, p.1 < 1 ∨ 27 < p.1) → exec set s = .next (s.heard.answered 0x11 .badIndex [])) ∧
    ((∀ p ∈ pairs, 1 ≤ p.1 ∧ p.1 ≤ 27) →
      (s.passages ≠ [] → (∃ p ∈ pairs, p.1 = 1 ∧ stored p ≠ s.params.lanes) →
        exec set s = .next (s.heard.answered 0x11 .busy [])) ∧
      (s.passages = [] ∨ (∀ p ∈ pairs, p.1 = 1 → stored p = s.params.lanes) →
        ∃ t : State, exec set s = .next (t.answered 0x11 (if ∀ p ∈ pairs, stored p = p.2 then .ok else .clamped) (data stored)) ∧
          (∀ id, 1 ≤ id → id ≤ 27 → t.params.get id =
            match (pairs.filter fun p => p.1 = id).getLast? with
            | some p => stored p
            | none => s.params.get id) ∧
          ((∃ p ∈ pairs, p.1 = 13) → t.storedExp = Vector.replicate 5 t.params.startExp) ∧
          ((∃ p ∈ pairs, p.1 = 18) → t.silence =
            if t.params.silenceLimit = 0 then none
            else some (s.gateTime + BitVec.ofNat 32 (t.params.silenceLimit * 1000))) ∧
          ((∀ p ∈ pairs, p.1 ≠ 18) → t.silence = s.heard.silence) ∧
          t.passages = s.passages ∧ t.counts = s.counts ∧ t.sightings = s.sightings ∧ t.loans = s.loans ∧
          t.classes = s.classes ∧ t.rates = s.rates ∧ t.owner = s.owner ∧ t.routes = s.routes ∧ t.slots = s.slots ∧
          t.waiting = s.waiting ∧ t.notices = s.notices ∧ t.reports = s.reports ∧ t.sending = s.sending ∧
          t.device = s.device)) ∧
    (∀ v, pairs = [(1, v)] → s.passages = [] → stored (1, v) ≠ s.params.lanes →
      let lanes := (stored (1, v)).toNat
      let enters := fun (k : Lane) => s.params.lanes ≤ k.val ∧ k.val < lanes
      let leaves := fun (k : Lane) => lanes ≤ k.val ∧ k.val < s.params.lanes
      let beam := fun (k : Lane) (b : BeamState) =>
        if enters k then
          { b with stuck := (if b.filtered = .blocked then
              some (s.gateTime + BitVec.ofNat 32 (s.params.beamStuck * 1000))
            else none) }
        else if leaves k then { b with stuck := none, fault := false } else b
      let changed : State := { s.heard with
        params := { s.params with lanes := lanes },
        beams := perLane fun k => ⟨beam k s.beams[k].inner, beam k s.beams[k].outer⟩,
        trackers := perLane fun k =>
          if enters k then
            some (if (s.beam k .inner).filtered = .clear ∧ (s.beam k .outer).filtered = .clear then .clear else .waitClear)
          else if leaves k then none else s.trackers[k],
        alarms := perLane fun k => if leaves k then {} else s.alarms[k] }
      let withdrawn : State := match s.round with
        | none => changed
        | some r =>
          if (s.engine = .fieldSettle ∨ s.engine = .frame ∨ s.engine = .held) ∧ lanes < r.antenna.val then
            { changed with
              engine := .closing, field := none, air := s.air ++ [.fieldOff],
              round := some { r with roundTimer := none, settleTimer := none, holdTimer := none, cause := some .withdrawn },
              storedExp := if r.expSet then s.storedExp else s.storedExp.set r.antenna r.exp }
          else changed
      exec set s = .next ((withdrawn.choose.endEvent s.heard).answered 0x11
        (if stored (1, v) = v then .ok else .clamped) (data stored))) ∧
    ∀ v, pairs = [(12, v)] →
      let interval := (stored (12, v)).toNat
      let expiry := s.lastBackground + BitVec.ofNat 32 interval
      exec set s = .next (({ s.heard with
        params := { s.params with bgInterval := interval },
        bgTimer := if due s.gateTime expiry then none else some expiry }.choose.endEvent s.heard).answered 0x11
        (if stored (12, v) = v then .ok else .clamped) (data stored))

/-! ### Refusals, receiver, transmitter -/

/-- Frames refused: a kind that is not accepted draws BAD_KIND with its code echoed, a body length outside the kind's lengths
BAD_LENGTH, an index out of range BAD_INDEX; each changes nothing but what the arrival of a good frame does (R162, R170, R172, and
the index rules R26, R48, R103, R141, R146, R148, R149, R183). -/
def Obligations.RefusedFrames : Prop :=
  let allowed := fun (k : Kind) =>
    match k with
    | .set => (List.range 20).map fun i => 4 + 3 * i
    | .get => (List.range 20).map fun i => 2 + i
    | .loanAdd | .loanDrop => (List.range 16).map fun i => 9 + 8 * i
    | .classWrite => [21]
    | .rateWrite => [8]
    | .ownerSet | .answer => [11]
    | .routeSet | .patternSet | .lineTest => [3]
    | .classRead | .rateRead | .routeRead | .acknowledge => [2]
    | .countsClear => [1, 2]
    | .statusReq | .ownerRead | .loanClear | .countsRead | .statsRead | .statsClear | .restart => [1]
  ∀ s : State, s.ready →
    (∀ (code : Byte) (f : List Byte), code ∉ acceptedCodes →
      exec (.unknownKind code f) s = .next (s.heard.answered code .badKind [])) ∧
    (∀ (k : Kind) (f : List Byte), f.length + 1 ∉ allowed k →
      exec (k.command f) s = .next (s.heard.answered k.code .badLength [])) ∧
    (∀ f : List Byte, f.length = 20 → 8 ≤ (f.getD 0 0).toNat ∨ 3 ≤ (f.getD 16 0).toNat →
      exec (.classWrite f) s = .next (s.heard.answered 0x18 .badIndex [])) ∧
    (∀ f : List Byte, f.length = 7 → 4 ≤ (f.getD 0 0).toNat →
      exec (.rateWrite f) s = .next (s.heard.answered 0x1A .badIndex [])) ∧
    (∀ f : List Byte, 1 ≤ f.length → f.length ≤ 20 → (∃ b ∈ f, b = 0 ∨ 28 ≤ b.toNat) →
      exec (.get f) s = .next (s.heard.answered 0x12 .badIndex [])) ∧
    ∀ n b : Byte,
      (8 ≤ n.toNat → exec (.classRead [n]) s = .next (s.heard.answered 0x19 .badIndex [])) ∧
      (4 ≤ n.toNat → exec (.rateRead [n]) s = .next (s.heard.answered 0x1B .badIndex [])) ∧
      (13 ≤ n.toNat ∨ 64 ≤ b.toNat → exec (.routeSet [n, b]) s = .next (s.heard.answered 0x20 .badIndex [])) ∧
      (13 ≤ n.toNat → exec (.routeRead [n]) s = .next (s.heard.answered 0x21 .badIndex [])) ∧
      (6 ≤ n.toNat → exec (.patternSet [n, b]) s = .next (s.heard.answered 0x22 .badIndex []) ∧
        exec (.lineTest [n, b]) s = .next (s.heard.answered 0x24 .badIndex [])) ∧
      (16 ≤ n.toNat → exec (.acknowledge [n]) s = .next (s.heard.answered 0x23 .badIndex [])) ∧
      (4 ≤ n.toNat → exec (.countsClear [n]) s = .next (s.heard.answered 0x31 .badIndex []))

/-- Frames that wait or are lost: while the reply slot is full or a restart is pending a good frame waits in one of two buffers,
and a third is dropped and counted as an overrun (R158, R161, R168). The receiver discards, and counts, a frame with a byte error, a
gap, a length outside 1..400 or a wrong check, and in HUNT passes over all but the mark, uncounted (R156, R157). -/
def Obligations.FramesWaitOrAreLost : Prop :=
  (∀ (s : State) (k : Kind) (f : List Byte), s.reply ≠ none ∨ s.restartPending = true →
    (s.buffers.length < 2 →
      exec (k.command f) s = .next { s.heard with buffers := s.buffers ++ [k.code :: f] }) ∧
    (2 ≤ s.buffers.length → exec (k.command f) s = .next
      { s.heard with device := { s.device with overruns := min (s.device.overruns + 1) 65535 } })) ∧
  ∀ (s : State) (b : Byte),
    let discarded : State := { s with
      rx := .hunt, gap := none, device := { s.device with framesRejected := min (s.device.framesRejected + 1) 65535 } }
    let holding := fun (r : Receiver) => { s with rx := r, gap := some (s.gateTime + 20) }
    (fires s.gap s.gateTime = true → exec .gapTimerExpiry s = .next discarded) ∧
    (s.rx ≠ .hunt → exec (.byteReceived b false) s = .next discarded) ∧
    (s.rx = .hunt → ∀ stop, ¬(b = 0xC3 ∧ stop = true) → exec (.byteReceived b stop) s = .next s) ∧
    (s.rx = .hunt → exec (.byteReceived 0xC3 true) s = .next (holding (.length none))) ∧
    (s.rx = .length none → exec (.byteReceived b true) s = .next (holding (.length (some b)))) ∧
    (∀ hi : Byte, s.rx = .length (some hi) →
      let len := hi.toNat * 256 + b.toNat
      exec (.byteReceived b true) s = .next (if len = 0 ∨ 400 < len then discarded else holding (.body len []))) ∧
    ∀ len got hi, s.rx = .check len got (some hi) →
      ([hi, b] ≠ toBytes 2 (crc (toBytes 2 got.length ++ got)).toNat →
        exec (.byteReceived b true) s = .next discarded)

/-- The transmitter: when a frame has left the line it sends the waiting reply, else the PENDING question of the earliest order,
else the oldest notice, else the oldest report, else it is FREE; a frame that waits in the buffers is taken once the reply slot is
empty (R127, R161, R164). A notice or report waits in its queue, begins at once when nothing else is sent or waits, and is dropped
and counted when the queue is full (R165, R166). -/
def Obligations.TransmitterPrecedence : Prop :=
  (∀ (s : State) (f : Sending), s.sending = some f → f.restartReply = false → s.restartPending = false →
    (∀ b, s.reply = some b →
      let t : State := { s with reply := none, sending := some ⟨frameOf b, false⟩ }
      (s.buffers = [] → exec .frameLeftLine s = .next t) ∧
      ∀ body, s.buffers = [body] → exec .frameLeftLine s = .next ({ t with buffers := [] }.takeFrame body)) ∧
    (s.reply = none → s.buffers = [] →
      (∀ (j : SlotNo) (q : Question), s.slots[j] = some q → q.asked = false →
        (∀ (i : SlotNo) (q' : Question), s.slots[i] = some q' → q'.asked = false →
          i = j ∨ before q.order q'.order = true) →
        exec .frameLeftLine s = .next { s with
          slots := s.slots.set j (some { q with asked := true }), sending := some ⟨frameOf q.query, false⟩ }) ∧
      ((∀ (j : SlotNo) (q : Question), s.slots[j] = some q → q.asked = true) →
        (∀ b rest, s.notices = b :: rest → exec .frameLeftLine s = .next { s with
          notices := rest, sending := some ⟨frameOf b, false⟩ }) ∧
        (s.notices = [] → ∀ b rest, s.reports = b :: rest → exec .frameLeftLine s = .next { s with
          reports := rest, sending := some ⟨frameOf b, false⟩ }) ∧
        (s.notices = [] → s.reports = [] → exec .frameLeftLine s = .next { s with sending := none })))) ∧
  ∀ (s : State) (b : Body), s.linkLaw →
    (s.notices.length < 8 → s.queueNotice b = if s.sending = none then { s with sending := some ⟨frameOf b, false⟩ }
      else { s with notices := s.notices ++ [b] }) ∧
    (8 ≤ s.notices.length → s.queueNotice b =
      { s with device := { s.device with noticesLost := min (s.device.noticesLost + 1) 65535 } }) ∧
    (s.reports.length < 16 → s.queueReport b = if s.sending = none then { s with sending := some ⟨frameOf b, false⟩ }
      else { s with reports := s.reports ++ [b] }) ∧
    (16 ≤ s.reports.length → s.queueReport b =
      { s with device := { s.device with reportsLost := min (s.device.reportsLost + 1) 65535 } })

/-- The bytes of a frame, received one after another from HUNT, are the command that the frame carries, whatever its kind and
fields: mark, length, body and check are read as the part itself writes them (R155, R156). That a message command stands for the
completed frame is log entry 3, and that UNKNOWN_KIND with an accepted code is taken as that kind is log entry 22. -/
def Obligations.BytesMakeTheCommand : Prop :=
  ∀ (s : State) (f : List Byte), s.rx = .hunt → s.gap = none → f.length ≤ 399 →
    (∀ k : Kind, execAll ((frameOf (k.code :: f)).map fun b => .byteReceived b true) s = exec (k.command f) s) ∧
    ∀ code : Byte, execAll ((frameOf (code :: f)).map fun b => .byteReceived b true) s = exec (.unknownKind code f) s

/-! ### Frames -/

/-- What the events of the gate and of time leave unchanged (every command but the resets, the messages, BYTE_RECEIVED and
FRAME_LEFT_LINE): configuration, gate time and the frames that wait, always; beams, key, trackers, counts, sightings, intake, loans,
receiver and link, but by the events of their own blocks (00 section on blocks, R26, R48, R50, R103, R146, R181). -/
def Obligations.EventsKeepOtherBlocks : Prop :=
  ∀ (c : Instr) (s t : State),
    c ∈ ([.keyFilterExpiry, .fieldSettleExpiry, .holdTimerExpiry, .roundTimerExpiry, .fieldFault, .fieldOffAck,
          .backgroundTimerExpiry, .readMerge, .gapTimerExpiry, .silenceTimerExpiry] : List Instr) ∨
      (∃ k x, c = .beamFilterExpiry k x ∨ c = .stuckTimerExpiry k x ∨ ∃ level, c = .beamRawChange k x level) ∨
      (∃ pressed, c = .keyRawChange pressed) ∨ (∃ n, c = .presenceTimerExpiry n ∨ c = .settleTimerExpiry n) ∨
      (∃ rep, c = .slotReport rep) ∨ (∃ a, c = .retryTimerExpiry a) ∨ (∃ i, c = .ageExpiry i ∨ c = .loanLifeEnd i) ∨
      (∃ j, c = .slotTimerExpiry j) ∨ (∃ k, c = .alarmTimerExpiry k) ∨ (∃ l, c = .pulseTimerExpiry l ∨ c = .testTimerExpiry l) →
    exec c s = .next t →
    (t.params = s.params ∧ t.classes = s.classes ∧ t.rates = s.rates ∧ t.owner = s.owner ∧ t.routes = s.routes ∧
      t.speed = s.speed ∧ t.restartCause = s.restartCause ∧ t.gateTime = s.gateTime ∧ t.buffers = s.buffers ∧
      t.restartPending = s.restartPending ∧ ∀ l : OutLine, t.lines[l].pulsed = s.lines[l].pulsed) ∧
    ((∀ k x, c ≠ .beamFilterExpiry k x ∧ c ≠ .stuckTimerExpiry k x) → t.trackers = s.trackers) ∧
    ((∀ k x, c ≠ .beamFilterExpiry k x ∧ c ≠ .stuckTimerExpiry k x ∧ ∀ level, c ≠ .beamRawChange k x level) →
      t.beams = s.beams) ∧
    (c ≠ .keyFilterExpiry → (∀ pressed, c ≠ .keyRawChange pressed) → t.key = s.key) ∧
    (c ≠ .readMerge → (∀ rep, c ≠ .slotReport rep) → t.intake = s.intake) ∧
    ((∀ i, c ≠ .loanLifeEnd i) → t.loans = s.loans) ∧
    (c ≠ .gapTimerExpiry → t.rx = s.rx ∧ t.gap = s.gap) ∧
    (c ≠ .silenceTimerExpiry → t.linked = s.linked ∧ t.silence = s.silence) ∧
    (c ≠ .readMerge → (∀ i, c ≠ .ageExpiry i) → (∀ k x, c ≠ .beamFilterExpiry k x ∧ c ≠ .stuckTimerExpiry k x) →
      (∀ n, c ≠ .presenceTimerExpiry n ∧ c ≠ .settleTimerExpiry n) →
      t.sightings = s.sightings ∧ t.device.unattributed = s.device.unattributed ∧
        (c ≠ .silenceTimerExpiry → (∀ j, c ≠ .slotTimerExpiry j) →
          t.counts = s.counts ∧ t.reports.length ≤ s.reports.length ∧ t.passages.length = s.passages.length))

/-- No counter falls but by its clear message, a reset, or a message taken as bytes or out of the buffers: every other well-formed
command leaves each retained count, link counter and device counter where it was or higher (R25, R51, R167, R187). -/
def Obligations.CountersOnlyRise : Prop :=
  ∀ (c : Instr) (s t : State), c.wellFormed = true → s.linkLaw → s.counterLaw → exec c s = .next t →
    (∀ a b, c ≠ .powerOn a b ∧ c ≠ .resetPin a b) → c ≠ .frameLeftLine → (∀ b stop, c ≠ .byteReceived b stop) →
    ((∀ f, c ≠ .countsClear f) → ∀ k : Lane, s.counts[k].atMost t.counts[k]) ∧
    ((∀ f, c ≠ .statsClear f) →
      (∀ a : Antenna, s.linkCounters[a].atMost t.linkCounters[a]) ∧ s.device.atMost t.device)

/-! ### Invariants -/

/-- Every step keeps the radio's law: parameters within their ranges (R181), each antenna's service (R59 to R61), field and grant
exactly while a round is under way (R45, R53), exponents, slots and intake within their bounds (R31, R39, R40, R46, R47). -/
def Obligations.EveryStepKeepsRadioLaw : Prop :=
  ∀ s t : State, s.paramLaw → s.antennaLaw → s.fieldLaw → s.frameLaw → step s = .next t →
    t.paramLaw ∧ t.antennaLaw ∧ t.fieldLaw ∧ t.frameLaw

/-- Every step keeps the lines in agreement with their sources, level and phase with activity (R147, R148, R150). -/
def Obligations.EveryStepKeepsLinesWithSources : Prop :=
  ∀ s t : State, s.antennaLaw → s.lineLaw → step s = .next t → t.lineLaw

/-- Every step keeps the passage table's law: at most 16 records, numbers that differ, at most one OPEN passage in a lane, each
record's fields as its state has them, each lane's tracker in agreement with its passage (R12, R18, R19, R24, R96, R121). -/
def Obligations.EveryStepKeepsPassageTable : Prop :=
  ∀ s t : State, s.passageLaw → step s = .next t → t.passageLaw

/-- Every step keeps the sighting table, the loan list and the counters within their bounds, with no item twice (R25, R51, R66 to
R68, R105, R167, R187). -/
def Obligations.EveryStepKeepsTables : Prop :=
  ∀ s t : State, s.sightingLaw → s.loanLaw → s.counterLaw → step s = .next t →
    t.sightingLaw ∧ t.loanLaw ∧ t.counterLaw

/-- Every step keeps questions and items in agreement: each slot in flight and each waiting reference belongs to one item without
verdict, and each item without verdict of a passage in JUDGING to its slot or to the waiting list; items wait only while LINKED with
all slots in flight, nothing is in flight while STANDALONE (R115, R124, R125, R132, R133). -/
def Obligations.EveryStepKeepsQuestions : Prop :=
  ∀ s t : State, s.passageLaw → s.queryLaw → step s = .next t → t.queryLaw

/-- Every step keeps the link unit's law: queues within their capacities, nothing waiting while the transmitter is FREE, no frame
left in the buffers that could be taken, the gap timer running exactly inside a frame (R156, R158, R159, R161, R164 to R166,
R168). -/
def Obligations.EveryStepKeepsLink : Prop :=
  ∀ s t : State, s.linkLaw → step s = .next t → t.linkLaw

/-- The state after power-on meets every law that the steps keep. -/
def Obligations.ResetMeetsLaws : Prop :=
  State.reset.paramLaw ∧ State.reset.antennaLaw ∧ State.reset.fieldLaw ∧ State.reset.frameLaw ∧ State.reset.lineLaw ∧
  State.reset.passageLaw ∧ State.reset.sightingLaw ∧ State.reset.loanLaw ∧ State.reset.counterLaw ∧
  State.reset.queryLaw ∧ State.reset.linkLaw
end

