-- ==== Sys2Proof/Laws/State.lean ====
section
/-! SUPPORT. What each named update of the state leaves in each field: one lemma per field per update, all by `rfl`. -/

namespace Sys2Proof.Machine

/-! ### setTracker -/

@[simp] theorem State.setTracker_pending (s : State) (k : Lane) (x : Option Tracker) : (s.setTracker k x).pending = s.pending := rfl
@[simp] theorem State.setTracker_gateTime (s : State) (k : Lane) (x : Option Tracker) : (s.setTracker k x).gateTime = s.gateTime := rfl
@[simp] theorem State.setTracker_restartCause (s : State) (k : Lane) (x : Option Tracker) : (s.setTracker k x).restartCause = s.restartCause := rfl
@[simp] theorem State.setTracker_params (s : State) (k : Lane) (x : Option Tracker) : (s.setTracker k x).params = s.params := rfl
@[simp] theorem State.setTracker_beams (s : State) (k : Lane) (x : Option Tracker) : (s.setTracker k x).beams = s.beams := rfl
@[simp] theorem State.setTracker_key (s : State) (k : Lane) (x : Option Tracker) : (s.setTracker k x).key = s.key := rfl
@[simp] theorem State.setTracker_trackers (s : State) (k : Lane) (x : Option Tracker) : (s.setTracker k x).trackers = s.trackers.set k x := rfl
@[simp] theorem State.setTracker_passages (s : State) (k : Lane) (x : Option Tracker) : (s.setTracker k x).passages = s.passages := rfl
@[simp] theorem State.setTracker_nextPassage (s : State) (k : Lane) (x : Option Tracker) : (s.setTracker k x).nextPassage = s.nextPassage := rfl
@[simp] theorem State.setTracker_counts (s : State) (k : Lane) (x : Option Tracker) : (s.setTracker k x).counts = s.counts := rfl
@[simp] theorem State.setTracker_grant (s : State) (k : Lane) (x : Option Tracker) : (s.setTracker k x).grant = s.grant := rfl
@[simp] theorem State.setTracker_lastGranted (s : State) (k : Lane) (x : Option Tracker) : (s.setTracker k x).lastGranted = s.lastGranted := rfl
@[simp] theorem State.setTracker_lastBackground (s : State) (k : Lane) (x : Option Tracker) : (s.setTracker k x).lastBackground = s.lastBackground := rfl
@[simp] theorem State.setTracker_bgTimer (s : State) (k : Lane) (x : Option Tracker) : (s.setTracker k x).bgTimer = s.bgTimer := rfl
@[simp] theorem State.setTracker_antennas (s : State) (k : Lane) (x : Option Tracker) : (s.setTracker k x).antennas = s.antennas := rfl
@[simp] theorem State.setTracker_engine (s : State) (k : Lane) (x : Option Tracker) : (s.setTracker k x).engine = s.engine := rfl
@[simp] theorem State.setTracker_round (s : State) (k : Lane) (x : Option Tracker) : (s.setTracker k x).round = s.round := rfl
@[simp] theorem State.setTracker_field (s : State) (k : Lane) (x : Option Tracker) : (s.setTracker k x).field = s.field := rfl
@[simp] theorem State.setTracker_air (s : State) (k : Lane) (x : Option Tracker) : (s.setTracker k x).air = s.air := rfl
@[simp] theorem State.setTracker_storedExp (s : State) (k : Lane) (x : Option Tracker) : (s.setTracker k x).storedExp = s.storedExp := rfl
@[simp] theorem State.setTracker_rates (s : State) (k : Lane) (x : Option Tracker) : (s.setTracker k x).rates = s.rates := rfl
@[simp] theorem State.setTracker_owner (s : State) (k : Lane) (x : Option Tracker) : (s.setTracker k x).owner = s.owner := rfl
@[simp] theorem State.setTracker_linkCounters (s : State) (k : Lane) (x : Option Tracker) : (s.setTracker k x).linkCounters = s.linkCounters := rfl
@[simp] theorem State.setTracker_intake (s : State) (k : Lane) (x : Option Tracker) : (s.setTracker k x).intake = s.intake := rfl
@[simp] theorem State.setTracker_sightings (s : State) (k : Lane) (x : Option Tracker) : (s.setTracker k x).sightings = s.sightings := rfl
@[simp] theorem State.setTracker_classes (s : State) (k : Lane) (x : Option Tracker) : (s.setTracker k x).classes = s.classes := rfl
@[simp] theorem State.setTracker_loans (s : State) (k : Lane) (x : Option Tracker) : (s.setTracker k x).loans = s.loans := rfl
@[simp] theorem State.setTracker_slots (s : State) (k : Lane) (x : Option Tracker) : (s.setTracker k x).slots = s.slots := rfl
@[simp] theorem State.setTracker_waiting (s : State) (k : Lane) (x : Option Tracker) : (s.setTracker k x).waiting = s.waiting := rfl
@[simp] theorem State.setTracker_nextOrder (s : State) (k : Lane) (x : Option Tracker) : (s.setTracker k x).nextOrder = s.nextOrder := rfl
@[simp] theorem State.setTracker_alarms (s : State) (k : Lane) (x : Option Tracker) : (s.setTracker k x).alarms = s.alarms := rfl
@[simp] theorem State.setTracker_lines (s : State) (k : Lane) (x : Option Tracker) : (s.setTracker k x).lines = s.lines := rfl
@[simp] theorem State.setTracker_routes (s : State) (k : Lane) (x : Option Tracker) : (s.setTracker k x).routes = s.routes := rfl
@[simp] theorem State.setTracker_speed (s : State) (k : Lane) (x : Option Tracker) : (s.setTracker k x).speed = s.speed := rfl
@[simp] theorem State.setTracker_rx (s : State) (k : Lane) (x : Option Tracker) : (s.setTracker k x).rx = s.rx := rfl
@[simp] theorem State.setTracker_gap (s : State) (k : Lane) (x : Option Tracker) : (s.setTracker k x).gap = s.gap := rfl
@[simp] theorem State.setTracker_buffers (s : State) (k : Lane) (x : Option Tracker) : (s.setTracker k x).buffers = s.buffers := rfl
@[simp] theorem State.setTracker_reply (s : State) (k : Lane) (x : Option Tracker) : (s.setTracker k x).reply = s.reply := rfl
@[simp] theorem State.setTracker_sending (s : State) (k : Lane) (x : Option Tracker) : (s.setTracker k x).sending = s.sending := rfl
@[simp] theorem State.setTracker_notices (s : State) (k : Lane) (x : Option Tracker) : (s.setTracker k x).notices = s.notices := rfl
@[simp] theorem State.setTracker_reports (s : State) (k : Lane) (x : Option Tracker) : (s.setTracker k x).reports = s.reports := rfl
@[simp] theorem State.setTracker_linked (s : State) (k : Lane) (x : Option Tracker) : (s.setTracker k x).linked = s.linked := rfl
@[simp] theorem State.setTracker_silence (s : State) (k : Lane) (x : Option Tracker) : (s.setTracker k x).silence = s.silence := rfl
@[simp] theorem State.setTracker_restartPending (s : State) (k : Lane) (x : Option Tracker) : (s.setTracker k x).restartPending = s.restartPending := rfl
@[simp] theorem State.setTracker_device (s : State) (k : Lane) (x : Option Tracker) : (s.setTracker k x).device = s.device := rfl

/-! ### modPassage -/

@[simp] theorem State.modPassage_pending (s : State) (n : Nat) (f : Passage → Passage) : (s.modPassage n f).pending = s.pending := rfl
@[simp] theorem State.modPassage_gateTime (s : State) (n : Nat) (f : Passage → Passage) : (s.modPassage n f).gateTime = s.gateTime := rfl
@[simp] theorem State.modPassage_restartCause (s : State) (n : Nat) (f : Passage → Passage) : (s.modPassage n f).restartCause = s.restartCause := rfl
@[simp] theorem State.modPassage_params (s : State) (n : Nat) (f : Passage → Passage) : (s.modPassage n f).params = s.params := rfl
@[simp] theorem State.modPassage_beams (s : State) (n : Nat) (f : Passage → Passage) : (s.modPassage n f).beams = s.beams := rfl
@[simp] theorem State.modPassage_key (s : State) (n : Nat) (f : Passage → Passage) : (s.modPassage n f).key = s.key := rfl
@[simp] theorem State.modPassage_trackers (s : State) (n : Nat) (f : Passage → Passage) : (s.modPassage n f).trackers = s.trackers := rfl
@[simp] theorem State.modPassage_passages (s : State) (n : Nat) (f : Passage → Passage) : (s.modPassage n f).passages = s.passages.map fun p => if p.number == n then f p else p := rfl
@[simp] theorem State.modPassage_nextPassage (s : State) (n : Nat) (f : Passage → Passage) : (s.modPassage n f).nextPassage = s.nextPassage := rfl
@[simp] theorem State.modPassage_counts (s : State) (n : Nat) (f : Passage → Passage) : (s.modPassage n f).counts = s.counts := rfl
@[simp] theorem State.modPassage_grant (s : State) (n : Nat) (f : Passage → Passage) : (s.modPassage n f).grant = s.grant := rfl
@[simp] theorem State.modPassage_lastGranted (s : State) (n : Nat) (f : Passage → Passage) : (s.modPassage n f).lastGranted = s.lastGranted := rfl
@[simp] theorem State.modPassage_lastBackground (s : State) (n : Nat) (f : Passage → Passage) : (s.modPassage n f).lastBackground = s.lastBackground := rfl
@[simp] theorem State.modPassage_bgTimer (s : State) (n : Nat) (f : Passage → Passage) : (s.modPassage n f).bgTimer = s.bgTimer := rfl
@[simp] theorem State.modPassage_antennas (s : State) (n : Nat) (f : Passage → Passage) : (s.modPassage n f).antennas = s.antennas := rfl
@[simp] theorem State.modPassage_engine (s : State) (n : Nat) (f : Passage → Passage) : (s.modPassage n f).engine = s.engine := rfl
@[simp] theorem State.modPassage_round (s : State) (n : Nat) (f : Passage → Passage) : (s.modPassage n f).round = s.round := rfl
@[simp] theorem State.modPassage_field (s : State) (n : Nat) (f : Passage → Passage) : (s.modPassage n f).field = s.field := rfl
@[simp] theorem State.modPassage_air (s : State) (n : Nat) (f : Passage → Passage) : (s.modPassage n f).air = s.air := rfl
@[simp] theorem State.modPassage_storedExp (s : State) (n : Nat) (f : Passage → Passage) : (s.modPassage n f).storedExp = s.storedExp := rfl
@[simp] theorem State.modPassage_rates (s : State) (n : Nat) (f : Passage → Passage) : (s.modPassage n f).rates = s.rates := rfl
@[simp] theorem State.modPassage_owner (s : State) (n : Nat) (f : Passage → Passage) : (s.modPassage n f).owner = s.owner := rfl
@[simp] theorem State.modPassage_linkCounters (s : State) (n : Nat) (f : Passage → Passage) : (s.modPassage n f).linkCounters = s.linkCounters := rfl
@[simp] theorem State.modPassage_intake (s : State) (n : Nat) (f : Passage → Passage) : (s.modPassage n f).intake = s.intake := rfl
@[simp] theorem State.modPassage_sightings (s : State) (n : Nat) (f : Passage → Passage) : (s.modPassage n f).sightings = s.sightings := rfl
@[simp] theorem State.modPassage_classes (s : State) (n : Nat) (f : Passage → Passage) : (s.modPassage n f).classes = s.classes := rfl
@[simp] theorem State.modPassage_loans (s : State) (n : Nat) (f : Passage → Passage) : (s.modPassage n f).loans = s.loans := rfl
@[simp] theorem State.modPassage_slots (s : State) (n : Nat) (f : Passage → Passage) : (s.modPassage n f).slots = s.slots := rfl
@[simp] theorem State.modPassage_waiting (s : State) (n : Nat) (f : Passage → Passage) : (s.modPassage n f).waiting = s.waiting := rfl
@[simp] theorem State.modPassage_nextOrder (s : State) (n : Nat) (f : Passage → Passage) : (s.modPassage n f).nextOrder = s.nextOrder := rfl
@[simp] theorem State.modPassage_alarms (s : State) (n : Nat) (f : Passage → Passage) : (s.modPassage n f).alarms = s.alarms := rfl
@[simp] theorem State.modPassage_lines (s : State) (n : Nat) (f : Passage → Passage) : (s.modPassage n f).lines = s.lines := rfl
@[simp] theorem State.modPassage_routes (s : State) (n : Nat) (f : Passage → Passage) : (s.modPassage n f).routes = s.routes := rfl
@[simp] theorem State.modPassage_speed (s : State) (n : Nat) (f : Passage → Passage) : (s.modPassage n f).speed = s.speed := rfl
@[simp] theorem State.modPassage_rx (s : State) (n : Nat) (f : Passage → Passage) : (s.modPassage n f).rx = s.rx := rfl
@[simp] theorem State.modPassage_gap (s : State) (n : Nat) (f : Passage → Passage) : (s.modPassage n f).gap = s.gap := rfl
@[simp] theorem State.modPassage_buffers (s : State) (n : Nat) (f : Passage → Passage) : (s.modPassage n f).buffers = s.buffers := rfl
@[simp] theorem State.modPassage_reply (s : State) (n : Nat) (f : Passage → Passage) : (s.modPassage n f).reply = s.reply := rfl
@[simp] theorem State.modPassage_sending (s : State) (n : Nat) (f : Passage → Passage) : (s.modPassage n f).sending = s.sending := rfl
@[simp] theorem State.modPassage_notices (s : State) (n : Nat) (f : Passage → Passage) : (s.modPassage n f).notices = s.notices := rfl
@[simp] theorem State.modPassage_reports (s : State) (n : Nat) (f : Passage → Passage) : (s.modPassage n f).reports = s.reports := rfl
@[simp] theorem State.modPassage_linked (s : State) (n : Nat) (f : Passage → Passage) : (s.modPassage n f).linked = s.linked := rfl
@[simp] theorem State.modPassage_silence (s : State) (n : Nat) (f : Passage → Passage) : (s.modPassage n f).silence = s.silence := rfl
@[simp] theorem State.modPassage_restartPending (s : State) (n : Nat) (f : Passage → Passage) : (s.modPassage n f).restartPending = s.restartPending := rfl
@[simp] theorem State.modPassage_device (s : State) (n : Nat) (f : Passage → Passage) : (s.modPassage n f).device = s.device := rfl

/-! ### freePassage -/

@[simp] theorem State.freePassage_pending (s : State) (n : Nat) : (s.freePassage n).pending = s.pending := rfl
@[simp] theorem State.freePassage_gateTime (s : State) (n : Nat) : (s.freePassage n).gateTime = s.gateTime := rfl
@[simp] theorem State.freePassage_restartCause (s : State) (n : Nat) : (s.freePassage n).restartCause = s.restartCause := rfl
@[simp] theorem State.freePassage_params (s : State) (n : Nat) : (s.freePassage n).params = s.params := rfl
@[simp] theorem State.freePassage_beams (s : State) (n : Nat) : (s.freePassage n).beams = s.beams := rfl
@[simp] theorem State.freePassage_key (s : State) (n : Nat) : (s.freePassage n).key = s.key := rfl
@[simp] theorem State.freePassage_trackers (s : State) (n : Nat) : (s.freePassage n).trackers = s.trackers := rfl
@[simp] theorem State.freePassage_passages (s : State) (n : Nat) : (s.freePassage n).passages = s.passages.filter fun p => p.number != n := rfl
@[simp] theorem State.freePassage_nextPassage (s : State) (n : Nat) : (s.freePassage n).nextPassage = s.nextPassage := rfl
@[simp] theorem State.freePassage_counts (s : State) (n : Nat) : (s.freePassage n).counts = s.counts := rfl
@[simp] theorem State.freePassage_grant (s : State) (n : Nat) : (s.freePassage n).grant = s.grant := rfl
@[simp] theorem State.freePassage_lastGranted (s : State) (n : Nat) : (s.freePassage n).lastGranted = s.lastGranted := rfl
@[simp] theorem State.freePassage_lastBackground (s : State) (n : Nat) : (s.freePassage n).lastBackground = s.lastBackground := rfl
@[simp] theorem State.freePassage_bgTimer (s : State) (n : Nat) : (s.freePassage n).bgTimer = s.bgTimer := rfl
@[simp] theorem State.freePassage_antennas (s : State) (n : Nat) : (s.freePassage n).antennas = s.antennas := rfl
@[simp] theorem State.freePassage_engine (s : State) (n : Nat) : (s.freePassage n).engine = s.engine := rfl
@[simp] theorem State.freePassage_round (s : State) (n : Nat) : (s.freePassage n).round = s.round := rfl
@[simp] theorem State.freePassage_field (s : State) (n : Nat) : (s.freePassage n).field = s.field := rfl
@[simp] theorem State.freePassage_air (s : State) (n : Nat) : (s.freePassage n).air = s.air := rfl
@[simp] theorem State.freePassage_storedExp (s : State) (n : Nat) : (s.freePassage n).storedExp = s.storedExp := rfl
@[simp] theorem State.freePassage_rates (s : State) (n : Nat) : (s.freePassage n).rates = s.rates := rfl
@[simp] theorem State.freePassage_owner (s : State) (n : Nat) : (s.freePassage n).owner = s.owner := rfl
@[simp] theorem State.freePassage_linkCounters (s : State) (n : Nat) : (s.freePassage n).linkCounters = s.linkCounters := rfl
@[simp] theorem State.freePassage_intake (s : State) (n : Nat) : (s.freePassage n).intake = s.intake := rfl
@[simp] theorem State.freePassage_sightings (s : State) (n : Nat) : (s.freePassage n).sightings = s.sightings := rfl
@[simp] theorem State.freePassage_classes (s : State) (n : Nat) : (s.freePassage n).classes = s.classes := rfl
@[simp] theorem State.freePassage_loans (s : State) (n : Nat) : (s.freePassage n).loans = s.loans := rfl
@[simp] theorem State.freePassage_slots (s : State) (n : Nat) : (s.freePassage n).slots = s.slots := rfl
@[simp] theorem State.freePassage_waiting (s : State) (n : Nat) : (s.freePassage n).waiting = s.waiting := rfl
@[simp] theorem State.freePassage_nextOrder (s : State) (n : Nat) : (s.freePassage n).nextOrder = s.nextOrder := rfl
@[simp] theorem State.freePassage_alarms (s : State) (n : Nat) : (s.freePassage n).alarms = s.alarms := rfl
@[simp] theorem State.freePassage_lines (s : State) (n : Nat) : (s.freePassage n).lines = s.lines := rfl
@[simp] theorem State.freePassage_routes (s : State) (n : Nat) : (s.freePassage n).routes = s.routes := rfl
@[simp] theorem State.freePassage_speed (s : State) (n : Nat) : (s.freePassage n).speed = s.speed := rfl
@[simp] theorem State.freePassage_rx (s : State) (n : Nat) : (s.freePassage n).rx = s.rx := rfl
@[simp] theorem State.freePassage_gap (s : State) (n : Nat) : (s.freePassage n).gap = s.gap := rfl
@[simp] theorem State.freePassage_buffers (s : State) (n : Nat) : (s.freePassage n).buffers = s.buffers := rfl
@[simp] theorem State.freePassage_reply (s : State) (n : Nat) : (s.freePassage n).reply = s.reply := rfl
@[simp] theorem State.freePassage_sending (s : State) (n : Nat) : (s.freePassage n).sending = s.sending := rfl
@[simp] theorem State.freePassage_notices (s : State) (n : Nat) : (s.freePassage n).notices = s.notices := rfl
@[simp] theorem State.freePassage_reports (s : State) (n : Nat) : (s.freePassage n).reports = s.reports := rfl
@[simp] theorem State.freePassage_linked (s : State) (n : Nat) : (s.freePassage n).linked = s.linked := rfl
@[simp] theorem State.freePassage_silence (s : State) (n : Nat) : (s.freePassage n).silence = s.silence := rfl
@[simp] theorem State.freePassage_restartPending (s : State) (n : Nat) : (s.freePassage n).restartPending = s.restartPending := rfl
@[simp] theorem State.freePassage_device (s : State) (n : Nat) : (s.freePassage n).device = s.device := rfl

/-! ### modItem -/

@[simp] theorem State.modItem_pending (s : State) (r : ItemRef) (f : Item → Item) : (s.modItem r f).pending = s.pending := rfl
@[simp] theorem State.modItem_gateTime (s : State) (r : ItemRef) (f : Item → Item) : (s.modItem r f).gateTime = s.gateTime := rfl
@[simp] theorem State.modItem_restartCause (s : State) (r : ItemRef) (f : Item → Item) : (s.modItem r f).restartCause = s.restartCause := rfl
@[simp] theorem State.modItem_params (s : State) (r : ItemRef) (f : Item → Item) : (s.modItem r f).params = s.params := rfl
@[simp] theorem State.modItem_beams (s : State) (r : ItemRef) (f : Item → Item) : (s.modItem r f).beams = s.beams := rfl
@[simp] theorem State.modItem_key (s : State) (r : ItemRef) (f : Item → Item) : (s.modItem r f).key = s.key := rfl
@[simp] theorem State.modItem_trackers (s : State) (r : ItemRef) (f : Item → Item) : (s.modItem r f).trackers = s.trackers := rfl
@[simp] theorem State.modItem_passages (s : State) (r : ItemRef) (f : Item → Item) : (s.modItem r f).passages = (s.modPassage r.passage fun p => { p with items := p.items.modify r.position f }).passages := rfl
@[simp] theorem State.modItem_nextPassage (s : State) (r : ItemRef) (f : Item → Item) : (s.modItem r f).nextPassage = s.nextPassage := rfl
@[simp] theorem State.modItem_counts (s : State) (r : ItemRef) (f : Item → Item) : (s.modItem r f).counts = s.counts := rfl
@[simp] theorem State.modItem_grant (s : State) (r : ItemRef) (f : Item → Item) : (s.modItem r f).grant = s.grant := rfl
@[simp] theorem State.modItem_lastGranted (s : State) (r : ItemRef) (f : Item → Item) : (s.modItem r f).lastGranted = s.lastGranted := rfl
@[simp] theorem State.modItem_lastBackground (s : State) (r : ItemRef) (f : Item → Item) : (s.modItem r f).lastBackground = s.lastBackground := rfl
@[simp] theorem State.modItem_bgTimer (s : State) (r : ItemRef) (f : Item → Item) : (s.modItem r f).bgTimer = s.bgTimer := rfl
@[simp] theorem State.modItem_antennas (s : State) (r : ItemRef) (f : Item → Item) : (s.modItem r f).antennas = s.antennas := rfl
@[simp] theorem State.modItem_engine (s : State) (r : ItemRef) (f : Item → Item) : (s.modItem r f).engine = s.engine := rfl
@[simp] theorem State.modItem_round (s : State) (r : ItemRef) (f : Item → Item) : (s.modItem r f).round = s.round := rfl
@[simp] theorem State.modItem_field (s : State) (r : ItemRef) (f : Item → Item) : (s.modItem r f).field = s.field := rfl
@[simp] theorem State.modItem_air (s : State) (r : ItemRef) (f : Item → Item) : (s.modItem r f).air = s.air := rfl
@[simp] theorem State.modItem_storedExp (s : State) (r : ItemRef) (f : Item → Item) : (s.modItem r f).storedExp = s.storedExp := rfl
@[simp] theorem State.modItem_rates (s : State) (r : ItemRef) (f : Item → Item) : (s.modItem r f).rates = s.rates := rfl
@[simp] theorem State.modItem_owner (s : State) (r : ItemRef) (f : Item → Item) : (s.modItem r f).owner = s.owner := rfl
@[simp] theorem State.modItem_linkCounters (s : State) (r : ItemRef) (f : Item → Item) : (s.modItem r f).linkCounters = s.linkCounters := rfl
@[simp] theorem State.modItem_intake (s : State) (r : ItemRef) (f : Item → Item) : (s.modItem r f).intake = s.intake := rfl
@[simp] theorem State.modItem_sightings (s : State) (r : ItemRef) (f : Item → Item) : (s.modItem r f).sightings = s.sightings := rfl
@[simp] theorem State.modItem_classes (s : State) (r : ItemRef) (f : Item → Item) : (s.modItem r f).classes = s.classes := rfl
@[simp] theorem State.modItem_loans (s : State) (r : ItemRef) (f : Item → Item) : (s.modItem r f).loans = s.loans := rfl
@[simp] theorem State.modItem_slots (s : State) (r : ItemRef) (f : Item → Item) : (s.modItem r f).slots = s.slots := rfl
@[simp] theorem State.modItem_waiting (s : State) (r : ItemRef) (f : Item → Item) : (s.modItem r f).waiting = s.waiting := rfl
@[simp] theorem State.modItem_nextOrder (s : State) (r : ItemRef) (f : Item → Item) : (s.modItem r f).nextOrder = s.nextOrder := rfl
@[simp] theorem State.modItem_alarms (s : State) (r : ItemRef) (f : Item → Item) : (s.modItem r f).alarms = s.alarms := rfl
@[simp] theorem State.modItem_lines (s : State) (r : ItemRef) (f : Item → Item) : (s.modItem r f).lines = s.lines := rfl
@[simp] theorem State.modItem_routes (s : State) (r : ItemRef) (f : Item → Item) : (s.modItem r f).routes = s.routes := rfl
@[simp] theorem State.modItem_speed (s : State) (r : ItemRef) (f : Item → Item) : (s.modItem r f).speed = s.speed := rfl
@[simp] theorem State.modItem_rx (s : State) (r : ItemRef) (f : Item → Item) : (s.modItem r f).rx = s.rx := rfl
@[simp] theorem State.modItem_gap (s : State) (r : ItemRef) (f : Item → Item) : (s.modItem r f).gap = s.gap := rfl
@[simp] theorem State.modItem_buffers (s : State) (r : ItemRef) (f : Item → Item) : (s.modItem r f).buffers = s.buffers := rfl
@[simp] theorem State.modItem_reply (s : State) (r : ItemRef) (f : Item → Item) : (s.modItem r f).reply = s.reply := rfl
@[simp] theorem State.modItem_sending (s : State) (r : ItemRef) (f : Item → Item) : (s.modItem r f).sending = s.sending := rfl
@[simp] theorem State.modItem_notices (s : State) (r : ItemRef) (f : Item → Item) : (s.modItem r f).notices = s.notices := rfl
@[simp] theorem State.modItem_reports (s : State) (r : ItemRef) (f : Item → Item) : (s.modItem r f).reports = s.reports := rfl
@[simp] theorem State.modItem_linked (s : State) (r : ItemRef) (f : Item → Item) : (s.modItem r f).linked = s.linked := rfl
@[simp] theorem State.modItem_silence (s : State) (r : ItemRef) (f : Item → Item) : (s.modItem r f).silence = s.silence := rfl
@[simp] theorem State.modItem_restartPending (s : State) (r : ItemRef) (f : Item → Item) : (s.modItem r f).restartPending = s.restartPending := rfl
@[simp] theorem State.modItem_device (s : State) (r : ItemRef) (f : Item → Item) : (s.modItem r f).device = s.device := rfl

/-! ### modCounts -/

@[simp] theorem State.modCounts_pending (s : State) (k : Lane) (f : LaneCounts → LaneCounts) : (s.modCounts k f).pending = s.pending := rfl
@[simp] theorem State.modCounts_gateTime (s : State) (k : Lane) (f : LaneCounts → LaneCounts) : (s.modCounts k f).gateTime = s.gateTime := rfl
@[simp] theorem State.modCounts_restartCause (s : State) (k : Lane) (f : LaneCounts → LaneCounts) : (s.modCounts k f).restartCause = s.restartCause := rfl
@[simp] theorem State.modCounts_params (s : State) (k : Lane) (f : LaneCounts → LaneCounts) : (s.modCounts k f).params = s.params := rfl
@[simp] theorem State.modCounts_beams (s : State) (k : Lane) (f : LaneCounts → LaneCounts) : (s.modCounts k f).beams = s.beams := rfl
@[simp] theorem State.modCounts_key (s : State) (k : Lane) (f : LaneCounts → LaneCounts) : (s.modCounts k f).key = s.key := rfl
@[simp] theorem State.modCounts_trackers (s : State) (k : Lane) (f : LaneCounts → LaneCounts) : (s.modCounts k f).trackers = s.trackers := rfl
@[simp] theorem State.modCounts_passages (s : State) (k : Lane) (f : LaneCounts → LaneCounts) : (s.modCounts k f).passages = s.passages := rfl
@[simp] theorem State.modCounts_nextPassage (s : State) (k : Lane) (f : LaneCounts → LaneCounts) : (s.modCounts k f).nextPassage = s.nextPassage := rfl
@[simp] theorem State.modCounts_counts (s : State) (k : Lane) (f : LaneCounts → LaneCounts) : (s.modCounts k f).counts = modAt s.counts k f := rfl
@[simp] theorem State.modCounts_grant (s : State) (k : Lane) (f : LaneCounts → LaneCounts) : (s.modCounts k f).grant = s.grant := rfl
@[simp] theorem State.modCounts_lastGranted (s : State) (k : Lane) (f : LaneCounts → LaneCounts) : (s.modCounts k f).lastGranted = s.lastGranted := rfl
@[simp] theorem State.modCounts_lastBackground (s : State) (k : Lane) (f : LaneCounts → LaneCounts) : (s.modCounts k f).lastBackground = s.lastBackground := rfl
@[simp] theorem State.modCounts_bgTimer (s : State) (k : Lane) (f : LaneCounts → LaneCounts) : (s.modCounts k f).bgTimer = s.bgTimer := rfl
@[simp] theorem State.modCounts_antennas (s : State) (k : Lane) (f : LaneCounts → LaneCounts) : (s.modCounts k f).antennas = s.antennas := rfl
@[simp] theorem State.modCounts_engine (s : State) (k : Lane) (f : LaneCounts → LaneCounts) : (s.modCounts k f).engine = s.engine := rfl
@[simp] theorem State.modCounts_round (s : State) (k : Lane) (f : LaneCounts → LaneCounts) : (s.modCounts k f).round = s.round := rfl
@[simp] theorem State.modCounts_field (s : State) (k : Lane) (f : LaneCounts → LaneCounts) : (s.modCounts k f).field = s.field := rfl
@[simp] theorem State.modCounts_air (s : State) (k : Lane) (f : LaneCounts → LaneCounts) : (s.modCounts k f).air = s.air := rfl
@[simp] theorem State.modCounts_storedExp (s : State) (k : Lane) (f : LaneCounts → LaneCounts) : (s.modCounts k f).storedExp = s.storedExp := rfl
@[simp] theorem State.modCounts_rates (s : State) (k : Lane) (f : LaneCounts → LaneCounts) : (s.modCounts k f).rates = s.rates := rfl
@[simp] theorem State.modCounts_owner (s : State) (k : Lane) (f : LaneCounts → LaneCounts) : (s.modCounts k f).owner = s.owner := rfl
@[simp] theorem State.modCounts_linkCounters (s : State) (k : Lane) (f : LaneCounts → LaneCounts) : (s.modCounts k f).linkCounters = s.linkCounters := rfl
@[simp] theorem State.modCounts_intake (s : State) (k : Lane) (f : LaneCounts → LaneCounts) : (s.modCounts k f).intake = s.intake := rfl
@[simp] theorem State.modCounts_sightings (s : State) (k : Lane) (f : LaneCounts → LaneCounts) : (s.modCounts k f).sightings = s.sightings := rfl
@[simp] theorem State.modCounts_classes (s : State) (k : Lane) (f : LaneCounts → LaneCounts) : (s.modCounts k f).classes = s.classes := rfl
@[simp] theorem State.modCounts_loans (s : State) (k : Lane) (f : LaneCounts → LaneCounts) : (s.modCounts k f).loans = s.loans := rfl
@[simp] theorem State.modCounts_slots (s : State) (k : Lane) (f : LaneCounts → LaneCounts) : (s.modCounts k f).slots = s.slots := rfl
@[simp] theorem State.modCounts_waiting (s : State) (k : Lane) (f : LaneCounts → LaneCounts) : (s.modCounts k f).waiting = s.waiting := rfl
@[simp] theorem State.modCounts_nextOrder (s : State) (k : Lane) (f : LaneCounts → LaneCounts) : (s.modCounts k f).nextOrder = s.nextOrder := rfl
@[simp] theorem State.modCounts_alarms (s : State) (k : Lane) (f : LaneCounts → LaneCounts) : (s.modCounts k f).alarms = s.alarms := rfl
@[simp] theorem State.modCounts_lines (s : State) (k : Lane) (f : LaneCounts → LaneCounts) : (s.modCounts k f).lines = s.lines := rfl
@[simp] theorem State.modCounts_routes (s : State) (k : Lane) (f : LaneCounts → LaneCounts) : (s.modCounts k f).routes = s.routes := rfl
@[simp] theorem State.modCounts_speed (s : State) (k : Lane) (f : LaneCounts → LaneCounts) : (s.modCounts k f).speed = s.speed := rfl
@[simp] theorem State.modCounts_rx (s : State) (k : Lane) (f : LaneCounts → LaneCounts) : (s.modCounts k f).rx = s.rx := rfl
@[simp] theorem State.modCounts_gap (s : State) (k : Lane) (f : LaneCounts → LaneCounts) : (s.modCounts k f).gap = s.gap := rfl
@[simp] theorem State.modCounts_buffers (s : State) (k : Lane) (f : LaneCounts → LaneCounts) : (s.modCounts k f).buffers = s.buffers := rfl
@[simp] theorem State.modCounts_reply (s : State) (k : Lane) (f : LaneCounts → LaneCounts) : (s.modCounts k f).reply = s.reply := rfl
@[simp] theorem State.modCounts_sending (s : State) (k : Lane) (f : LaneCounts → LaneCounts) : (s.modCounts k f).sending = s.sending := rfl
@[simp] theorem State.modCounts_notices (s : State) (k : Lane) (f : LaneCounts → LaneCounts) : (s.modCounts k f).notices = s.notices := rfl
@[simp] theorem State.modCounts_reports (s : State) (k : Lane) (f : LaneCounts → LaneCounts) : (s.modCounts k f).reports = s.reports := rfl
@[simp] theorem State.modCounts_linked (s : State) (k : Lane) (f : LaneCounts → LaneCounts) : (s.modCounts k f).linked = s.linked := rfl
@[simp] theorem State.modCounts_silence (s : State) (k : Lane) (f : LaneCounts → LaneCounts) : (s.modCounts k f).silence = s.silence := rfl
@[simp] theorem State.modCounts_restartPending (s : State) (k : Lane) (f : LaneCounts → LaneCounts) : (s.modCounts k f).restartPending = s.restartPending := rfl
@[simp] theorem State.modCounts_device (s : State) (k : Lane) (f : LaneCounts → LaneCounts) : (s.modCounts k f).device = s.device := rfl

/-! ### modAntenna -/

@[simp] theorem State.modAntenna_pending (s : State) (a : Antenna) (f : AntennaState → AntennaState) : (s.modAntenna a f).pending = s.pending := rfl
@[simp] theorem State.modAntenna_gateTime (s : State) (a : Antenna) (f : AntennaState → AntennaState) : (s.modAntenna a f).gateTime = s.gateTime := rfl
@[simp] theorem State.modAntenna_restartCause (s : State) (a : Antenna) (f : AntennaState → AntennaState) : (s.modAntenna a f).restartCause = s.restartCause := rfl
@[simp] theorem State.modAntenna_params (s : State) (a : Antenna) (f : AntennaState → AntennaState) : (s.modAntenna a f).params = s.params := rfl
@[simp] theorem State.modAntenna_beams (s : State) (a : Antenna) (f : AntennaState → AntennaState) : (s.modAntenna a f).beams = s.beams := rfl
@[simp] theorem State.modAntenna_key (s : State) (a : Antenna) (f : AntennaState → AntennaState) : (s.modAntenna a f).key = s.key := rfl
@[simp] theorem State.modAntenna_trackers (s : State) (a : Antenna) (f : AntennaState → AntennaState) : (s.modAntenna a f).trackers = s.trackers := rfl
@[simp] theorem State.modAntenna_passages (s : State) (a : Antenna) (f : AntennaState → AntennaState) : (s.modAntenna a f).passages = s.passages := rfl
@[simp] theorem State.modAntenna_nextPassage (s : State) (a : Antenna) (f : AntennaState → AntennaState) : (s.modAntenna a f).nextPassage = s.nextPassage := rfl
@[simp] theorem State.modAntenna_counts (s : State) (a : Antenna) (f : AntennaState → AntennaState) : (s.modAntenna a f).counts = s.counts := rfl
@[simp] theorem State.modAntenna_grant (s : State) (a : Antenna) (f : AntennaState → AntennaState) : (s.modAntenna a f).grant = s.grant := rfl
@[simp] theorem State.modAntenna_lastGranted (s : State) (a : Antenna) (f : AntennaState → AntennaState) : (s.modAntenna a f).lastGranted = s.lastGranted := rfl
@[simp] theorem State.modAntenna_lastBackground (s : State) (a : Antenna) (f : AntennaState → AntennaState) : (s.modAntenna a f).lastBackground = s.lastBackground := rfl
@[simp] theorem State.modAntenna_bgTimer (s : State) (a : Antenna) (f : AntennaState → AntennaState) : (s.modAntenna a f).bgTimer = s.bgTimer := rfl
@[simp] theorem State.modAntenna_antennas (s : State) (a : Antenna) (f : AntennaState → AntennaState) : (s.modAntenna a f).antennas = modAt s.antennas a f := rfl
@[simp] theorem State.modAntenna_engine (s : State) (a : Antenna) (f : AntennaState → AntennaState) : (s.modAntenna a f).engine = s.engine := rfl
@[simp] theorem State.modAntenna_round (s : State) (a : Antenna) (f : AntennaState → AntennaState) : (s.modAntenna a f).round = s.round := rfl
@[simp] theorem State.modAntenna_field (s : State) (a : Antenna) (f : AntennaState → AntennaState) : (s.modAntenna a f).field = s.field := rfl
@[simp] theorem State.modAntenna_air (s : State) (a : Antenna) (f : AntennaState → AntennaState) : (s.modAntenna a f).air = s.air := rfl
@[simp] theorem State.modAntenna_storedExp (s : State) (a : Antenna) (f : AntennaState → AntennaState) : (s.modAntenna a f).storedExp = s.storedExp := rfl
@[simp] theorem State.modAntenna_rates (s : State) (a : Antenna) (f : AntennaState → AntennaState) : (s.modAntenna a f).rates = s.rates := rfl
@[simp] theorem State.modAntenna_owner (s : State) (a : Antenna) (f : AntennaState → AntennaState) : (s.modAntenna a f).owner = s.owner := rfl
@[simp] theorem State.modAntenna_linkCounters (s : State) (a : Antenna) (f : AntennaState → AntennaState) : (s.modAntenna a f).linkCounters = s.linkCounters := rfl
@[simp] theorem State.modAntenna_intake (s : State) (a : Antenna) (f : AntennaState → AntennaState) : (s.modAntenna a f).intake = s.intake := rfl
@[simp] theorem State.modAntenna_sightings (s : State) (a : Antenna) (f : AntennaState → AntennaState) : (s.modAntenna a f).sightings = s.sightings := rfl
@[simp] theorem State.modAntenna_classes (s : State) (a : Antenna) (f : AntennaState → AntennaState) : (s.modAntenna a f).classes = s.classes := rfl
@[simp] theorem State.modAntenna_loans (s : State) (a : Antenna) (f : AntennaState → AntennaState) : (s.modAntenna a f).loans = s.loans := rfl
@[simp] theorem State.modAntenna_slots (s : State) (a : Antenna) (f : AntennaState → AntennaState) : (s.modAntenna a f).slots = s.slots := rfl
@[simp] theorem State.modAntenna_waiting (s : State) (a : Antenna) (f : AntennaState → AntennaState) : (s.modAntenna a f).waiting = s.waiting := rfl
@[simp] theorem State.modAntenna_nextOrder (s : State) (a : Antenna) (f : AntennaState → AntennaState) : (s.modAntenna a f).nextOrder = s.nextOrder := rfl
@[simp] theorem State.modAntenna_alarms (s : State) (a : Antenna) (f : AntennaState → AntennaState) : (s.modAntenna a f).alarms = s.alarms := rfl
@[simp] theorem State.modAntenna_lines (s : State) (a : Antenna) (f : AntennaState → AntennaState) : (s.modAntenna a f).lines = s.lines := rfl
@[simp] theorem State.modAntenna_routes (s : State) (a : Antenna) (f : AntennaState → AntennaState) : (s.modAntenna a f).routes = s.routes := rfl
@[simp] theorem State.modAntenna_speed (s : State) (a : Antenna) (f : AntennaState → AntennaState) : (s.modAntenna a f).speed = s.speed := rfl
@[simp] theorem State.modAntenna_rx (s : State) (a : Antenna) (f : AntennaState → AntennaState) : (s.modAntenna a f).rx = s.rx := rfl
@[simp] theorem State.modAntenna_gap (s : State) (a : Antenna) (f : AntennaState → AntennaState) : (s.modAntenna a f).gap = s.gap := rfl
@[simp] theorem State.modAntenna_buffers (s : State) (a : Antenna) (f : AntennaState → AntennaState) : (s.modAntenna a f).buffers = s.buffers := rfl
@[simp] theorem State.modAntenna_reply (s : State) (a : Antenna) (f : AntennaState → AntennaState) : (s.modAntenna a f).reply = s.reply := rfl
@[simp] theorem State.modAntenna_sending (s : State) (a : Antenna) (f : AntennaState → AntennaState) : (s.modAntenna a f).sending = s.sending := rfl
@[simp] theorem State.modAntenna_notices (s : State) (a : Antenna) (f : AntennaState → AntennaState) : (s.modAntenna a f).notices = s.notices := rfl
@[simp] theorem State.modAntenna_reports (s : State) (a : Antenna) (f : AntennaState → AntennaState) : (s.modAntenna a f).reports = s.reports := rfl
@[simp] theorem State.modAntenna_linked (s : State) (a : Antenna) (f : AntennaState → AntennaState) : (s.modAntenna a f).linked = s.linked := rfl
@[simp] theorem State.modAntenna_silence (s : State) (a : Antenna) (f : AntennaState → AntennaState) : (s.modAntenna a f).silence = s.silence := rfl
@[simp] theorem State.modAntenna_restartPending (s : State) (a : Antenna) (f : AntennaState → AntennaState) : (s.modAntenna a f).restartPending = s.restartPending := rfl
@[simp] theorem State.modAntenna_device (s : State) (a : Antenna) (f : AntennaState → AntennaState) : (s.modAntenna a f).device = s.device := rfl

/-! ### modLink -/

@[simp] theorem State.modLink_pending (s : State) (a : Antenna) (f : LinkCounters → LinkCounters) : (s.modLink a f).pending = s.pending := rfl
@[simp] theorem State.modLink_gateTime (s : State) (a : Antenna) (f : LinkCounters → LinkCounters) : (s.modLink a f).gateTime = s.gateTime := rfl
@[simp] theorem State.modLink_restartCause (s : State) (a : Antenna) (f : LinkCounters → LinkCounters) : (s.modLink a f).restartCause = s.restartCause := rfl
@[simp] theorem State.modLink_params (s : State) (a : Antenna) (f : LinkCounters → LinkCounters) : (s.modLink a f).params = s.params := rfl
@[simp] theorem State.modLink_beams (s : State) (a : Antenna) (f : LinkCounters → LinkCounters) : (s.modLink a f).beams = s.beams := rfl
@[simp] theorem State.modLink_key (s : State) (a : Antenna) (f : LinkCounters → LinkCounters) : (s.modLink a f).key = s.key := rfl
@[simp] theorem State.modLink_trackers (s : State) (a : Antenna) (f : LinkCounters → LinkCounters) : (s.modLink a f).trackers = s.trackers := rfl
@[simp] theorem State.modLink_passages (s : State) (a : Antenna) (f : LinkCounters → LinkCounters) : (s.modLink a f).passages = s.passages := rfl
@[simp] theorem State.modLink_nextPassage (s : State) (a : Antenna) (f : LinkCounters → LinkCounters) : (s.modLink a f).nextPassage = s.nextPassage := rfl
@[simp] theorem State.modLink_counts (s : State) (a : Antenna) (f : LinkCounters → LinkCounters) : (s.modLink a f).counts = s.counts := rfl
@[simp] theorem State.modLink_grant (s : State) (a : Antenna) (f : LinkCounters → LinkCounters) : (s.modLink a f).grant = s.grant := rfl
@[simp] theorem State.modLink_lastGranted (s : State) (a : Antenna) (f : LinkCounters → LinkCounters) : (s.modLink a f).lastGranted = s.lastGranted := rfl
@[simp] theorem State.modLink_lastBackground (s : State) (a : Antenna) (f : LinkCounters → LinkCounters) : (s.modLink a f).lastBackground = s.lastBackground := rfl
@[simp] theorem State.modLink_bgTimer (s : State) (a : Antenna) (f : LinkCounters → LinkCounters) : (s.modLink a f).bgTimer = s.bgTimer := rfl
@[simp] theorem State.modLink_antennas (s : State) (a : Antenna) (f : LinkCounters → LinkCounters) : (s.modLink a f).antennas = s.antennas := rfl
@[simp] theorem State.modLink_engine (s : State) (a : Antenna) (f : LinkCounters → LinkCounters) : (s.modLink a f).engine = s.engine := rfl
@[simp] theorem State.modLink_round (s : State) (a : Antenna) (f : LinkCounters → LinkCounters) : (s.modLink a f).round = s.round := rfl
@[simp] theorem State.modLink_field (s : State) (a : Antenna) (f : LinkCounters → LinkCounters) : (s.modLink a f).field = s.field := rfl
@[simp] theorem State.modLink_air (s : State) (a : Antenna) (f : LinkCounters → LinkCounters) : (s.modLink a f).air = s.air := rfl
@[simp] theorem State.modLink_storedExp (s : State) (a : Antenna) (f : LinkCounters → LinkCounters) : (s.modLink a f).storedExp = s.storedExp := rfl
@[simp] theorem State.modLink_rates (s : State) (a : Antenna) (f : LinkCounters → LinkCounters) : (s.modLink a f).rates = s.rates := rfl
@[simp] theorem State.modLink_owner (s : State) (a : Antenna) (f : LinkCounters → LinkCounters) : (s.modLink a f).owner = s.owner := rfl
@[simp] theorem State.modLink_linkCounters (s : State) (a : Antenna) (f : LinkCounters → LinkCounters) : (s.modLink a f).linkCounters = modAt s.linkCounters a f := rfl
@[simp] theorem State.modLink_intake (s : State) (a : Antenna) (f : LinkCounters → LinkCounters) : (s.modLink a f).intake = s.intake := rfl
@[simp] theorem State.modLink_sightings (s : State) (a : Antenna) (f : LinkCounters → LinkCounters) : (s.modLink a f).sightings = s.sightings := rfl
@[simp] theorem State.modLink_classes (s : State) (a : Antenna) (f : LinkCounters → LinkCounters) : (s.modLink a f).classes = s.classes := rfl
@[simp] theorem State.modLink_loans (s : State) (a : Antenna) (f : LinkCounters → LinkCounters) : (s.modLink a f).loans = s.loans := rfl
@[simp] theorem State.modLink_slots (s : State) (a : Antenna) (f : LinkCounters → LinkCounters) : (s.modLink a f).slots = s.slots := rfl
@[simp] theorem State.modLink_waiting (s : State) (a : Antenna) (f : LinkCounters → LinkCounters) : (s.modLink a f).waiting = s.waiting := rfl
@[simp] theorem State.modLink_nextOrder (s : State) (a : Antenna) (f : LinkCounters → LinkCounters) : (s.modLink a f).nextOrder = s.nextOrder := rfl
@[simp] theorem State.modLink_alarms (s : State) (a : Antenna) (f : LinkCounters → LinkCounters) : (s.modLink a f).alarms = s.alarms := rfl
@[simp] theorem State.modLink_lines (s : State) (a : Antenna) (f : LinkCounters → LinkCounters) : (s.modLink a f).lines = s.lines := rfl
@[simp] theorem State.modLink_routes (s : State) (a : Antenna) (f : LinkCounters → LinkCounters) : (s.modLink a f).routes = s.routes := rfl
@[simp] theorem State.modLink_speed (s : State) (a : Antenna) (f : LinkCounters → LinkCounters) : (s.modLink a f).speed = s.speed := rfl
@[simp] theorem State.modLink_rx (s : State) (a : Antenna) (f : LinkCounters → LinkCounters) : (s.modLink a f).rx = s.rx := rfl
@[simp] theorem State.modLink_gap (s : State) (a : Antenna) (f : LinkCounters → LinkCounters) : (s.modLink a f).gap = s.gap := rfl
@[simp] theorem State.modLink_buffers (s : State) (a : Antenna) (f : LinkCounters → LinkCounters) : (s.modLink a f).buffers = s.buffers := rfl
@[simp] theorem State.modLink_reply (s : State) (a : Antenna) (f : LinkCounters → LinkCounters) : (s.modLink a f).reply = s.reply := rfl
@[simp] theorem State.modLink_sending (s : State) (a : Antenna) (f : LinkCounters → LinkCounters) : (s.modLink a f).sending = s.sending := rfl
@[simp] theorem State.modLink_notices (s : State) (a : Antenna) (f : LinkCounters → LinkCounters) : (s.modLink a f).notices = s.notices := rfl
@[simp] theorem State.modLink_reports (s : State) (a : Antenna) (f : LinkCounters → LinkCounters) : (s.modLink a f).reports = s.reports := rfl
@[simp] theorem State.modLink_linked (s : State) (a : Antenna) (f : LinkCounters → LinkCounters) : (s.modLink a f).linked = s.linked := rfl
@[simp] theorem State.modLink_silence (s : State) (a : Antenna) (f : LinkCounters → LinkCounters) : (s.modLink a f).silence = s.silence := rfl
@[simp] theorem State.modLink_restartPending (s : State) (a : Antenna) (f : LinkCounters → LinkCounters) : (s.modLink a f).restartPending = s.restartPending := rfl
@[simp] theorem State.modLink_device (s : State) (a : Antenna) (f : LinkCounters → LinkCounters) : (s.modLink a f).device = s.device := rfl

/-! ### modDevice -/

@[simp] theorem State.modDevice_pending (s : State) (f : DeviceCounters → DeviceCounters) : (s.modDevice f).pending = s.pending := rfl
@[simp] theorem State.modDevice_gateTime (s : State) (f : DeviceCounters → DeviceCounters) : (s.modDevice f).gateTime = s.gateTime := rfl
@[simp] theorem State.modDevice_restartCause (s : State) (f : DeviceCounters → DeviceCounters) : (s.modDevice f).restartCause = s.restartCause := rfl
@[simp] theorem State.modDevice_params (s : State) (f : DeviceCounters → DeviceCounters) : (s.modDevice f).params = s.params := rfl
@[simp] theorem State.modDevice_beams (s : State) (f : DeviceCounters → DeviceCounters) : (s.modDevice f).beams = s.beams := rfl
@[simp] theorem State.modDevice_key (s : State) (f : DeviceCounters → DeviceCounters) : (s.modDevice f).key = s.key := rfl
@[simp] theorem State.modDevice_trackers (s : State) (f : DeviceCounters → DeviceCounters) : (s.modDevice f).trackers = s.trackers := rfl
@[simp] theorem State.modDevice_passages (s : State) (f : DeviceCounters → DeviceCounters) : (s.modDevice f).passages = s.passages := rfl
@[simp] theorem State.modDevice_nextPassage (s : State) (f : DeviceCounters → DeviceCounters) : (s.modDevice f).nextPassage = s.nextPassage := rfl
@[simp] theorem State.modDevice_counts (s : State) (f : DeviceCounters → DeviceCounters) : (s.modDevice f).counts = s.counts := rfl
@[simp] theorem State.modDevice_grant (s : State) (f : DeviceCounters → DeviceCounters) : (s.modDevice f).grant = s.grant := rfl
@[simp] theorem State.modDevice_lastGranted (s : State) (f : DeviceCounters → DeviceCounters) : (s.modDevice f).lastGranted = s.lastGranted := rfl
@[simp] theorem State.modDevice_lastBackground (s : State) (f : DeviceCounters → DeviceCounters) : (s.modDevice f).lastBackground = s.lastBackground := rfl
@[simp] theorem State.modDevice_bgTimer (s : State) (f : DeviceCounters → DeviceCounters) : (s.modDevice f).bgTimer = s.bgTimer := rfl
@[simp] theorem State.modDevice_antennas (s : State) (f : DeviceCounters → DeviceCounters) : (s.modDevice f).antennas = s.antennas := rfl
@[simp] theorem State.modDevice_engine (s : State) (f : DeviceCounters → DeviceCounters) : (s.modDevice f).engine = s.engine := rfl
@[simp] theorem State.modDevice_round (s : State) (f : DeviceCounters → DeviceCounters) : (s.modDevice f).round = s.round := rfl
@[simp] theorem State.modDevice_field (s : State) (f : DeviceCounters → DeviceCounters) : (s.modDevice f).field = s.field := rfl
@[simp] theorem State.modDevice_air (s : State) (f : DeviceCounters → DeviceCounters) : (s.modDevice f).air = s.air := rfl
@[simp] theorem State.modDevice_storedExp (s : State) (f : DeviceCounters → DeviceCounters) : (s.modDevice f).storedExp = s.storedExp := rfl
@[simp] theorem State.modDevice_rates (s : State) (f : DeviceCounters → DeviceCounters) : (s.modDevice f).rates = s.rates := rfl
@[simp] theorem State.modDevice_owner (s : State) (f : DeviceCounters → DeviceCounters) : (s.modDevice f).owner = s.owner := rfl
@[simp] theorem State.modDevice_linkCounters (s : State) (f : DeviceCounters → DeviceCounters) : (s.modDevice f).linkCounters = s.linkCounters := rfl
@[simp] theorem State.modDevice_intake (s : State) (f : DeviceCounters → DeviceCounters) : (s.modDevice f).intake = s.intake := rfl
@[simp] theorem State.modDevice_sightings (s : State) (f : DeviceCounters → DeviceCounters) : (s.modDevice f).sightings = s.sightings := rfl
@[simp] theorem State.modDevice_classes (s : State) (f : DeviceCounters → DeviceCounters) : (s.modDevice f).classes = s.classes := rfl
@[simp] theorem State.modDevice_loans (s : State) (f : DeviceCounters → DeviceCounters) : (s.modDevice f).loans = s.loans := rfl
@[simp] theorem State.modDevice_slots (s : State) (f : DeviceCounters → DeviceCounters) : (s.modDevice f).slots = s.slots := rfl
@[simp] theorem State.modDevice_waiting (s : State) (f : DeviceCounters → DeviceCounters) : (s.modDevice f).waiting = s.waiting := rfl
@[simp] theorem State.modDevice_nextOrder (s : State) (f : DeviceCounters → DeviceCounters) : (s.modDevice f).nextOrder = s.nextOrder := rfl
@[simp] theorem State.modDevice_alarms (s : State) (f : DeviceCounters → DeviceCounters) : (s.modDevice f).alarms = s.alarms := rfl
@[simp] theorem State.modDevice_lines (s : State) (f : DeviceCounters → DeviceCounters) : (s.modDevice f).lines = s.lines := rfl
@[simp] theorem State.modDevice_routes (s : State) (f : DeviceCounters → DeviceCounters) : (s.modDevice f).routes = s.routes := rfl
@[simp] theorem State.modDevice_speed (s : State) (f : DeviceCounters → DeviceCounters) : (s.modDevice f).speed = s.speed := rfl
@[simp] theorem State.modDevice_rx (s : State) (f : DeviceCounters → DeviceCounters) : (s.modDevice f).rx = s.rx := rfl
@[simp] theorem State.modDevice_gap (s : State) (f : DeviceCounters → DeviceCounters) : (s.modDevice f).gap = s.gap := rfl
@[simp] theorem State.modDevice_buffers (s : State) (f : DeviceCounters → DeviceCounters) : (s.modDevice f).buffers = s.buffers := rfl
@[simp] theorem State.modDevice_reply (s : State) (f : DeviceCounters → DeviceCounters) : (s.modDevice f).reply = s.reply := rfl
@[simp] theorem State.modDevice_sending (s : State) (f : DeviceCounters → DeviceCounters) : (s.modDevice f).sending = s.sending := rfl
@[simp] theorem State.modDevice_notices (s : State) (f : DeviceCounters → DeviceCounters) : (s.modDevice f).notices = s.notices := rfl
@[simp] theorem State.modDevice_reports (s : State) (f : DeviceCounters → DeviceCounters) : (s.modDevice f).reports = s.reports := rfl
@[simp] theorem State.modDevice_linked (s : State) (f : DeviceCounters → DeviceCounters) : (s.modDevice f).linked = s.linked := rfl
@[simp] theorem State.modDevice_silence (s : State) (f : DeviceCounters → DeviceCounters) : (s.modDevice f).silence = s.silence := rfl
@[simp] theorem State.modDevice_restartPending (s : State) (f : DeviceCounters → DeviceCounters) : (s.modDevice f).restartPending = s.restartPending := rfl
@[simp] theorem State.modDevice_device (s : State) (f : DeviceCounters → DeviceCounters) : (s.modDevice f).device = f s.device := rfl

/-! ### setAlarm -/

@[simp] theorem State.setAlarm_pending (s : State) (k : Lane) (x : LaneAlarm) : (s.setAlarm k x).pending = s.pending := rfl
@[simp] theorem State.setAlarm_gateTime (s : State) (k : Lane) (x : LaneAlarm) : (s.setAlarm k x).gateTime = s.gateTime := rfl
@[simp] theorem State.setAlarm_restartCause (s : State) (k : Lane) (x : LaneAlarm) : (s.setAlarm k x).restartCause = s.restartCause := rfl
@[simp] theorem State.setAlarm_params (s : State) (k : Lane) (x : LaneAlarm) : (s.setAlarm k x).params = s.params := rfl
@[simp] theorem State.setAlarm_beams (s : State) (k : Lane) (x : LaneAlarm) : (s.setAlarm k x).beams = s.beams := rfl
@[simp] theorem State.setAlarm_key (s : State) (k : Lane) (x : LaneAlarm) : (s.setAlarm k x).key = s.key := rfl
@[simp] theorem State.setAlarm_trackers (s : State) (k : Lane) (x : LaneAlarm) : (s.setAlarm k x).trackers = s.trackers := rfl
@[simp] theorem State.setAlarm_passages (s : State) (k : Lane) (x : LaneAlarm) : (s.setAlarm k x).passages = s.passages := rfl
@[simp] theorem State.setAlarm_nextPassage (s : State) (k : Lane) (x : LaneAlarm) : (s.setAlarm k x).nextPassage = s.nextPassage := rfl
@[simp] theorem State.setAlarm_counts (s : State) (k : Lane) (x : LaneAlarm) : (s.setAlarm k x).counts = s.counts := rfl
@[simp] theorem State.setAlarm_grant (s : State) (k : Lane) (x : LaneAlarm) : (s.setAlarm k x).grant = s.grant := rfl
@[simp] theorem State.setAlarm_lastGranted (s : State) (k : Lane) (x : LaneAlarm) : (s.setAlarm k x).lastGranted = s.lastGranted := rfl
@[simp] theorem State.setAlarm_lastBackground (s : State) (k : Lane) (x : LaneAlarm) : (s.setAlarm k x).lastBackground = s.lastBackground := rfl
@[simp] theorem State.setAlarm_bgTimer (s : State) (k : Lane) (x : LaneAlarm) : (s.setAlarm k x).bgTimer = s.bgTimer := rfl
@[simp] theorem State.setAlarm_antennas (s : State) (k : Lane) (x : LaneAlarm) : (s.setAlarm k x).antennas = s.antennas := rfl
@[simp] theorem State.setAlarm_engine (s : State) (k : Lane) (x : LaneAlarm) : (s.setAlarm k x).engine = s.engine := rfl
@[simp] theorem State.setAlarm_round (s : State) (k : Lane) (x : LaneAlarm) : (s.setAlarm k x).round = s.round := rfl
@[simp] theorem State.setAlarm_field (s : State) (k : Lane) (x : LaneAlarm) : (s.setAlarm k x).field = s.field := rfl
@[simp] theorem State.setAlarm_air (s : State) (k : Lane) (x : LaneAlarm) : (s.setAlarm k x).air = s.air := rfl
@[simp] theorem State.setAlarm_storedExp (s : State) (k : Lane) (x : LaneAlarm) : (s.setAlarm k x).storedExp = s.storedExp := rfl
@[simp] theorem State.setAlarm_rates (s : State) (k : Lane) (x : LaneAlarm) : (s.setAlarm k x).rates = s.rates := rfl
@[simp] theorem State.setAlarm_owner (s : State) (k : Lane) (x : LaneAlarm) : (s.setAlarm k x).owner = s.owner := rfl
@[simp] theorem State.setAlarm_linkCounters (s : State) (k : Lane) (x : LaneAlarm) : (s.setAlarm k x).linkCounters = s.linkCounters := rfl
@[simp] theorem State.setAlarm_intake (s : State) (k : Lane) (x : LaneAlarm) : (s.setAlarm k x).intake = s.intake := rfl
@[simp] theorem State.setAlarm_sightings (s : State) (k : Lane) (x : LaneAlarm) : (s.setAlarm k x).sightings = s.sightings := rfl
@[simp] theorem State.setAlarm_classes (s : State) (k : Lane) (x : LaneAlarm) : (s.setAlarm k x).classes = s.classes := rfl
@[simp] theorem State.setAlarm_loans (s : State) (k : Lane) (x : LaneAlarm) : (s.setAlarm k x).loans = s.loans := rfl
@[simp] theorem State.setAlarm_slots (s : State) (k : Lane) (x : LaneAlarm) : (s.setAlarm k x).slots = s.slots := rfl
@[simp] theorem State.setAlarm_waiting (s : State) (k : Lane) (x : LaneAlarm) : (s.setAlarm k x).waiting = s.waiting := rfl
@[simp] theorem State.setAlarm_nextOrder (s : State) (k : Lane) (x : LaneAlarm) : (s.setAlarm k x).nextOrder = s.nextOrder := rfl
@[simp] theorem State.setAlarm_alarms (s : State) (k : Lane) (x : LaneAlarm) : (s.setAlarm k x).alarms = s.alarms.set k x := rfl
@[simp] theorem State.setAlarm_lines (s : State) (k : Lane) (x : LaneAlarm) : (s.setAlarm k x).lines = s.lines := rfl
@[simp] theorem State.setAlarm_routes (s : State) (k : Lane) (x : LaneAlarm) : (s.setAlarm k x).routes = s.routes := rfl
@[simp] theorem State.setAlarm_speed (s : State) (k : Lane) (x : LaneAlarm) : (s.setAlarm k x).speed = s.speed := rfl
@[simp] theorem State.setAlarm_rx (s : State) (k : Lane) (x : LaneAlarm) : (s.setAlarm k x).rx = s.rx := rfl
@[simp] theorem State.setAlarm_gap (s : State) (k : Lane) (x : LaneAlarm) : (s.setAlarm k x).gap = s.gap := rfl
@[simp] theorem State.setAlarm_buffers (s : State) (k : Lane) (x : LaneAlarm) : (s.setAlarm k x).buffers = s.buffers := rfl
@[simp] theorem State.setAlarm_reply (s : State) (k : Lane) (x : LaneAlarm) : (s.setAlarm k x).reply = s.reply := rfl
@[simp] theorem State.setAlarm_sending (s : State) (k : Lane) (x : LaneAlarm) : (s.setAlarm k x).sending = s.sending := rfl
@[simp] theorem State.setAlarm_notices (s : State) (k : Lane) (x : LaneAlarm) : (s.setAlarm k x).notices = s.notices := rfl
@[simp] theorem State.setAlarm_reports (s : State) (k : Lane) (x : LaneAlarm) : (s.setAlarm k x).reports = s.reports := rfl
@[simp] theorem State.setAlarm_linked (s : State) (k : Lane) (x : LaneAlarm) : (s.setAlarm k x).linked = s.linked := rfl
@[simp] theorem State.setAlarm_silence (s : State) (k : Lane) (x : LaneAlarm) : (s.setAlarm k x).silence = s.silence := rfl
@[simp] theorem State.setAlarm_restartPending (s : State) (k : Lane) (x : LaneAlarm) : (s.setAlarm k x).restartPending = s.restartPending := rfl
@[simp] theorem State.setAlarm_device (s : State) (k : Lane) (x : LaneAlarm) : (s.setAlarm k x).device = s.device := rfl

/-! ### modLine -/

@[simp] theorem State.modLine_pending (s : State) (l : OutLine) (f : LineState → LineState) : (s.modLine l f).pending = s.pending := rfl
@[simp] theorem State.modLine_gateTime (s : State) (l : OutLine) (f : LineState → LineState) : (s.modLine l f).gateTime = s.gateTime := rfl
@[simp] theorem State.modLine_restartCause (s : State) (l : OutLine) (f : LineState → LineState) : (s.modLine l f).restartCause = s.restartCause := rfl
@[simp] theorem State.modLine_params (s : State) (l : OutLine) (f : LineState → LineState) : (s.modLine l f).params = s.params := rfl
@[simp] theorem State.modLine_beams (s : State) (l : OutLine) (f : LineState → LineState) : (s.modLine l f).beams = s.beams := rfl
@[simp] theorem State.modLine_key (s : State) (l : OutLine) (f : LineState → LineState) : (s.modLine l f).key = s.key := rfl
@[simp] theorem State.modLine_trackers (s : State) (l : OutLine) (f : LineState → LineState) : (s.modLine l f).trackers = s.trackers := rfl
@[simp] theorem State.modLine_passages (s : State) (l : OutLine) (f : LineState → LineState) : (s.modLine l f).passages = s.passages := rfl
@[simp] theorem State.modLine_nextPassage (s : State) (l : OutLine) (f : LineState → LineState) : (s.modLine l f).nextPassage = s.nextPassage := rfl
@[simp] theorem State.modLine_counts (s : State) (l : OutLine) (f : LineState → LineState) : (s.modLine l f).counts = s.counts := rfl
@[simp] theorem State.modLine_grant (s : State) (l : OutLine) (f : LineState → LineState) : (s.modLine l f).grant = s.grant := rfl
@[simp] theorem State.modLine_lastGranted (s : State) (l : OutLine) (f : LineState → LineState) : (s.modLine l f).lastGranted = s.lastGranted := rfl
@[simp] theorem State.modLine_lastBackground (s : State) (l : OutLine) (f : LineState → LineState) : (s.modLine l f).lastBackground = s.lastBackground := rfl
@[simp] theorem State.modLine_bgTimer (s : State) (l : OutLine) (f : LineState → LineState) : (s.modLine l f).bgTimer = s.bgTimer := rfl
@[simp] theorem State.modLine_antennas (s : State) (l : OutLine) (f : LineState → LineState) : (s.modLine l f).antennas = s.antennas := rfl
@[simp] theorem State.modLine_engine (s : State) (l : OutLine) (f : LineState → LineState) : (s.modLine l f).engine = s.engine := rfl
@[simp] theorem State.modLine_round (s : State) (l : OutLine) (f : LineState → LineState) : (s.modLine l f).round = s.round := rfl
@[simp] theorem State.modLine_field (s : State) (l : OutLine) (f : LineState → LineState) : (s.modLine l f).field = s.field := rfl
@[simp] theorem State.modLine_air (s : State) (l : OutLine) (f : LineState → LineState) : (s.modLine l f).air = s.air := rfl
@[simp] theorem State.modLine_storedExp (s : State) (l : OutLine) (f : LineState → LineState) : (s.modLine l f).storedExp = s.storedExp := rfl
@[simp] theorem State.modLine_rates (s : State) (l : OutLine) (f : LineState → LineState) : (s.modLine l f).rates = s.rates := rfl
@[simp] theorem State.modLine_owner (s : State) (l : OutLine) (f : LineState → LineState) : (s.modLine l f).owner = s.owner := rfl
@[simp] theorem State.modLine_linkCounters (s : State) (l : OutLine) (f : LineState → LineState) : (s.modLine l f).linkCounters = s.linkCounters := rfl
@[simp] theorem State.modLine_intake (s : State) (l : OutLine) (f : LineState → LineState) : (s.modLine l f).intake = s.intake := rfl
@[simp] theorem State.modLine_sightings (s : State) (l : OutLine) (f : LineState → LineState) : (s.modLine l f).sightings = s.sightings := rfl
@[simp] theorem State.modLine_classes (s : State) (l : OutLine) (f : LineState → LineState) : (s.modLine l f).classes = s.classes := rfl
@[simp] theorem State.modLine_loans (s : State) (l : OutLine) (f : LineState → LineState) : (s.modLine l f).loans = s.loans := rfl
@[simp] theorem State.modLine_slots (s : State) (l : OutLine) (f : LineState → LineState) : (s.modLine l f).slots = s.slots := rfl
@[simp] theorem State.modLine_waiting (s : State) (l : OutLine) (f : LineState → LineState) : (s.modLine l f).waiting = s.waiting := rfl
@[simp] theorem State.modLine_nextOrder (s : State) (l : OutLine) (f : LineState → LineState) : (s.modLine l f).nextOrder = s.nextOrder := rfl
@[simp] theorem State.modLine_alarms (s : State) (l : OutLine) (f : LineState → LineState) : (s.modLine l f).alarms = s.alarms := rfl
@[simp] theorem State.modLine_lines (s : State) (l : OutLine) (f : LineState → LineState) : (s.modLine l f).lines = modAt s.lines l f := rfl
@[simp] theorem State.modLine_routes (s : State) (l : OutLine) (f : LineState → LineState) : (s.modLine l f).routes = s.routes := rfl
@[simp] theorem State.modLine_speed (s : State) (l : OutLine) (f : LineState → LineState) : (s.modLine l f).speed = s.speed := rfl
@[simp] theorem State.modLine_rx (s : State) (l : OutLine) (f : LineState → LineState) : (s.modLine l f).rx = s.rx := rfl
@[simp] theorem State.modLine_gap (s : State) (l : OutLine) (f : LineState → LineState) : (s.modLine l f).gap = s.gap := rfl
@[simp] theorem State.modLine_buffers (s : State) (l : OutLine) (f : LineState → LineState) : (s.modLine l f).buffers = s.buffers := rfl
@[simp] theorem State.modLine_reply (s : State) (l : OutLine) (f : LineState → LineState) : (s.modLine l f).reply = s.reply := rfl
@[simp] theorem State.modLine_sending (s : State) (l : OutLine) (f : LineState → LineState) : (s.modLine l f).sending = s.sending := rfl
@[simp] theorem State.modLine_notices (s : State) (l : OutLine) (f : LineState → LineState) : (s.modLine l f).notices = s.notices := rfl
@[simp] theorem State.modLine_reports (s : State) (l : OutLine) (f : LineState → LineState) : (s.modLine l f).reports = s.reports := rfl
@[simp] theorem State.modLine_linked (s : State) (l : OutLine) (f : LineState → LineState) : (s.modLine l f).linked = s.linked := rfl
@[simp] theorem State.modLine_silence (s : State) (l : OutLine) (f : LineState → LineState) : (s.modLine l f).silence = s.silence := rfl
@[simp] theorem State.modLine_restartPending (s : State) (l : OutLine) (f : LineState → LineState) : (s.modLine l f).restartPending = s.restartPending := rfl
@[simp] theorem State.modLine_device (s : State) (l : OutLine) (f : LineState → LineState) : (s.modLine l f).device = s.device := rfl

/-! ### setSlot -/

@[simp] theorem State.setSlot_pending (s : State) (j : SlotNo) (q : Option Question) : (s.setSlot j q).pending = s.pending := rfl
@[simp] theorem State.setSlot_gateTime (s : State) (j : SlotNo) (q : Option Question) : (s.setSlot j q).gateTime = s.gateTime := rfl
@[simp] theorem State.setSlot_restartCause (s : State) (j : SlotNo) (q : Option Question) : (s.setSlot j q).restartCause = s.restartCause := rfl
@[simp] theorem State.setSlot_params (s : State) (j : SlotNo) (q : Option Question) : (s.setSlot j q).params = s.params := rfl
@[simp] theorem State.setSlot_beams (s : State) (j : SlotNo) (q : Option Question) : (s.setSlot j q).beams = s.beams := rfl
@[simp] theorem State.setSlot_key (s : State) (j : SlotNo) (q : Option Question) : (s.setSlot j q).key = s.key := rfl
@[simp] theorem State.setSlot_trackers (s : State) (j : SlotNo) (q : Option Question) : (s.setSlot j q).trackers = s.trackers := rfl
@[simp] theorem State.setSlot_passages (s : State) (j : SlotNo) (q : Option Question) : (s.setSlot j q).passages = s.passages := rfl
@[simp] theorem State.setSlot_nextPassage (s : State) (j : SlotNo) (q : Option Question) : (s.setSlot j q).nextPassage = s.nextPassage := rfl
@[simp] theorem State.setSlot_counts (s : State) (j : SlotNo) (q : Option Question) : (s.setSlot j q).counts = s.counts := rfl
@[simp] theorem State.setSlot_grant (s : State) (j : SlotNo) (q : Option Question) : (s.setSlot j q).grant = s.grant := rfl
@[simp] theorem State.setSlot_lastGranted (s : State) (j : SlotNo) (q : Option Question) : (s.setSlot j q).lastGranted = s.lastGranted := rfl
@[simp] theorem State.setSlot_lastBackground (s : State) (j : SlotNo) (q : Option Question) : (s.setSlot j q).lastBackground = s.lastBackground := rfl
@[simp] theorem State.setSlot_bgTimer (s : State) (j : SlotNo) (q : Option Question) : (s.setSlot j q).bgTimer = s.bgTimer := rfl
@[simp] theorem State.setSlot_antennas (s : State) (j : SlotNo) (q : Option Question) : (s.setSlot j q).antennas = s.antennas := rfl
@[simp] theorem State.setSlot_engine (s : State) (j : SlotNo) (q : Option Question) : (s.setSlot j q).engine = s.engine := rfl
@[simp] theorem State.setSlot_round (s : State) (j : SlotNo) (q : Option Question) : (s.setSlot j q).round = s.round := rfl
@[simp] theorem State.setSlot_field (s : State) (j : SlotNo) (q : Option Question) : (s.setSlot j q).field = s.field := rfl
@[simp] theorem State.setSlot_air (s : State) (j : SlotNo) (q : Option Question) : (s.setSlot j q).air = s.air := rfl
@[simp] theorem State.setSlot_storedExp (s : State) (j : SlotNo) (q : Option Question) : (s.setSlot j q).storedExp = s.storedExp := rfl
@[simp] theorem State.setSlot_rates (s : State) (j : SlotNo) (q : Option Question) : (s.setSlot j q).rates = s.rates := rfl
@[simp] theorem State.setSlot_owner (s : State) (j : SlotNo) (q : Option Question) : (s.setSlot j q).owner = s.owner := rfl
@[simp] theorem State.setSlot_linkCounters (s : State) (j : SlotNo) (q : Option Question) : (s.setSlot j q).linkCounters = s.linkCounters := rfl
@[simp] theorem State.setSlot_intake (s : State) (j : SlotNo) (q : Option Question) : (s.setSlot j q).intake = s.intake := rfl
@[simp] theorem State.setSlot_sightings (s : State) (j : SlotNo) (q : Option Question) : (s.setSlot j q).sightings = s.sightings := rfl
@[simp] theorem State.setSlot_classes (s : State) (j : SlotNo) (q : Option Question) : (s.setSlot j q).classes = s.classes := rfl
@[simp] theorem State.setSlot_loans (s : State) (j : SlotNo) (q : Option Question) : (s.setSlot j q).loans = s.loans := rfl
@[simp] theorem State.setSlot_slots (s : State) (j : SlotNo) (q : Option Question) : (s.setSlot j q).slots = s.slots.set j q := rfl
@[simp] theorem State.setSlot_waiting (s : State) (j : SlotNo) (q : Option Question) : (s.setSlot j q).waiting = s.waiting := rfl
@[simp] theorem State.setSlot_nextOrder (s : State) (j : SlotNo) (q : Option Question) : (s.setSlot j q).nextOrder = s.nextOrder := rfl
@[simp] theorem State.setSlot_alarms (s : State) (j : SlotNo) (q : Option Question) : (s.setSlot j q).alarms = s.alarms := rfl
@[simp] theorem State.setSlot_lines (s : State) (j : SlotNo) (q : Option Question) : (s.setSlot j q).lines = s.lines := rfl
@[simp] theorem State.setSlot_routes (s : State) (j : SlotNo) (q : Option Question) : (s.setSlot j q).routes = s.routes := rfl
@[simp] theorem State.setSlot_speed (s : State) (j : SlotNo) (q : Option Question) : (s.setSlot j q).speed = s.speed := rfl
@[simp] theorem State.setSlot_rx (s : State) (j : SlotNo) (q : Option Question) : (s.setSlot j q).rx = s.rx := rfl
@[simp] theorem State.setSlot_gap (s : State) (j : SlotNo) (q : Option Question) : (s.setSlot j q).gap = s.gap := rfl
@[simp] theorem State.setSlot_buffers (s : State) (j : SlotNo) (q : Option Question) : (s.setSlot j q).buffers = s.buffers := rfl
@[simp] theorem State.setSlot_reply (s : State) (j : SlotNo) (q : Option Question) : (s.setSlot j q).reply = s.reply := rfl
@[simp] theorem State.setSlot_sending (s : State) (j : SlotNo) (q : Option Question) : (s.setSlot j q).sending = s.sending := rfl
@[simp] theorem State.setSlot_notices (s : State) (j : SlotNo) (q : Option Question) : (s.setSlot j q).notices = s.notices := rfl
@[simp] theorem State.setSlot_reports (s : State) (j : SlotNo) (q : Option Question) : (s.setSlot j q).reports = s.reports := rfl
@[simp] theorem State.setSlot_linked (s : State) (j : SlotNo) (q : Option Question) : (s.setSlot j q).linked = s.linked := rfl
@[simp] theorem State.setSlot_silence (s : State) (j : SlotNo) (q : Option Question) : (s.setSlot j q).silence = s.silence := rfl
@[simp] theorem State.setSlot_restartPending (s : State) (j : SlotNo) (q : Option Question) : (s.setSlot j q).restartPending = s.restartPending := rfl
@[simp] theorem State.setSlot_device (s : State) (j : SlotNo) (q : Option Question) : (s.setSlot j q).device = s.device := rfl

/-! ### emit -/

@[simp] theorem State.emit_pending (s : State) (c : AirCommand) : (s.emit c).pending = s.pending := rfl
@[simp] theorem State.emit_gateTime (s : State) (c : AirCommand) : (s.emit c).gateTime = s.gateTime := rfl
@[simp] theorem State.emit_restartCause (s : State) (c : AirCommand) : (s.emit c).restartCause = s.restartCause := rfl
@[simp] theorem State.emit_params (s : State) (c : AirCommand) : (s.emit c).params = s.params := rfl
@[simp] theorem State.emit_beams (s : State) (c : AirCommand) : (s.emit c).beams = s.beams := rfl
@[simp] theorem State.emit_key (s : State) (c : AirCommand) : (s.emit c).key = s.key := rfl
@[simp] theorem State.emit_trackers (s : State) (c : AirCommand) : (s.emit c).trackers = s.trackers := rfl
@[simp] theorem State.emit_passages (s : State) (c : AirCommand) : (s.emit c).passages = s.passages := rfl
@[simp] theorem State.emit_nextPassage (s : State) (c : AirCommand) : (s.emit c).nextPassage = s.nextPassage := rfl
@[simp] theorem State.emit_counts (s : State) (c : AirCommand) : (s.emit c).counts = s.counts := rfl
@[simp] theorem State.emit_grant (s : State) (c : AirCommand) : (s.emit c).grant = s.grant := rfl
@[simp] theorem State.emit_lastGranted (s : State) (c : AirCommand) : (s.emit c).lastGranted = s.lastGranted := rfl
@[simp] theorem State.emit_lastBackground (s : State) (c : AirCommand) : (s.emit c).lastBackground = s.lastBackground := rfl
@[simp] theorem State.emit_bgTimer (s : State) (c : AirCommand) : (s.emit c).bgTimer = s.bgTimer := rfl
@[simp] theorem State.emit_antennas (s : State) (c : AirCommand) : (s.emit c).antennas = s.antennas := rfl
@[simp] theorem State.emit_engine (s : State) (c : AirCommand) : (s.emit c).engine = s.engine := rfl
@[simp] theorem State.emit_round (s : State) (c : AirCommand) : (s.emit c).round = s.round := rfl
@[simp] theorem State.emit_field (s : State) (c : AirCommand) : (s.emit c).field = s.field := rfl
@[simp] theorem State.emit_air (s : State) (c : AirCommand) : (s.emit c).air = s.air ++ [c] := rfl
@[simp] theorem State.emit_storedExp (s : State) (c : AirCommand) : (s.emit c).storedExp = s.storedExp := rfl
@[simp] theorem State.emit_rates (s : State) (c : AirCommand) : (s.emit c).rates = s.rates := rfl
@[simp] theorem State.emit_owner (s : State) (c : AirCommand) : (s.emit c).owner = s.owner := rfl
@[simp] theorem State.emit_linkCounters (s : State) (c : AirCommand) : (s.emit c).linkCounters = s.linkCounters := rfl
@[simp] theorem State.emit_intake (s : State) (c : AirCommand) : (s.emit c).intake = s.intake := rfl
@[simp] theorem State.emit_sightings (s : State) (c : AirCommand) : (s.emit c).sightings = s.sightings := rfl
@[simp] theorem State.emit_classes (s : State) (c : AirCommand) : (s.emit c).classes = s.classes := rfl
@[simp] theorem State.emit_loans (s : State) (c : AirCommand) : (s.emit c).loans = s.loans := rfl
@[simp] theorem State.emit_slots (s : State) (c : AirCommand) : (s.emit c).slots = s.slots := rfl
@[simp] theorem State.emit_waiting (s : State) (c : AirCommand) : (s.emit c).waiting = s.waiting := rfl
@[simp] theorem State.emit_nextOrder (s : State) (c : AirCommand) : (s.emit c).nextOrder = s.nextOrder := rfl
@[simp] theorem State.emit_alarms (s : State) (c : AirCommand) : (s.emit c).alarms = s.alarms := rfl
@[simp] theorem State.emit_lines (s : State) (c : AirCommand) : (s.emit c).lines = s.lines := rfl
@[simp] theorem State.emit_routes (s : State) (c : AirCommand) : (s.emit c).routes = s.routes := rfl
@[simp] theorem State.emit_speed (s : State) (c : AirCommand) : (s.emit c).speed = s.speed := rfl
@[simp] theorem State.emit_rx (s : State) (c : AirCommand) : (s.emit c).rx = s.rx := rfl
@[simp] theorem State.emit_gap (s : State) (c : AirCommand) : (s.emit c).gap = s.gap := rfl
@[simp] theorem State.emit_buffers (s : State) (c : AirCommand) : (s.emit c).buffers = s.buffers := rfl
@[simp] theorem State.emit_reply (s : State) (c : AirCommand) : (s.emit c).reply = s.reply := rfl
@[simp] theorem State.emit_sending (s : State) (c : AirCommand) : (s.emit c).sending = s.sending := rfl
@[simp] theorem State.emit_notices (s : State) (c : AirCommand) : (s.emit c).notices = s.notices := rfl
@[simp] theorem State.emit_reports (s : State) (c : AirCommand) : (s.emit c).reports = s.reports := rfl
@[simp] theorem State.emit_linked (s : State) (c : AirCommand) : (s.emit c).linked = s.linked := rfl
@[simp] theorem State.emit_silence (s : State) (c : AirCommand) : (s.emit c).silence = s.silence := rfl
@[simp] theorem State.emit_restartPending (s : State) (c : AirCommand) : (s.emit c).restartPending = s.restartPending := rfl
@[simp] theorem State.emit_device (s : State) (c : AirCommand) : (s.emit c).device = s.device := rfl

/-! ### modBeam -/

@[simp] theorem State.modBeam_pending (s : State) (k : Lane) (x : Beam) (f : BeamState → BeamState) : (s.modBeam k x f).pending = s.pending := rfl
@[simp] theorem State.modBeam_gateTime (s : State) (k : Lane) (x : Beam) (f : BeamState → BeamState) : (s.modBeam k x f).gateTime = s.gateTime := rfl
@[simp] theorem State.modBeam_restartCause (s : State) (k : Lane) (x : Beam) (f : BeamState → BeamState) : (s.modBeam k x f).restartCause = s.restartCause := rfl
@[simp] theorem State.modBeam_params (s : State) (k : Lane) (x : Beam) (f : BeamState → BeamState) : (s.modBeam k x f).params = s.params := rfl
@[simp] theorem State.modBeam_beams (s : State) (k : Lane) (x : Beam) (f : BeamState → BeamState) : (s.modBeam k x f).beams = modAt s.beams k fun b => b.modify x f := rfl
@[simp] theorem State.modBeam_key (s : State) (k : Lane) (x : Beam) (f : BeamState → BeamState) : (s.modBeam k x f).key = s.key := rfl
@[simp] theorem State.modBeam_trackers (s : State) (k : Lane) (x : Beam) (f : BeamState → BeamState) : (s.modBeam k x f).trackers = s.trackers := rfl
@[simp] theorem State.modBeam_passages (s : State) (k : Lane) (x : Beam) (f : BeamState → BeamState) : (s.modBeam k x f).passages = s.passages := rfl
@[simp] theorem State.modBeam_nextPassage (s : State) (k : Lane) (x : Beam) (f : BeamState → BeamState) : (s.modBeam k x f).nextPassage = s.nextPassage := rfl
@[simp] theorem State.modBeam_counts (s : State) (k : Lane) (x : Beam) (f : BeamState → BeamState) : (s.modBeam k x f).counts = s.counts := rfl
@[simp] theorem State.modBeam_grant (s : State) (k : Lane) (x : Beam) (f : BeamState → BeamState) : (s.modBeam k x f).grant = s.grant := rfl
@[simp] theorem State.modBeam_lastGranted (s : State) (k : Lane) (x : Beam) (f : BeamState → BeamState) : (s.modBeam k x f).lastGranted = s.lastGranted := rfl
@[simp] theorem State.modBeam_lastBackground (s : State) (k : Lane) (x : Beam) (f : BeamState → BeamState) : (s.modBeam k x f).lastBackground = s.lastBackground := rfl
@[simp] theorem State.modBeam_bgTimer (s : State) (k : Lane) (x : Beam) (f : BeamState → BeamState) : (s.modBeam k x f).bgTimer = s.bgTimer := rfl
@[simp] theorem State.modBeam_antennas (s : State) (k : Lane) (x : Beam) (f : BeamState → BeamState) : (s.modBeam k x f).antennas = s.antennas := rfl
@[simp] theorem State.modBeam_engine (s : State) (k : Lane) (x : Beam) (f : BeamState → BeamState) : (s.modBeam k x f).engine = s.engine := rfl
@[simp] theorem State.modBeam_round (s : State) (k : Lane) (x : Beam) (f : BeamState → BeamState) : (s.modBeam k x f).round = s.round := rfl
@[simp] theorem State.modBeam_field (s : State) (k : Lane) (x : Beam) (f : BeamState → BeamState) : (s.modBeam k x f).field = s.field := rfl
@[simp] theorem State.modBeam_air (s : State) (k : Lane) (x : Beam) (f : BeamState → BeamState) : (s.modBeam k x f).air = s.air := rfl
@[simp] theorem State.modBeam_storedExp (s : State) (k : Lane) (x : Beam) (f : BeamState → BeamState) : (s.modBeam k x f).storedExp = s.storedExp := rfl
@[simp] theorem State.modBeam_rates (s : State) (k : Lane) (x : Beam) (f : BeamState → BeamState) : (s.modBeam k x f).rates = s.rates := rfl
@[simp] theorem State.modBeam_owner (s : State) (k : Lane) (x : Beam) (f : BeamState → BeamState) : (s.modBeam k x f).owner = s.owner := rfl
@[simp] theorem State.modBeam_linkCounters (s : State) (k : Lane) (x : Beam) (f : BeamState → BeamState) : (s.modBeam k x f).linkCounters = s.linkCounters := rfl
@[simp] theorem State.modBeam_intake (s : State) (k : Lane) (x : Beam) (f : BeamState → BeamState) : (s.modBeam k x f).intake = s.intake := rfl
@[simp] theorem State.modBeam_sightings (s : State) (k : Lane) (x : Beam) (f : BeamState → BeamState) : (s.modBeam k x f).sightings = s.sightings := rfl
@[simp] theorem State.modBeam_classes (s : State) (k : Lane) (x : Beam) (f : BeamState → BeamState) : (s.modBeam k x f).classes = s.classes := rfl
@[simp] theorem State.modBeam_loans (s : State) (k : Lane) (x : Beam) (f : BeamState → BeamState) : (s.modBeam k x f).loans = s.loans := rfl
@[simp] theorem State.modBeam_slots (s : State) (k : Lane) (x : Beam) (f : BeamState → BeamState) : (s.modBeam k x f).slots = s.slots := rfl
@[simp] theorem State.modBeam_waiting (s : State) (k : Lane) (x : Beam) (f : BeamState → BeamState) : (s.modBeam k x f).waiting = s.waiting := rfl
@[simp] theorem State.modBeam_nextOrder (s : State) (k : Lane) (x : Beam) (f : BeamState → BeamState) : (s.modBeam k x f).nextOrder = s.nextOrder := rfl
@[simp] theorem State.modBeam_alarms (s : State) (k : Lane) (x : Beam) (f : BeamState → BeamState) : (s.modBeam k x f).alarms = s.alarms := rfl
@[simp] theorem State.modBeam_lines (s : State) (k : Lane) (x : Beam) (f : BeamState → BeamState) : (s.modBeam k x f).lines = s.lines := rfl
@[simp] theorem State.modBeam_routes (s : State) (k : Lane) (x : Beam) (f : BeamState → BeamState) : (s.modBeam k x f).routes = s.routes := rfl
@[simp] theorem State.modBeam_speed (s : State) (k : Lane) (x : Beam) (f : BeamState → BeamState) : (s.modBeam k x f).speed = s.speed := rfl
@[simp] theorem State.modBeam_rx (s : State) (k : Lane) (x : Beam) (f : BeamState → BeamState) : (s.modBeam k x f).rx = s.rx := rfl
@[simp] theorem State.modBeam_gap (s : State) (k : Lane) (x : Beam) (f : BeamState → BeamState) : (s.modBeam k x f).gap = s.gap := rfl
@[simp] theorem State.modBeam_buffers (s : State) (k : Lane) (x : Beam) (f : BeamState → BeamState) : (s.modBeam k x f).buffers = s.buffers := rfl
@[simp] theorem State.modBeam_reply (s : State) (k : Lane) (x : Beam) (f : BeamState → BeamState) : (s.modBeam k x f).reply = s.reply := rfl
@[simp] theorem State.modBeam_sending (s : State) (k : Lane) (x : Beam) (f : BeamState → BeamState) : (s.modBeam k x f).sending = s.sending := rfl
@[simp] theorem State.modBeam_notices (s : State) (k : Lane) (x : Beam) (f : BeamState → BeamState) : (s.modBeam k x f).notices = s.notices := rfl
@[simp] theorem State.modBeam_reports (s : State) (k : Lane) (x : Beam) (f : BeamState → BeamState) : (s.modBeam k x f).reports = s.reports := rfl
@[simp] theorem State.modBeam_linked (s : State) (k : Lane) (x : Beam) (f : BeamState → BeamState) : (s.modBeam k x f).linked = s.linked := rfl
@[simp] theorem State.modBeam_silence (s : State) (k : Lane) (x : Beam) (f : BeamState → BeamState) : (s.modBeam k x f).silence = s.silence := rfl
@[simp] theorem State.modBeam_restartPending (s : State) (k : Lane) (x : Beam) (f : BeamState → BeamState) : (s.modBeam k x f).restartPending = s.restartPending := rfl
@[simp] theorem State.modBeam_device (s : State) (k : Lane) (x : Beam) (f : BeamState → BeamState) : (s.modBeam k x f).device = s.device := rfl

end Sys2Proof.Machine
end

