-- ==== Sys2Proof/Laws/Frames.lean ====
section
/-! SUPPORT. What each shared operation can change: frame relations over the state, each with its transitivity and the fields
that it keeps, and one lemma per operation that says in which frame it stays. -/

namespace Sys2Proof.Machine

/-! ### The relations -/

/-- Only the output lines differ. -/
def LineFrame (s t : State) : Prop :=
  t = { s with
        lines := t.lines }

theorem LineFrame.refl (s : State) : LineFrame s s := rfl

theorem LineFrame.trans {s t u : State} (h : LineFrame s t) (k : LineFrame t u) : LineFrame s u := by
  cases s; cases t; cases u; simp_all [LineFrame]

theorem LineFrame.pending {s t : State} (h : LineFrame s t) : t.pending = s.pending := by rw [h]
theorem LineFrame.gateTime {s t : State} (h : LineFrame s t) : t.gateTime = s.gateTime := by rw [h]
theorem LineFrame.restartCause {s t : State} (h : LineFrame s t) : t.restartCause = s.restartCause := by rw [h]
theorem LineFrame.params {s t : State} (h : LineFrame s t) : t.params = s.params := by rw [h]
theorem LineFrame.beams {s t : State} (h : LineFrame s t) : t.beams = s.beams := by rw [h]
theorem LineFrame.key {s t : State} (h : LineFrame s t) : t.key = s.key := by rw [h]
theorem LineFrame.trackers {s t : State} (h : LineFrame s t) : t.trackers = s.trackers := by rw [h]
theorem LineFrame.passages {s t : State} (h : LineFrame s t) : t.passages = s.passages := by rw [h]
theorem LineFrame.nextPassage {s t : State} (h : LineFrame s t) : t.nextPassage = s.nextPassage := by rw [h]
theorem LineFrame.counts {s t : State} (h : LineFrame s t) : t.counts = s.counts := by rw [h]
theorem LineFrame.grant {s t : State} (h : LineFrame s t) : t.grant = s.grant := by rw [h]
theorem LineFrame.lastGranted {s t : State} (h : LineFrame s t) : t.lastGranted = s.lastGranted := by rw [h]
theorem LineFrame.lastBackground {s t : State} (h : LineFrame s t) : t.lastBackground = s.lastBackground := by rw [h]
theorem LineFrame.bgTimer {s t : State} (h : LineFrame s t) : t.bgTimer = s.bgTimer := by rw [h]
theorem LineFrame.antennas {s t : State} (h : LineFrame s t) : t.antennas = s.antennas := by rw [h]
theorem LineFrame.engine {s t : State} (h : LineFrame s t) : t.engine = s.engine := by rw [h]
theorem LineFrame.round {s t : State} (h : LineFrame s t) : t.round = s.round := by rw [h]
theorem LineFrame.field {s t : State} (h : LineFrame s t) : t.field = s.field := by rw [h]
theorem LineFrame.air {s t : State} (h : LineFrame s t) : t.air = s.air := by rw [h]
theorem LineFrame.storedExp {s t : State} (h : LineFrame s t) : t.storedExp = s.storedExp := by rw [h]
theorem LineFrame.rates {s t : State} (h : LineFrame s t) : t.rates = s.rates := by rw [h]
theorem LineFrame.owner {s t : State} (h : LineFrame s t) : t.owner = s.owner := by rw [h]
theorem LineFrame.linkCounters {s t : State} (h : LineFrame s t) : t.linkCounters = s.linkCounters := by rw [h]
theorem LineFrame.intake {s t : State} (h : LineFrame s t) : t.intake = s.intake := by rw [h]
theorem LineFrame.sightings {s t : State} (h : LineFrame s t) : t.sightings = s.sightings := by rw [h]
theorem LineFrame.classes {s t : State} (h : LineFrame s t) : t.classes = s.classes := by rw [h]
theorem LineFrame.loans {s t : State} (h : LineFrame s t) : t.loans = s.loans := by rw [h]
theorem LineFrame.slots {s t : State} (h : LineFrame s t) : t.slots = s.slots := by rw [h]
theorem LineFrame.waiting {s t : State} (h : LineFrame s t) : t.waiting = s.waiting := by rw [h]
theorem LineFrame.nextOrder {s t : State} (h : LineFrame s t) : t.nextOrder = s.nextOrder := by rw [h]
theorem LineFrame.alarms {s t : State} (h : LineFrame s t) : t.alarms = s.alarms := by rw [h]
theorem LineFrame.routes {s t : State} (h : LineFrame s t) : t.routes = s.routes := by rw [h]
theorem LineFrame.speed {s t : State} (h : LineFrame s t) : t.speed = s.speed := by rw [h]
theorem LineFrame.rx {s t : State} (h : LineFrame s t) : t.rx = s.rx := by rw [h]
theorem LineFrame.gap {s t : State} (h : LineFrame s t) : t.gap = s.gap := by rw [h]
theorem LineFrame.buffers {s t : State} (h : LineFrame s t) : t.buffers = s.buffers := by rw [h]
theorem LineFrame.reply {s t : State} (h : LineFrame s t) : t.reply = s.reply := by rw [h]
theorem LineFrame.sending {s t : State} (h : LineFrame s t) : t.sending = s.sending := by rw [h]
theorem LineFrame.notices {s t : State} (h : LineFrame s t) : t.notices = s.notices := by rw [h]
theorem LineFrame.reports {s t : State} (h : LineFrame s t) : t.reports = s.reports := by rw [h]
theorem LineFrame.linked {s t : State} (h : LineFrame s t) : t.linked = s.linked := by rw [h]
theorem LineFrame.silence {s t : State} (h : LineFrame s t) : t.silence = s.silence := by rw [h]
theorem LineFrame.restartPending {s t : State} (h : LineFrame s t) : t.restartPending = s.restartPending := by rw [h]
theorem LineFrame.device {s t : State} (h : LineFrame s t) : t.device = s.device := by rw [h]

/-- Only what waits for the line and what is sent differ, and the device counters. -/
def SendFrame (s t : State) : Prop :=
  t = { s with
        reply := t.reply, sending := t.sending, slots := t.slots, notices := t.notices, reports := t.reports,
        device := t.device }

theorem SendFrame.refl (s : State) : SendFrame s s := rfl

theorem SendFrame.trans {s t u : State} (h : SendFrame s t) (k : SendFrame t u) : SendFrame s u := by
  cases s; cases t; cases u; simp_all [SendFrame]

theorem SendFrame.pending {s t : State} (h : SendFrame s t) : t.pending = s.pending := by rw [h]
theorem SendFrame.gateTime {s t : State} (h : SendFrame s t) : t.gateTime = s.gateTime := by rw [h]
theorem SendFrame.restartCause {s t : State} (h : SendFrame s t) : t.restartCause = s.restartCause := by rw [h]
theorem SendFrame.params {s t : State} (h : SendFrame s t) : t.params = s.params := by rw [h]
theorem SendFrame.beams {s t : State} (h : SendFrame s t) : t.beams = s.beams := by rw [h]
theorem SendFrame.key {s t : State} (h : SendFrame s t) : t.key = s.key := by rw [h]
theorem SendFrame.trackers {s t : State} (h : SendFrame s t) : t.trackers = s.trackers := by rw [h]
theorem SendFrame.passages {s t : State} (h : SendFrame s t) : t.passages = s.passages := by rw [h]
theorem SendFrame.nextPassage {s t : State} (h : SendFrame s t) : t.nextPassage = s.nextPassage := by rw [h]
theorem SendFrame.counts {s t : State} (h : SendFrame s t) : t.counts = s.counts := by rw [h]
theorem SendFrame.grant {s t : State} (h : SendFrame s t) : t.grant = s.grant := by rw [h]
theorem SendFrame.lastGranted {s t : State} (h : SendFrame s t) : t.lastGranted = s.lastGranted := by rw [h]
theorem SendFrame.lastBackground {s t : State} (h : SendFrame s t) : t.lastBackground = s.lastBackground := by rw [h]
theorem SendFrame.bgTimer {s t : State} (h : SendFrame s t) : t.bgTimer = s.bgTimer := by rw [h]
theorem SendFrame.antennas {s t : State} (h : SendFrame s t) : t.antennas = s.antennas := by rw [h]
theorem SendFrame.engine {s t : State} (h : SendFrame s t) : t.engine = s.engine := by rw [h]
theorem SendFrame.round {s t : State} (h : SendFrame s t) : t.round = s.round := by rw [h]
theorem SendFrame.field {s t : State} (h : SendFrame s t) : t.field = s.field := by rw [h]
theorem SendFrame.air {s t : State} (h : SendFrame s t) : t.air = s.air := by rw [h]
theorem SendFrame.storedExp {s t : State} (h : SendFrame s t) : t.storedExp = s.storedExp := by rw [h]
theorem SendFrame.rates {s t : State} (h : SendFrame s t) : t.rates = s.rates := by rw [h]
theorem SendFrame.owner {s t : State} (h : SendFrame s t) : t.owner = s.owner := by rw [h]
theorem SendFrame.linkCounters {s t : State} (h : SendFrame s t) : t.linkCounters = s.linkCounters := by rw [h]
theorem SendFrame.intake {s t : State} (h : SendFrame s t) : t.intake = s.intake := by rw [h]
theorem SendFrame.sightings {s t : State} (h : SendFrame s t) : t.sightings = s.sightings := by rw [h]
theorem SendFrame.classes {s t : State} (h : SendFrame s t) : t.classes = s.classes := by rw [h]
theorem SendFrame.loans {s t : State} (h : SendFrame s t) : t.loans = s.loans := by rw [h]
theorem SendFrame.waiting {s t : State} (h : SendFrame s t) : t.waiting = s.waiting := by rw [h]
theorem SendFrame.nextOrder {s t : State} (h : SendFrame s t) : t.nextOrder = s.nextOrder := by rw [h]
theorem SendFrame.alarms {s t : State} (h : SendFrame s t) : t.alarms = s.alarms := by rw [h]
theorem SendFrame.lines {s t : State} (h : SendFrame s t) : t.lines = s.lines := by rw [h]
theorem SendFrame.routes {s t : State} (h : SendFrame s t) : t.routes = s.routes := by rw [h]
theorem SendFrame.speed {s t : State} (h : SendFrame s t) : t.speed = s.speed := by rw [h]
theorem SendFrame.rx {s t : State} (h : SendFrame s t) : t.rx = s.rx := by rw [h]
theorem SendFrame.gap {s t : State} (h : SendFrame s t) : t.gap = s.gap := by rw [h]
theorem SendFrame.buffers {s t : State} (h : SendFrame s t) : t.buffers = s.buffers := by rw [h]
theorem SendFrame.linked {s t : State} (h : SendFrame s t) : t.linked = s.linked := by rw [h]
theorem SendFrame.silence {s t : State} (h : SendFrame s t) : t.silence = s.silence := by rw [h]
theorem SendFrame.restartPending {s t : State} (h : SendFrame s t) : t.restartPending = s.restartPending := by rw [h]

/-- Only the state of arbiter, antennas, engine and round differs. -/
def RadioFrame (s t : State) : Prop :=
  t = { s with
        grant := t.grant, lastGranted := t.lastGranted, lastBackground := t.lastBackground, bgTimer := t.bgTimer,
        antennas := t.antennas, engine := t.engine, round := t.round, field := t.field, linkCounters := t.linkCounters,
        air := t.air, storedExp := t.storedExp }

theorem RadioFrame.refl (s : State) : RadioFrame s s := rfl

theorem RadioFrame.trans {s t u : State} (h : RadioFrame s t) (k : RadioFrame t u) : RadioFrame s u := by
  cases s; cases t; cases u; simp_all [RadioFrame]

theorem RadioFrame.pending {s t : State} (h : RadioFrame s t) : t.pending = s.pending := by rw [h]
theorem RadioFrame.gateTime {s t : State} (h : RadioFrame s t) : t.gateTime = s.gateTime := by rw [h]
theorem RadioFrame.restartCause {s t : State} (h : RadioFrame s t) : t.restartCause = s.restartCause := by rw [h]
theorem RadioFrame.params {s t : State} (h : RadioFrame s t) : t.params = s.params := by rw [h]
theorem RadioFrame.beams {s t : State} (h : RadioFrame s t) : t.beams = s.beams := by rw [h]
theorem RadioFrame.key {s t : State} (h : RadioFrame s t) : t.key = s.key := by rw [h]
theorem RadioFrame.trackers {s t : State} (h : RadioFrame s t) : t.trackers = s.trackers := by rw [h]
theorem RadioFrame.passages {s t : State} (h : RadioFrame s t) : t.passages = s.passages := by rw [h]
theorem RadioFrame.nextPassage {s t : State} (h : RadioFrame s t) : t.nextPassage = s.nextPassage := by rw [h]
theorem RadioFrame.counts {s t : State} (h : RadioFrame s t) : t.counts = s.counts := by rw [h]
theorem RadioFrame.rates {s t : State} (h : RadioFrame s t) : t.rates = s.rates := by rw [h]
theorem RadioFrame.owner {s t : State} (h : RadioFrame s t) : t.owner = s.owner := by rw [h]
theorem RadioFrame.intake {s t : State} (h : RadioFrame s t) : t.intake = s.intake := by rw [h]
theorem RadioFrame.sightings {s t : State} (h : RadioFrame s t) : t.sightings = s.sightings := by rw [h]
theorem RadioFrame.classes {s t : State} (h : RadioFrame s t) : t.classes = s.classes := by rw [h]
theorem RadioFrame.loans {s t : State} (h : RadioFrame s t) : t.loans = s.loans := by rw [h]
theorem RadioFrame.slots {s t : State} (h : RadioFrame s t) : t.slots = s.slots := by rw [h]
theorem RadioFrame.waiting {s t : State} (h : RadioFrame s t) : t.waiting = s.waiting := by rw [h]
theorem RadioFrame.nextOrder {s t : State} (h : RadioFrame s t) : t.nextOrder = s.nextOrder := by rw [h]
theorem RadioFrame.alarms {s t : State} (h : RadioFrame s t) : t.alarms = s.alarms := by rw [h]
theorem RadioFrame.lines {s t : State} (h : RadioFrame s t) : t.lines = s.lines := by rw [h]
theorem RadioFrame.routes {s t : State} (h : RadioFrame s t) : t.routes = s.routes := by rw [h]
theorem RadioFrame.speed {s t : State} (h : RadioFrame s t) : t.speed = s.speed := by rw [h]
theorem RadioFrame.rx {s t : State} (h : RadioFrame s t) : t.rx = s.rx := by rw [h]
theorem RadioFrame.gap {s t : State} (h : RadioFrame s t) : t.gap = s.gap := by rw [h]
theorem RadioFrame.buffers {s t : State} (h : RadioFrame s t) : t.buffers = s.buffers := by rw [h]
theorem RadioFrame.reply {s t : State} (h : RadioFrame s t) : t.reply = s.reply := by rw [h]
theorem RadioFrame.sending {s t : State} (h : RadioFrame s t) : t.sending = s.sending := by rw [h]
theorem RadioFrame.notices {s t : State} (h : RadioFrame s t) : t.notices = s.notices := by rw [h]
theorem RadioFrame.reports {s t : State} (h : RadioFrame s t) : t.reports = s.reports := by rw [h]
theorem RadioFrame.linked {s t : State} (h : RadioFrame s t) : t.linked = s.linked := by rw [h]
theorem RadioFrame.silence {s t : State} (h : RadioFrame s t) : t.silence = s.silence := by rw [h]
theorem RadioFrame.restartPending {s t : State} (h : RadioFrame s t) : t.restartPending = s.restartPending := by rw [h]
theorem RadioFrame.device {s t : State} (h : RadioFrame s t) : t.device = s.device := by rw [h]

/-- Only what judging, alarms, questions and completions write differs. -/
def CheckFrame (s t : State) : Prop :=
  t = { s with
        passages := t.passages, counts := t.counts, alarms := t.alarms, waiting := t.waiting, nextOrder := t.nextOrder,
        reply := t.reply, sending := t.sending, slots := t.slots, notices := t.notices, reports := t.reports,
        device := t.device }

theorem CheckFrame.refl (s : State) : CheckFrame s s := rfl

theorem CheckFrame.trans {s t u : State} (h : CheckFrame s t) (k : CheckFrame t u) : CheckFrame s u := by
  cases s; cases t; cases u; simp_all [CheckFrame]

theorem CheckFrame.pending {s t : State} (h : CheckFrame s t) : t.pending = s.pending := by rw [h]
theorem CheckFrame.gateTime {s t : State} (h : CheckFrame s t) : t.gateTime = s.gateTime := by rw [h]
theorem CheckFrame.restartCause {s t : State} (h : CheckFrame s t) : t.restartCause = s.restartCause := by rw [h]
theorem CheckFrame.params {s t : State} (h : CheckFrame s t) : t.params = s.params := by rw [h]
theorem CheckFrame.beams {s t : State} (h : CheckFrame s t) : t.beams = s.beams := by rw [h]
theorem CheckFrame.key {s t : State} (h : CheckFrame s t) : t.key = s.key := by rw [h]
theorem CheckFrame.trackers {s t : State} (h : CheckFrame s t) : t.trackers = s.trackers := by rw [h]
theorem CheckFrame.nextPassage {s t : State} (h : CheckFrame s t) : t.nextPassage = s.nextPassage := by rw [h]
theorem CheckFrame.grant {s t : State} (h : CheckFrame s t) : t.grant = s.grant := by rw [h]
theorem CheckFrame.lastGranted {s t : State} (h : CheckFrame s t) : t.lastGranted = s.lastGranted := by rw [h]
theorem CheckFrame.lastBackground {s t : State} (h : CheckFrame s t) : t.lastBackground = s.lastBackground := by rw [h]
theorem CheckFrame.bgTimer {s t : State} (h : CheckFrame s t) : t.bgTimer = s.bgTimer := by rw [h]
theorem CheckFrame.antennas {s t : State} (h : CheckFrame s t) : t.antennas = s.antennas := by rw [h]
theorem CheckFrame.engine {s t : State} (h : CheckFrame s t) : t.engine = s.engine := by rw [h]
theorem CheckFrame.round {s t : State} (h : CheckFrame s t) : t.round = s.round := by rw [h]
theorem CheckFrame.field {s t : State} (h : CheckFrame s t) : t.field = s.field := by rw [h]
theorem CheckFrame.air {s t : State} (h : CheckFrame s t) : t.air = s.air := by rw [h]
theorem CheckFrame.storedExp {s t : State} (h : CheckFrame s t) : t.storedExp = s.storedExp := by rw [h]
theorem CheckFrame.rates {s t : State} (h : CheckFrame s t) : t.rates = s.rates := by rw [h]
theorem CheckFrame.owner {s t : State} (h : CheckFrame s t) : t.owner = s.owner := by rw [h]
theorem CheckFrame.linkCounters {s t : State} (h : CheckFrame s t) : t.linkCounters = s.linkCounters := by rw [h]
theorem CheckFrame.intake {s t : State} (h : CheckFrame s t) : t.intake = s.intake := by rw [h]
theorem CheckFrame.sightings {s t : State} (h : CheckFrame s t) : t.sightings = s.sightings := by rw [h]
theorem CheckFrame.classes {s t : State} (h : CheckFrame s t) : t.classes = s.classes := by rw [h]
theorem CheckFrame.loans {s t : State} (h : CheckFrame s t) : t.loans = s.loans := by rw [h]
theorem CheckFrame.lines {s t : State} (h : CheckFrame s t) : t.lines = s.lines := by rw [h]
theorem CheckFrame.routes {s t : State} (h : CheckFrame s t) : t.routes = s.routes := by rw [h]
theorem CheckFrame.speed {s t : State} (h : CheckFrame s t) : t.speed = s.speed := by rw [h]
theorem CheckFrame.rx {s t : State} (h : CheckFrame s t) : t.rx = s.rx := by rw [h]
theorem CheckFrame.gap {s t : State} (h : CheckFrame s t) : t.gap = s.gap := by rw [h]
theorem CheckFrame.buffers {s t : State} (h : CheckFrame s t) : t.buffers = s.buffers := by rw [h]
theorem CheckFrame.linked {s t : State} (h : CheckFrame s t) : t.linked = s.linked := by rw [h]
theorem CheckFrame.silence {s t : State} (h : CheckFrame s t) : t.silence = s.silence := by rw [h]
theorem CheckFrame.restartPending {s t : State} (h : CheckFrame s t) : t.restartPending = s.restartPending := by rw [h]

/-- Only what passages, attribution and judging write differs. -/
def GateFrame (s t : State) : Prop :=
  t = { s with
        sightings := t.sightings, nextPassage := t.nextPassage, passages := t.passages, counts := t.counts,
        alarms := t.alarms, waiting := t.waiting, nextOrder := t.nextOrder, reply := t.reply, sending := t.sending,
        slots := t.slots, notices := t.notices, reports := t.reports, device := t.device }

theorem GateFrame.refl (s : State) : GateFrame s s := rfl

theorem GateFrame.trans {s t u : State} (h : GateFrame s t) (k : GateFrame t u) : GateFrame s u := by
  cases s; cases t; cases u; simp_all [GateFrame]

theorem GateFrame.pending {s t : State} (h : GateFrame s t) : t.pending = s.pending := by rw [h]
theorem GateFrame.gateTime {s t : State} (h : GateFrame s t) : t.gateTime = s.gateTime := by rw [h]
theorem GateFrame.restartCause {s t : State} (h : GateFrame s t) : t.restartCause = s.restartCause := by rw [h]
theorem GateFrame.params {s t : State} (h : GateFrame s t) : t.params = s.params := by rw [h]
theorem GateFrame.beams {s t : State} (h : GateFrame s t) : t.beams = s.beams := by rw [h]
theorem GateFrame.key {s t : State} (h : GateFrame s t) : t.key = s.key := by rw [h]
theorem GateFrame.trackers {s t : State} (h : GateFrame s t) : t.trackers = s.trackers := by rw [h]
theorem GateFrame.grant {s t : State} (h : GateFrame s t) : t.grant = s.grant := by rw [h]
theorem GateFrame.lastGranted {s t : State} (h : GateFrame s t) : t.lastGranted = s.lastGranted := by rw [h]
theorem GateFrame.lastBackground {s t : State} (h : GateFrame s t) : t.lastBackground = s.lastBackground := by rw [h]
theorem GateFrame.bgTimer {s t : State} (h : GateFrame s t) : t.bgTimer = s.bgTimer := by rw [h]
theorem GateFrame.antennas {s t : State} (h : GateFrame s t) : t.antennas = s.antennas := by rw [h]
theorem GateFrame.engine {s t : State} (h : GateFrame s t) : t.engine = s.engine := by rw [h]
theorem GateFrame.round {s t : State} (h : GateFrame s t) : t.round = s.round := by rw [h]
theorem GateFrame.field {s t : State} (h : GateFrame s t) : t.field = s.field := by rw [h]
theorem GateFrame.air {s t : State} (h : GateFrame s t) : t.air = s.air := by rw [h]
theorem GateFrame.storedExp {s t : State} (h : GateFrame s t) : t.storedExp = s.storedExp := by rw [h]
theorem GateFrame.rates {s t : State} (h : GateFrame s t) : t.rates = s.rates := by rw [h]
theorem GateFrame.owner {s t : State} (h : GateFrame s t) : t.owner = s.owner := by rw [h]
theorem GateFrame.linkCounters {s t : State} (h : GateFrame s t) : t.linkCounters = s.linkCounters := by rw [h]
theorem GateFrame.intake {s t : State} (h : GateFrame s t) : t.intake = s.intake := by rw [h]
theorem GateFrame.classes {s t : State} (h : GateFrame s t) : t.classes = s.classes := by rw [h]
theorem GateFrame.loans {s t : State} (h : GateFrame s t) : t.loans = s.loans := by rw [h]
theorem GateFrame.lines {s t : State} (h : GateFrame s t) : t.lines = s.lines := by rw [h]
theorem GateFrame.routes {s t : State} (h : GateFrame s t) : t.routes = s.routes := by rw [h]
theorem GateFrame.speed {s t : State} (h : GateFrame s t) : t.speed = s.speed := by rw [h]
theorem GateFrame.rx {s t : State} (h : GateFrame s t) : t.rx = s.rx := by rw [h]
theorem GateFrame.gap {s t : State} (h : GateFrame s t) : t.gap = s.gap := by rw [h]
theorem GateFrame.buffers {s t : State} (h : GateFrame s t) : t.buffers = s.buffers := by rw [h]
theorem GateFrame.linked {s t : State} (h : GateFrame s t) : t.linked = s.linked := by rw [h]
theorem GateFrame.silence {s t : State} (h : GateFrame s t) : t.silence = s.silence := by rw [h]
theorem GateFrame.restartPending {s t : State} (h : GateFrame s t) : t.restartPending = s.restartPending := by rw [h]

/-- Only what an event of the gate or of the radio writes differs. -/
def EventFrame (s t : State) : Prop :=
  t = { s with
        trackers := t.trackers, beams := t.beams, intake := t.intake, lines := t.lines, sightings := t.sightings,
        nextPassage := t.nextPassage, passages := t.passages, counts := t.counts, alarms := t.alarms,
        waiting := t.waiting, nextOrder := t.nextOrder, reply := t.reply, sending := t.sending, slots := t.slots,
        notices := t.notices, reports := t.reports, device := t.device, grant := t.grant, lastGranted := t.lastGranted,
        lastBackground := t.lastBackground, bgTimer := t.bgTimer, antennas := t.antennas, engine := t.engine,
        round := t.round, field := t.field, linkCounters := t.linkCounters, air := t.air, storedExp := t.storedExp }

theorem EventFrame.refl (s : State) : EventFrame s s := rfl

theorem EventFrame.trans {s t u : State} (h : EventFrame s t) (k : EventFrame t u) : EventFrame s u := by
  cases s; cases t; cases u; simp_all [EventFrame]

theorem EventFrame.pending {s t : State} (h : EventFrame s t) : t.pending = s.pending := by rw [h]
theorem EventFrame.gateTime {s t : State} (h : EventFrame s t) : t.gateTime = s.gateTime := by rw [h]
theorem EventFrame.restartCause {s t : State} (h : EventFrame s t) : t.restartCause = s.restartCause := by rw [h]
theorem EventFrame.params {s t : State} (h : EventFrame s t) : t.params = s.params := by rw [h]
theorem EventFrame.key {s t : State} (h : EventFrame s t) : t.key = s.key := by rw [h]
theorem EventFrame.rates {s t : State} (h : EventFrame s t) : t.rates = s.rates := by rw [h]
theorem EventFrame.owner {s t : State} (h : EventFrame s t) : t.owner = s.owner := by rw [h]
theorem EventFrame.classes {s t : State} (h : EventFrame s t) : t.classes = s.classes := by rw [h]
theorem EventFrame.loans {s t : State} (h : EventFrame s t) : t.loans = s.loans := by rw [h]
theorem EventFrame.routes {s t : State} (h : EventFrame s t) : t.routes = s.routes := by rw [h]
theorem EventFrame.speed {s t : State} (h : EventFrame s t) : t.speed = s.speed := by rw [h]
theorem EventFrame.rx {s t : State} (h : EventFrame s t) : t.rx = s.rx := by rw [h]
theorem EventFrame.gap {s t : State} (h : EventFrame s t) : t.gap = s.gap := by rw [h]
theorem EventFrame.buffers {s t : State} (h : EventFrame s t) : t.buffers = s.buffers := by rw [h]
theorem EventFrame.linked {s t : State} (h : EventFrame s t) : t.linked = s.linked := by rw [h]
theorem EventFrame.silence {s t : State} (h : EventFrame s t) : t.silence = s.silence := by rw [h]
theorem EventFrame.restartPending {s t : State} (h : EventFrame s t) : t.restartPending = s.restartPending := by rw [h]

theorem SendFrame.check {s t : State} (h : SendFrame s t) : CheckFrame s t := by
  cases s; cases t; simp_all [SendFrame, CheckFrame]

theorem CheckFrame.gate {s t : State} (h : CheckFrame s t) : GateFrame s t := by
  cases s; cases t; simp_all [CheckFrame, GateFrame]

theorem SendFrame.gate {s t : State} (h : SendFrame s t) : GateFrame s t := h.check.gate

theorem GateFrame.event {s t : State} (h : GateFrame s t) : EventFrame s t := by
  cases s; cases t; simp_all [GateFrame, EventFrame]

theorem RadioFrame.event {s t : State} (h : RadioFrame s t) : EventFrame s t := by
  cases s; cases t; simp_all [RadioFrame, EventFrame]

theorem LineFrame.event {s t : State} (h : LineFrame s t) : EventFrame s t := by
  cases s; cases t; simp_all [LineFrame, EventFrame]

/-! ### Lines and transmitter -/

theorem recomputeLines_frame (s : State) : LineFrame s s.recomputeLines := rfl

@[simp] theorem perLine_getElem {α : Type} (f : OutLine → α) (l : OutLine) : (perLine f)[l.val] = f l := by
  fin_cases l <;> rfl

@[simp] theorem perLane_getElem {α : Type} (f : Lane → α) (k : Lane) : (perLane f)[k.val] = f k := by
  fin_cases k <;> rfl

theorem recomputeLines_line (s : State) (l : OutLine) :
    s.recomputeLines.lines[l] = s.lines[l].follow (s.lineDriven l) s.gateTime (s.retriggered l) :=
  perLine_getElem _ l

/-- A line whose activity is as it is driven stays as it is (R147). -/
theorem follow_of_agrees (l : LineState) (driven : Bool) (now : Time) (keeps : Resume → Bool) (h : l.active = driven) :
    l.follow driven now keeps = l := by
  subst h; unfold LineState.follow; split <;> simp_all

/-- A line left by its last source is OFF and inactive, and its phase is lost (R147, R148). -/
theorem follow_of_left (l : LineState) (now : Time) (keeps : Resume → Bool) (h : l.active = true) :
    l.follow false now keeps = { l with active := false, level := false, pulse := none, resume := none } := by
  simp [LineState.follow, h]

/-- A line that becomes active starts afresh unless a noted phase is kept (R138, R147). -/
theorem follow_of_joined (l : LineState) (now : Time) (keeps : Resume → Bool) (h : l.active = false)
    (hk : ∀ r ∈ l.resume, l.pulsed = true → keeps r = false) : l.follow true now keeps = l.start now := by
  unfold LineState.follow
  rw [h]
  cases hr : l.resume with
  | none => rfl
  | some r =>
    have := hk r (by simp [hr])
    cases hp : l.pulsed <;> simp_all

/-- As gate time rises only it and the noted phases change (R184, log entry 11). -/
@[simp] theorem tick_gateTime (s : State) : s.tick.gateTime = s.gateTime + 1 := rfl

theorem tick_line (s : State) (l : OutLine) : s.tick.lines[l] = { s.lines[l] with resume := none } :=
  perLine_getElem _ l

theorem tick_frame (s : State) : LineFrame { s with gateTime := s.gateTime + 1 } s.tick := rfl

/-- With ALARM_LATCH at 1 an alarm timer's expiry notes no phase (R138, R140). -/
theorem alarmTimerExpiry_latched (s : State) (k : Lane) (h : fires s.alarms[k].timer s.gateTime = true)
    (hl : s.params.alarmLatch = true) :
    alarmTimerExpiry k s = (s.setAlarm k ⟨.latched, none⟩).recomputeLines := by
  unfold alarmTimerExpiry
  rw [if_pos h]
  simp [hl]

theorem arbitrateTx_frame (s : State) : SendFrame s s.arbitrateTx := by
  unfold State.arbitrateTx
  split
  · exact .refl s
  · split
    · rfl
    · split
      · rfl
      · split <;> rfl

theorem queueNotice_frame (s : State) (b : Body) : SendFrame s (s.queueNotice b) := by
  unfold State.queueNotice
  split
  · exact SendFrame.trans (t := { s with notices := s.notices ++ [b] }) rfl (arbitrateTx_frame _)
  · rfl

theorem queueReport_frame (s : State) (b : Body) : SendFrame s (s.queueReport b) := by
  unfold State.queueReport
  split
  · exact SendFrame.trans (t := { s with reports := s.reports ++ [b] }) rfl (arbitrateTx_frame _)
  · rfl

theorem placeReply_frame (s : State) (b : Body) : SendFrame s (s.placeReply b) :=
  SendFrame.trans (t := { s with reply := some b }) rfl (arbitrateTx_frame _)

/-! ### Radio -/

theorem startRound_frame (s : State) (a : Antenna) (l : GrantLabel) : RadioFrame s (s.startRound a l) := rfl

theorem closeRound_frame (s : State) (r : Round) (c : EndCause) : RadioFrame s (s.closeRound r c) := rfl

theorem openSlot_frame (s : State) (r : Round) : RadioFrame s (s.openSlot r) := by
  unfold State.openSlot
  split
  · split <;> rfl
  · rfl

theorem readRemoved_frame (s : State) : RadioFrame s s.readRemoved := by
  unfold State.readRemoved
  split
  · exact openSlot_frame _ _
  · exact .refl s

theorem closeFrame_frame (s : State) (r : Round) : RadioFrame s (s.closeFrame r) := by
  unfold State.closeFrame
  simp only []
  split
  · rfl
  · split
    · rfl
    · exact openSlot_frame _ _

theorem grantTo_frame (s : State) (a : Antenna) (l : GrantLabel) : RadioFrame s (s.grantTo a l) := by
  cases l <;> rfl

theorem choose_frame (s : State) : RadioFrame s s.choose := by
  unfold State.choose
  split
  · split
    · exact grantTo_frame _ _ _
    · exact .refl s
  · exact .refl s

theorem restartBackground_frame (s : State) : RadioFrame s s.restartBackground :=
  RadioFrame.trans (t := { s with bgTimer := _ }) rfl (choose_frame _)

theorem withdrawBeyondLanes_frame (s : State) : RadioFrame s s.withdrawBeyondLanes := by
  unfold State.withdrawBeyondLanes
  split
  · split
    · rfl
    · exact .refl s
  · exact .refl s

theorem endEvent_frame (s s0 : State) : EventFrame s (s.endEvent s0) := by
  unfold State.endEvent
  split
  · exact (choose_frame s).event.trans (recomputeLines_frame _).event
  · exact (recomputeLines_frame _).event

/-! ### Check unit -/

theorem firstAlarm_frame (s : State) (p : Passage) (r : Reason) (i : Option ItemNo) :
    CheckFrame s (s.firstAlarm p r i) := by
  unfold State.firstAlarm
  simp only []
  split
  · rfl
  · exact CheckFrame.trans (t := (s.modPassage p.number _).modCounts p.lane _) rfl (queueNotice_frame _ _).check

theorem passageAlarm_frame (s : State) (n : Nat) (r : Reason) (i : Option ItemNo) :
    CheckFrame s (s.passageAlarm n r i) := by
  unfold State.passageAlarm
  split
  · exact .refl s
  · rename_i p _
    simp only []
    have h : CheckFrame s (if (p.judging.map (·.mark)).getD false then s else s.firstAlarm p r i) := by
      split
      · exact .refl s
      · exact firstAlarm_frame _ _ _ _
    split
    · exact h
    · exact h.trans rfl

theorem giveVerdict_frame (s : State) (ref : ItemRef) (v : Verdict) (r : Reason) :
    CheckFrame s (s.giveVerdict ref v r) := by
  unfold State.giveVerdict
  split
  · exact .refl s
  · split
    · exact .refl s
    · simp only []
      split
      · exact CheckFrame.trans (t := (s.modItem ref _).modPassage ref.passage _) rfl (passageAlarm_frame _ _ _ _)
      · rfl

theorem giveFallback_frame (s : State) (ref : ItemRef) (r : Reason) : CheckFrame s (s.giveFallback ref r) := by
  unfold State.giveFallback
  split
  · exact giveVerdict_frame _ _ _ _
  · exact .refl s

theorem completeIfDone_frame (s : State) (n : Nat) : CheckFrame s (s.completeIfDone n) := by
  unfold State.completeIfDone
  split
  · exact .refl s
  · split
    · exact (queueReport_frame s _).check.trans rfl
    · exact .refl s

theorem takeSlot_frame (s : State) (ref : ItemRef) (j : SlotNo) : CheckFrame s (s.takeSlot ref j) := by
  unfold State.takeSlot
  split
  · exact CheckFrame.trans
      (t := ({ s.setSlot j _ with nextOrder := s.nextOrder + 1 } : State).modItem ref _) rfl (arbitrateTx_frame _).check
  · exact .refl s

theorem askAbout_frame (s : State) (ref : ItemRef) : CheckFrame s (s.askAbout ref) := by
  unfold State.askAbout
  split
  · exact takeSlot_frame _ _ _
  · rfl

theorem freeSlot_frame (s : State) (j : SlotNo) : CheckFrame s (s.freeSlot j) := by
  unfold State.freeSlot
  split
  · rfl
  · exact .refl s

theorem handOn_frame (n : Nat) (s : State) : CheckFrame s (State.handOn n s) := by
  induction n generalizing s with
  | zero => exact .refl s
  | succ n ih =>
    unfold State.handOn
    split
    · split
      · rename_i ref rest j _ _ _
        exact (CheckFrame.trans (t := { s with waiting := rest }) rfl (takeSlot_frame _ _ _)).trans (ih _)
      · exact .refl s
    · exact .refl s

theorem handSlotsOn_frame (s : State) : CheckFrame s s.handSlotsOn := handOn_frame 4 s

theorem judgeItem_frame (s : State) (d : Direction) (ref : ItemRef) : CheckFrame s (s.judgeItem d ref) := by
  unfold State.judgeItem
  split
  · exact .refl s
  · split
    · split
      · exact giveVerdict_frame _ _ _ _
      · exact askAbout_frame _ _
    · exact giveVerdict_frame _ _ _ _

theorem judgeItems_frame (n : Nat) (d : Direction) (l : List Nat) (s : State) : CheckFrame s (judgeItems n d l s) := by
  induction l generalizing s with
  | nil => exact .refl s
  | cons i is ih => exact (judgeItem_frame s d _).trans (ih _)

theorem judge_frame (s : State) (n : Nat) : CheckFrame s (s.judge n) := by
  unfold State.judge
  split
  · exact .refl s
  · simp only []
    refine CheckFrame.trans ?_ (judgeItems_frame _ _ _ _)
    split
    · exact CheckFrame.trans (t := s.modPassage n _) rfl (passageAlarm_frame _ _ _ _)
    · rfl

theorem resolveSlot_frame (s : State) (j : SlotNo) (q : Question) (v : Verdict) (r : Reason) :
    CheckFrame s (s.resolveSlot j q v r) :=
  (((freeSlot_frame s j).trans (giveVerdict_frame _ _ _ _)).trans (completeIfDone_frame _ _)).trans (handSlotsOn_frame _)

theorem resolveSlots_frame (l : List (SlotNo × Question)) (s : State) : CheckFrame s (resolveSlots l s) := by
  induction l generalizing s with
  | nil => exact .refl s
  | cons x l ih =>
    exact (((freeSlot_frame s x.1).trans (giveFallback_frame _ _ _)).trans (completeIfDone_frame _ _)).trans (ih _)

theorem resolveWaiting_frame (l : List ItemRef) (s : State) : CheckFrame s (resolveWaiting l s) := by
  induction l generalizing s with
  | nil => exact .refl s
  | cons x l ih =>
    exact ((CheckFrame.trans (t := { s with waiting := l }) rfl (giveFallback_frame _ _ _)).trans
      (completeIfDone_frame _ _)).trans (ih _)

theorem resolveStandalone_frame (s : State) : CheckFrame s s.resolveStandalone :=
  (resolveSlots_frame _ s).trans (resolveWaiting_frame _ _)

theorem forceItems_frame (n : Nat) (l : List Nat) (s : State) : CheckFrame s (forceItems n l s) := by
  induction l generalizing s with
  | nil => exact .refl s
  | cons i l ih =>
    unfold forceItems
    split
    · rename_i it _
      split
      · exact ih s
      · simp only []
        have h : CheckFrame s (match it.slot with | some j => s.freeSlot j | none => s) := by
          split
          · exact freeSlot_frame _ _
          · exact .refl s
        exact (h.trans (giveFallback_frame _ _ _)).trans (ih _)
    · exact ih s

theorem withdrawQuestions_frame (s : State) (n : Nat) : CheckFrame s (s.withdrawQuestions n) :=
  (CheckFrame.trans (t := { s with waiting := s.waiting.filter fun r => r.passage != n }) rfl
    (forceItems_frame _ _ _)).trans (handSlotsOn_frame _)

/-! ### Attribution and passages -/

theorem claim_frame (s : State) (i : ItemNo) (n : Nat) (d : Direction) : GateFrame s (s.claim i n d) := by
  unfold State.claim
  split <;> rfl

theorem claimAll_frame (n : Nat) (d : Direction) (l : List Winner) (s : State) (items : List Item) :
    GateFrame s (claimAll n d l s items).1 := by
  induction l generalizing s items with
  | nil => exact .refl s
  | cons w ws ih =>
    unfold claimAll
    split
    · exact (claim_frame _ _ _ _).trans (ih _ _)
    · exact ih _ _

theorem attribute_frame (s : State) (n : Nat) : GateFrame s (s.attribute n) := by
  unfold State.attribute
  split
  · exact .refl s
  · simp only []
    exact (GateFrame.trans (t := s.modDevice _) rfl (claimAll_frame _ _ _ _ _)).trans rfl

theorem settleNow_frame (s : State) (n : Nat) : GateFrame s (s.settleNow n) :=
  ((attribute_frame s n).trans (judge_frame _ n).gate).trans (completeIfDone_frame _ n).gate

theorem closePassage_frame (s : State) (p : Passage) (d : Direction) (e : Time) :
    GateFrame s (s.closePassage p d e) := by
  unfold State.closePassage
  simp only []
  split
  · exact GateFrame.trans (t := (s.modPassage p.number _).modCounts p.lane _) rfl (settleNow_frame _ _)
  · rfl

theorem closeOpen_frame (s : State) (k : Lane) (d : Direction) (e : Time) : GateFrame s (s.closeOpen k d e) := by
  unfold State.closeOpen
  split
  · exact closePassage_frame _ _ _ _
  · exact .refl s

theorem forceCompletion_frame (s : State) (p : Passage) : GateFrame s (s.forceCompletion p) := by
  unfold State.forceCompletion
  simp only []
  have h : GateFrame s (if p.phase = .settling then (s.attribute p.number).judge p.number else s) := by
    split
    · exact (attribute_frame s _).trans (judge_frame _ _).gate
    · exact .refl s
  have k : ∀ t u : State, GateFrame s t → CheckFrame t u → ∀ f g, GateFrame s ((u.modPassage p.number f).modDevice g) :=
    fun t u a b f g => (a.trans b.gate).trans rfl
  split
  · exact ((k _ _ h (withdrawQuestions_frame _ _) _ _).trans (queueReport_frame _ _).gate).trans rfl
  · exact k _ _ h (withdrawQuestions_frame _ _) _ _

theorem makeRoom_frame (s : State) : GateFrame s s.makeRoom := by
  unfold State.makeRoom
  split
  · exact .refl s
  · split
    · exact forceCompletion_frame _ _
    · exact .refl s

theorem openPassage_frame (s : State) (k : Lane) (b : Option Beam) (n : Nat) (e : Time) (p : Option Time) :
    GateFrame s (s.openPassage k b n e p) :=
  (makeRoom_frame s).trans rfl

theorem qualifyingRead_frame (s : State) (k : Lane) (e : Time) : GateFrame s (s.qualifyingRead k e) := by
  unfold State.qualifyingRead
  simp only []
  split
  · exact openPassage_frame _ _ _ _ _ _
  · split <;> rfl

theorem readReported_frame (s : State) (r : Read) (n : Nat) (st : SightState) : GateFrame s (s.readReported r n st) := by
  unfold State.readReported
  suffices h : ∀ (l : List Lane) (t : State), GateFrame s t → GateFrame s (l.foldl (fun t k =>
      if s.trackers[k] == some .fault && Config.presenceStrength ≤ n && st.mayQualify then t.qualifyingRead k r.time
      else t) t) from h _ s (.refl s)
  intro l
  induction l with
  | nil => exact fun _ h => h
  | cons k l ih =>
    intro t h
    refine ih _ ?_
    dsimp only
    split
    · exact h.trans (qualifyingRead_frame _ _ _)
    · exact h

/-! ### Tracker -/

theorem trackBreak_frame (s : State) (k : Lane) (x : Beam) (e : Time) : EventFrame s (s.trackBreak k x e) := by
  unfold State.trackBreak
  split
  · exact EventFrame.trans (t := s.setTracker k _) rfl (openPassage_frame _ _ _ _ _ _).event
  · split <;> rfl
  · split
    · simp only []
      split
      · split <;> rfl
      · rfl
    · rfl
  · rfl

theorem trackClear_frame (s : State) (k : Lane) (x : Beam) (e : Time) : EventFrame s (s.trackClear k x e) := by
  unfold State.trackClear
  split
  · split
    · exact EventFrame.trans (t := s.setTracker k _) rfl (closeOpen_frame _ _ _ _).event
    · rfl
  · split <;> rfl
  · split
    · rfl
    · simp only []
      split
      · exact EventFrame.trans (t := s.setTracker k _) rfl (closePassage_frame _ _ _ _).event
      · rfl
  · split <;> rfl
  · rfl

theorem trackFault_frame (s : State) (k : Lane) (e : Time) : EventFrame s (s.trackFault k e) := by
  unfold State.trackFault
  split
  · rfl
  · exact EventFrame.trans (t := s.setTracker k _) rfl (closeOpen_frame _ _ _ _).event
  · rfl

theorem trackRecovery_frame (s : State) (k : Lane) (e : Time) : EventFrame s (s.trackRecovery k e) := by
  unfold State.trackRecovery
  split
  · split
    · rfl
    · simp only []
      split
      · split
        · exact EventFrame.trans (t := s.setTracker k _) rfl (closePassage_frame _ _ _ _).event
        · rfl
      · rfl
  · rfl

/-! ### Merge of a read, antennas, whole events -/

theorem evictIfFull_frame (s : State) : GateFrame s s.evictIfFull := by
  unfold State.evictIfFull
  split
  · exact .refl s
  · split <;> rfl

theorem mergeRead_frame (s : State) (r : Read) : GateFrame s (s.mergeRead r) := by
  unfold State.mergeRead
  simp only []
  split
  · rfl
  · exact (evictIfFull_frame s).trans rfl

theorem expireAge_frame (s : State) (i : ItemNo) : GateFrame s (s.expireAge i) := by
  unfold State.expireAge
  split
  · split <;> rfl
  · rfl

theorem addLoan_loans_device (s : State) (i : ItemNo) :
    s.addLoan i = { s with loans := (s.addLoan i).loans, device := (s.addLoan i).device } := by
  unfold State.addLoan
  simp only []
  split
  · rfl
  · split <;> rfl

theorem trialSettled_frame (s : State) (a : Antenna) : EventFrame s (s.trialSettled a) :=
  EventFrame.trans (t := (s.modAntenna a _).markPassages) rfl (queueNotice_frame _ _).gate.event

theorem antennaFails_frame (s : State) (a : Antenna) : EventFrame s (s.antennaFails a) :=
  EventFrame.trans (t := (s.modAntenna a _).markPassages) rfl (queueNotice_frame _ _).gate.event

theorem roundEnded_frame (s : State) (a : Antenna) (l : GrantLabel) (c : Option EndCause) :
    EventFrame s (s.roundEnded a l c) := by
  unfold State.roundEnded
  split
  · split
    · rfl
    · exact antennaFails_frame _ _
  · split <;> rfl
  · rfl

theorem issueBreak_frame (s : State) (k : Lane) (x : Beam) (e : Time) : EventFrame s (s.issueBreak k x e) :=
  EventFrame.trans (t := s.modBeam k x _) rfl (trackBreak_frame _ _ _ _)

theorem issueClear_frame (s : State) (k : Lane) (x : Beam) (e : Time) : EventFrame s (s.issueClear k x e) := by
  have h : EventFrame s ((s.modBeam k x fun b => { b with stuck := none }).trackClear k x e) :=
    EventFrame.trans (t := s.modBeam k x _) rfl (trackClear_frame _ _ _ _)
  unfold State.issueClear
  simp only []
  split
  · exact ((h.trans (u := State.modBeam _ k x _) rfl).trans (queueNotice_frame _ _).gate.event).trans
      (trackRecovery_frame _ _ _)
  · exact h

theorem beamFilterExpiry_frame (k : Lane) (x : Beam) (s : State) : EventFrame s (beamFilterExpiry k x s) := by
  unfold beamFilterExpiry
  split
  · split
    · simp only []
      split
      · refine EventFrame.trans ?_ (endEvent_frame _ _)
        split
        · exact EventFrame.trans (t := s.modBeam k x _) rfl (issueBreak_frame _ _ _ _)
        · exact EventFrame.trans (t := s.modBeam k x _) rfl (issueClear_frame _ _ _ _)
      · rfl
    · rfl
  · rfl

theorem stuckTimerExpiry_frame (k : Lane) (x : Beam) (s : State) : EventFrame s (stuckTimerExpiry k x s) := by
  unfold stuckTimerExpiry
  split
  · split
    · exact ((EventFrame.trans (t := s.modBeam k x _) rfl (queueNotice_frame _ _).gate.event).trans
        (trackFault_frame _ _ _)).trans (endEvent_frame _ _)
    · rfl
  · rfl

theorem readMerge_frame (s : State) : EventFrame s (readMerge s) := by
  unfold readMerge
  split
  · rfl
  · rename_i r rest _
    exact ((((EventFrame.trans (t := { s with intake := rest }) rfl (readRemoved_frame _).event).trans
      (mergeRead_frame _ _).event).trans (readReported_frame _ _ _ _).event).trans (expireAge_frame _ _).event).trans
      (endEvent_frame _ _)

theorem fieldSettleExpiry_frame (s : State) : EventFrame s (fieldSettleExpiry s) := by
  unfold fieldSettleExpiry
  split
  · split
    · refine EventFrame.trans (EventFrame.trans ?_ (openSlot_frame _ _).event) (recomputeLines_frame _).event
      split
      · exact trialSettled_frame _ _
      · rfl
    · rfl
  · rfl

theorem fieldOffAck_frame (s : State) : EventFrame s (fieldOffAck s) := by
  unfold fieldOffAck
  split
  · refine EventFrame.trans (EventFrame.trans ?_ (choose_frame _).event) (recomputeLines_frame _).event
    split
    · exact EventFrame.trans (t := { s with engine := .idle, round := none, grant := none }) rfl (roundEnded_frame _ _ _ _)
    · rfl
  · rfl

theorem slotReport_frame (rep : SlotReport) (s : State) : EventFrame s (slotReport rep s) := by
  unfold slotReport
  split
  · rename_i r _ _
    simp only []
    have h : EventFrame s (match decideSlot r.rates rep with
        | .single t => (s.modLink r.antenna fun c => c.countOutcome (decideSlot r.rates rep)).takeSingle r t
            (reportAmplitude rep)
        | _ => s.modLink r.antenna fun c => c.countOutcome (decideSlot r.rates rep)) := by
      split
      · unfold State.takeSingle
        simp only []
        split <;> rfl
      · rfl
    split
    · exact h.trans (openSlot_frame _ _).event
    · exact h.trans (closeFrame_frame _ _).event
  · rfl

theorem settleTimerExpiry_frame (n : Nat) (s : State) : EventFrame s (settleTimerExpiry n s) := by
  unfold settleTimerExpiry
  split
  · split
    · exact (settleNow_frame _ _).event.trans (endEvent_frame _ _)
    · rfl
  · rfl

theorem presenceTimerExpiry_frame (n : Nat) (s : State) : EventFrame s (presenceTimerExpiry n s) := by
  unfold presenceTimerExpiry
  split
  · split
    · split
      · exact (closePassage_frame _ _ _ _).event.trans (endEvent_frame _ _)
      · rfl
    · rfl
  · rfl

theorem slotTimerExpiry_frame (j : SlotNo) (s : State) : EventFrame s (slotTimerExpiry j s) := by
  unfold slotTimerExpiry
  split
  · split
    · exact (EventFrame.trans (t := s.modDevice _) rfl (resolveSlot_frame _ _ _ _ _).gate.event).trans
        (recomputeLines_frame _).event
    · rfl
  · rfl

end Sys2Proof.Machine
end

