-- ==== Sys2Proof/Laws/PerInstr.lean ====
section
/-! SUPPORT. The family of laws that hold command by command: the body that a well-formed message carries fits a frame. -/

namespace Sys2Proof.Laws.BodyFits

open Sys2Proof.Machine

/-- The body of the frame that carries a message; a command that is no message has none (R155, R170). -/
def body? : Instr → Option Body
  | .powerOn _ _ => none
  | .resetPin _ _ => none
  | .beamRawChange _ _ _ => none
  | .beamFilterExpiry _ _ => none
  | .stuckTimerExpiry _ _ => none
  | .keyRawChange _ => none
  | .keyFilterExpiry => none
  | .presenceTimerExpiry _ => none
  | .settleTimerExpiry _ => none
  | .fieldSettleExpiry => none
  | .slotReport _ => none
  | .holdTimerExpiry => none
  | .roundTimerExpiry => none
  | .fieldFault => none
  | .fieldOffAck => none
  | .backgroundTimerExpiry => none
  | .retryTimerExpiry _ => none
  | .readMerge => none
  | .ageExpiry _ => none
  | .loanLifeEnd _ => none
  | .slotTimerExpiry _ => none
  | .alarmTimerExpiry _ => none
  | .pulseTimerExpiry _ => none
  | .testTimerExpiry _ => none
  | .byteReceived _ _ => none
  | .gapTimerExpiry => none
  | .silenceTimerExpiry => none
  | .frameLeftLine => none
  | .unknownKind kind fields => some (kind :: fields)
  | .statusReq fields => some (Kind.statusReq.code :: fields)
  | .set fields => some (Kind.set.code :: fields)
  | .get fields => some (Kind.get.code :: fields)
  | .classWrite fields => some (Kind.classWrite.code :: fields)
  | .classRead fields => some (Kind.classRead.code :: fields)
  | .rateWrite fields => some (Kind.rateWrite.code :: fields)
  | .rateRead fields => some (Kind.rateRead.code :: fields)
  | .ownerSet fields => some (Kind.ownerSet.code :: fields)
  | .ownerRead fields => some (Kind.ownerRead.code :: fields)
  | .routeSet fields => some (Kind.routeSet.code :: fields)
  | .routeRead fields => some (Kind.routeRead.code :: fields)
  | .patternSet fields => some (Kind.patternSet.code :: fields)
  | .acknowledge fields => some (Kind.acknowledge.code :: fields)
  | .lineTest fields => some (Kind.lineTest.code :: fields)
  | .loanAdd fields => some (Kind.loanAdd.code :: fields)
  | .loanDrop fields => some (Kind.loanDrop.code :: fields)
  | .loanClear fields => some (Kind.loanClear.code :: fields)
  | .answer fields => some (Kind.answer.code :: fields)
  | .countsRead fields => some (Kind.countsRead.code :: fields)
  | .countsClear fields => some (Kind.countsClear.code :: fields)
  | .statsRead fields => some (Kind.statsRead.code :: fields)
  | .statsClear fields => some (Kind.statsClear.code :: fields)
  | .restart fields => some (Kind.restart.code :: fields)

/-- A well-formed message has a body of 1 to 400 bytes (R155). -/
def Statement (i : Instr) : Prop :=
  i.wellFormed = true → ∀ b, body? i = some b → 1 ≤ b.length ∧ b.length ≤ Config.maxBody

theorem cons_fits (code : Byte) (fields b : List Byte) (h : fieldsFit fields = true) (hb : some (code :: fields) = some b) :
    1 ≤ b.length ∧ b.length ≤ Config.maxBody := by
  cases hb
  simp only [fieldsFit, decide_eq_true_eq] at h
  exact ⟨Nat.succ_pos _, h⟩

theorem powerOn (strapA strapB : Bool) : Statement (.powerOn strapA strapB) := fun _ _ hb => nomatch hb
theorem resetPin (strapA strapB : Bool) : Statement (.resetPin strapA strapB) := fun _ _ hb => nomatch hb
theorem beamRawChange (lane : Lane) (beam : Beam) (level : BeamLevel) : Statement (.beamRawChange lane beam level) :=
  fun _ _ hb => nomatch hb
theorem beamFilterExpiry (lane : Lane) (beam : Beam) : Statement (.beamFilterExpiry lane beam) :=
  fun _ _ hb => nomatch hb
theorem stuckTimerExpiry (lane : Lane) (beam : Beam) : Statement (.stuckTimerExpiry lane beam) :=
  fun _ _ hb => nomatch hb
theorem keyRawChange (pressed : Bool) : Statement (.keyRawChange pressed) := fun _ _ hb => nomatch hb
theorem keyFilterExpiry : Statement .keyFilterExpiry := fun _ _ hb => nomatch hb
theorem presenceTimerExpiry (passage : Nat) : Statement (.presenceTimerExpiry passage) := fun _ _ hb => nomatch hb
theorem settleTimerExpiry (passage : Nat) : Statement (.settleTimerExpiry passage) := fun _ _ hb => nomatch hb
theorem fieldSettleExpiry : Statement .fieldSettleExpiry := fun _ _ hb => nomatch hb
theorem slotReport (report : SlotReport) : Statement (.slotReport report) := fun _ _ hb => nomatch hb
theorem holdTimerExpiry : Statement .holdTimerExpiry := fun _ _ hb => nomatch hb
theorem roundTimerExpiry : Statement .roundTimerExpiry := fun _ _ hb => nomatch hb
theorem fieldFault : Statement .fieldFault := fun _ _ hb => nomatch hb
theorem fieldOffAck : Statement .fieldOffAck := fun _ _ hb => nomatch hb
theorem backgroundTimerExpiry : Statement .backgroundTimerExpiry := fun _ _ hb => nomatch hb
theorem retryTimerExpiry (antenna : Antenna) : Statement (.retryTimerExpiry antenna) := fun _ _ hb => nomatch hb
theorem readMerge : Statement .readMerge := fun _ _ hb => nomatch hb
theorem ageExpiry (item : ItemNo) : Statement (.ageExpiry item) := fun _ _ hb => nomatch hb
theorem loanLifeEnd (item : ItemNo) : Statement (.loanLifeEnd item) := fun _ _ hb => nomatch hb
theorem slotTimerExpiry (slot : SlotNo) : Statement (.slotTimerExpiry slot) := fun _ _ hb => nomatch hb
theorem alarmTimerExpiry (lane : Lane) : Statement (.alarmTimerExpiry lane) := fun _ _ hb => nomatch hb
theorem pulseTimerExpiry (line : OutLine) : Statement (.pulseTimerExpiry line) := fun _ _ hb => nomatch hb
theorem testTimerExpiry (line : OutLine) : Statement (.testTimerExpiry line) := fun _ _ hb => nomatch hb
theorem byteReceived (byte : Byte) (stopBit : Bool) : Statement (.byteReceived byte stopBit) :=
  fun _ _ hb => nomatch hb
theorem gapTimerExpiry : Statement .gapTimerExpiry := fun _ _ hb => nomatch hb
theorem silenceTimerExpiry : Statement .silenceTimerExpiry := fun _ _ hb => nomatch hb
theorem frameLeftLine : Statement .frameLeftLine := fun _ _ hb => nomatch hb
theorem unknownKind (kind : Byte) (fields : List Byte) : Statement (.unknownKind kind fields) :=
  fun h b hb => cons_fits _ _ b (Bool.and_eq_true_iff.mp h).1 hb
theorem statusReq (fields : List Byte) : Statement (.statusReq fields) := fun h b hb => cons_fits _ _ b h hb
theorem set (fields : List Byte) : Statement (.set fields) := fun h b hb => cons_fits _ _ b h hb
theorem get (fields : List Byte) : Statement (.get fields) := fun h b hb => cons_fits _ _ b h hb
theorem classWrite (fields : List Byte) : Statement (.classWrite fields) := fun h b hb => cons_fits _ _ b h hb
theorem classRead (fields : List Byte) : Statement (.classRead fields) := fun h b hb => cons_fits _ _ b h hb
theorem rateWrite (fields : List Byte) : Statement (.rateWrite fields) := fun h b hb => cons_fits _ _ b h hb
theorem rateRead (fields : List Byte) : Statement (.rateRead fields) := fun h b hb => cons_fits _ _ b h hb
theorem ownerSet (fields : List Byte) : Statement (.ownerSet fields) := fun h b hb => cons_fits _ _ b h hb
theorem ownerRead (fields : List Byte) : Statement (.ownerRead fields) := fun h b hb => cons_fits _ _ b h hb
theorem routeSet (fields : List Byte) : Statement (.routeSet fields) := fun h b hb => cons_fits _ _ b h hb
theorem routeRead (fields : List Byte) : Statement (.routeRead fields) := fun h b hb => cons_fits _ _ b h hb
theorem patternSet (fields : List Byte) : Statement (.patternSet fields) := fun h b hb => cons_fits _ _ b h hb
theorem acknowledge (fields : List Byte) : Statement (.acknowledge fields) := fun h b hb => cons_fits _ _ b h hb
theorem lineTest (fields : List Byte) : Statement (.lineTest fields) := fun h b hb => cons_fits _ _ b h hb
theorem loanAdd (fields : List Byte) : Statement (.loanAdd fields) := fun h b hb => cons_fits _ _ b h hb
theorem loanDrop (fields : List Byte) : Statement (.loanDrop fields) := fun h b hb => cons_fits _ _ b h hb
theorem loanClear (fields : List Byte) : Statement (.loanClear fields) := fun h b hb => cons_fits _ _ b h hb
theorem answer (fields : List Byte) : Statement (.answer fields) := fun h b hb => cons_fits _ _ b h hb
theorem countsRead (fields : List Byte) : Statement (.countsRead fields) := fun h b hb => cons_fits _ _ b h hb
theorem countsClear (fields : List Byte) : Statement (.countsClear fields) := fun h b hb => cons_fits _ _ b h hb
theorem statsRead (fields : List Byte) : Statement (.statsRead fields) := fun h b hb => cons_fits _ _ b h hb
theorem statsClear (fields : List Byte) : Statement (.statsClear fields) := fun h b hb => cons_fits _ _ b h hb
theorem restart (fields : List Byte) : Statement (.restart fields) := fun h b hb => cons_fits _ _ b h hb

end Sys2Proof.Laws.BodyFits
end

