-- ==== Sys2Proof/Tests/Slice0.lean ====
section
/-! SUPPORT. Small tests: ill-formed commands refused, results the spec's worked examples and rules give, and for each statement
with hypotheses a state and operands that meet them. -/

namespace Sys2Proof.Tests

open Sys2Proof Sys2Proof.Machine

-- one theorem after another, so that the kernel evaluates one at a time
set_option Elab.async false

/-! ### Helpers -/

/-- Whether a command has a next state of which `p` holds. -/
def gives (c : Instr) (s : State) (p : State → Bool) : Bool :=
  match exec c s with
  | .next t => p t
  | .fault _ => false
  | .refused _ => false

/-- Whether commands one after another lead to a state of which `p` holds. -/
def leads (cs : List Instr) (s : State) (p : State → Bool) : Bool :=
  match execAll cs s with
  | .next t => p t
  | .fault _ => false
  | .refused _ => false

/-- The gate at rest: LINKED, engine idle, gate time 1000. -/
def gate : State :=
  { State.reset with gateTime := 1000, engine := .idle, bgTimer := some 1100, linked := true,
                     silence := some 6000 }.recomputeLines

/-- A passage of lane 0 that opened at 900 by its inner beam. -/
def crossing : Passage :=
  { number := 7, lane := 0, phase := .open_, firstBeam := some .inner, direction := none, persons := 1, opened := 900,
    closed := none, flags := {}, items := [], settle := none, presence := none, judging := none }

/-- A beam whose raw level has differed from its filtered level since 990, its filter expiry due at 1000. -/
def changing (raw filtered : BeamLevel) : BeamState := ⟨raw, filtered, some ⟨990, 1000⟩, none, false⟩

/-- A round on A0 in its first frame of 8 slots, slot 2 open. -/
def round0 : Round :=
  { antenna := 0, label := .hot, exp := 3, frames := 1, slot := 2, c := 0, s := 1, e := 1, settleTimer := none,
    holdTimer := none, roundTimer := some 1030, rates := stockRates, owner := stockOwner, expSet := false, cause := none }

/-- The gate with that round under way in an engine state. -/
def inRound (e : Engine) (r : Round) : State :=
  { gate with engine := e, round := some r, grant := some ⟨r.antenna, r.label⟩, field := some r.antenna }

/-- An item number, an item record, and a passage in JUDGING with one item in slot 0. -/
def itemA : Item :=
  { item := 0x0004110000000A01, owner := 0x00FF, cls := 1, issued := false, score := 100,
    classFields := some ⟨.check, false, false, false⟩, ruling := none, slot := some 0 }

/-- The passage that holds it. -/
def judged : Passage :=
  { crossing with phase := .judging, direction := some .out, closed := some 950, items := [itemA],
                  judging := some ⟨false, 1⟩ }

/-- The gate while that item is in slot 0. -/
def asking : State :=
  { gate with
    passages := [judged],
    slots := #v[some ⟨true, ⟨7, 0⟩, itemA.item, 1, 1000, queryBody 0 itemA 0 7⟩, none, none, none] }

/-- A sighting of that tag, heard on A1 at strength 50. -/
def seen : Sighting :=
  { item := itemA.item, owner := 0x00FF, issued := false, cls := 1, state := .active, firstSeen := 500, lastSeen := 900,
    ageExpiry := 2900, history := [⟨1, 50, 900⟩] }

/-- A read of that tag on A1. -/
def readA : Read := ⟨itemA.item, 0x00FF, false, 1, 1, 300, 990⟩

/-! ### Ill-formed commands -/

theorem test_wellFormed_refuses_long_body : (Instr.set (List.replicate 400 0)).wellFormed = false := by decide +kernel
theorem test_wellFormed_takes_longest_body : (Instr.set (List.replicate 399 0)).wellFormed = true := by decide +kernel
theorem test_wellFormed_refuses_known_kind : (Instr.unknownKind 0x2C []).wellFormed = false := by decide
theorem test_wellFormed_takes_unknown_kind : (Instr.unknownKind 0x84 []).wellFormed = true := by decide
theorem test_wellFormed_refuses_passage_0 : (Instr.settleTimerExpiry 0).wellFormed = false := by decide
theorem test_wellFormed_refuses_passage_65536 : (Instr.presenceTimerExpiry 65536).wellFormed = false := by decide
theorem test_acceptedCodes_are_the_kinds : allKinds.map Kind.code = acceptedCodes := by decide

/-! ### The queue and the table word -/

theorem test_withFetchWord_leaves_state : gate.withFetchWord 8 0 = gate := by decide +kernel
theorem test_step_takes_front :
    (match step { gate with pending := [.keyRawChange true, .readMerge] } with
     | .next t => t.pending == [.readMerge] && t.key == ⟨true, false, some ⟨1000, 1020⟩⟩
     | .fault _ => false
     | .refused _ => false) = true := by decide +kernel
theorem test_idle_step_passes_time :
    (match step gate with
     | .next t => t == { gate with gateTime := 1001 }
     | .fault _ => false
     | .refused _ => false) = true := by decide +kernel

/-! ### Worked examples of the spec -/

/-- R36: the CRC of the digits 1 to 9 is 0x29B1 (09 section 9.2 and the rule's own check value). -/
theorem test_crc_check_value : crc [0x31, 0x32, 0x33, 0x34, 0x35, 0x36, 0x37, 0x38, 0x39] = 0x29B1 := by decide +kernel

/-- 04 section 4.1, worked conversion: 1500 + 2, 300, 40 − 3, 4095 + 2, 0 − 3, 16, 15. -/
theorem test_strength_worked_conversion :
    [trimmedStrength (baseStrength 1500) 2, trimmedStrength (baseStrength 300) 0, trimmedStrength (baseStrength 40) (-3),
     trimmedStrength (baseStrength 4095) 2, trimmedStrength (baseStrength 0) (-3), trimmedStrength (baseStrength 16) 0,
     trimmedStrength (baseStrength 15) 0] = [69, 49, 23, 79, 1, 16, 15] := by decide +kernel

/-- 02 section 2.11: the exponent after frames 1 to 4. -/
theorem test_exponent_worked_round :
    [adjustExp 3 2 4, adjustExp 3 1 4, adjustExp 3 0 7, adjustExp 2 0 4] = [3, 3, 2, 1] := by decide

/-- 02 section 2.13: preamble 198 with 0x4B1E locks entry 1 inverted; 250 locks none; 190 with 0x2D87 is NOISE. -/
theorem test_decode_worked :
    (lockedEntry stockRates 198 = some stockRates[1] ∧ lockedEntry stockRates 250 = none) ∧
    decideReply stockRates 190 (byteBits 0x2D ++ byteBits 0x87) = .noise := by decide +kernel

/-- 05 section 5.10: sighting X scores 172 in lane 1 over 19600..21300. -/
theorem test_score_worked_attribution :
    scoreBoth [⟨1, 30, 19480⟩, ⟨1, 41, 19800⟩, ⟨2, 33, 20050⟩, ⟨1, 55, 20300⟩, ⟨0, 23, 20560⟩, ⟨2, 49, 20640⟩,
      ⟨1, 69, 20720⟩, ⟨0, 15, 20950⟩] 1 ⟨19600, 21300⟩ = 172 := by decide +kernel

/-- 01 section 1.8: a gap of 350 ms counts a second person. -/
theorem test_follower_counted :
    leads [.beamFilterExpiry 0 .inner]
      { gate with
        gateTime := 2260, passages := [{ crossing with number := 41, opened := 1000 }],
        trackers := #v[some (.leaving .inner 1900), some .clear, none, none],
        beams := gate.beams.set 0 ⟨⟨.blocked, .clear, some ⟨2250, 2260⟩, none, false⟩, ⟨.blocked, .blocked, none, none, false⟩⟩ }
      (fun t => t.trackers[0] == some (.crossing .inner) && t.passages.map Passage.persons == [2]) = true := by
  decide +kernel

/-- 01 section 1.8: the CLEAR of O0 at 2900 closes #41 OUT, with settle timer to 3210 and 2 persons out. -/
theorem test_follower_closes_out :
    leads [.beamFilterExpiry 0 .outer]
      { gate with
        gateTime := 2910, passages := [{ crossing with number := 41, opened := 1000, persons := 2 }],
        trackers := #v[some (.leaving .inner 2700), some .clear, none, none],
        beams := gate.beams.set 0 ⟨⟨.clear, .clear, none, none, false⟩, ⟨.clear, .blocked, some ⟨2900, 2910⟩, none, false⟩⟩ }
      (fun t => t.passages.map (fun p => (p.direction, p.closed, p.settle)) == [(some .out, some 2900, some 3210)]
        && t.counts[0].personsOut == 2 && t.counts[0].passagesOut == 1) = true := by
  decide +kernel

/-- 11 section 11.7: SET (1, 4), (14, 3000), (17, −2), (14, 800). -/
theorem test_set_worked :
    gives (.set [1, 0, 4, 14, 0x0B, 0xB8, 17, 0xFF, 0xFE, 14, 0x03, 0x20]) State.reset
      (fun t => t.params.lanes == 4 && t.params.queryTimeout == 800 && t.params.alarmLatch
        && t.sending == some ⟨frameOf [0x80, 0x11, 1, 1, 0, 4, 14, 0x07, 0xD0, 17, 0, 1, 14, 0x03, 0x20], false⟩) = true := by
  decide +kernel

/-- 11 section 11.7: SET (5, 300), (31, 0) stores nothing. -/
theorem test_set_bad_index :
    gives (.set [5, 0x01, 0x2C, 31, 0, 0]) State.reset (fun t => t.params.leadTime == 400
      && t.sending == some ⟨frameOf [0x80, 0x11, 4], false⟩) = true := by decide +kernel

/-- 10 section 10.10: a SET of one pair and a stray byte, and code 0x84. -/
theorem test_refused_worked :
    gives (.set [10, 0, 80, 6]) gate (fun t => t.sending == some ⟨frameOf [0x80, 0x11, 3], false⟩) = true ∧
    gives (.unknownKind 0x84 (List.replicate 14 0)) gate
      (fun t => t.sending == some ⟨frameOf [0x80, 0x84, 2], false⟩) = true := by decide +kernel

/-- 08 section 8.8: LINE_TEST of L4 for 0 s runs 1 s, PULSED from ON. -/
theorem test_line_test_clamped :
    gives (.lineTest [4, 0]) gate (fun t => t.lines[4].test == some 2000 && t.lines[4].level
      && t.lines[4].pulse == some 1500 && t.sending == some ⟨frameOf [0x80, 0x24, 1, 4, 1], false⟩) = true := by
  decide +kernel

/-- 06 section 6.8: a renewed number moves to the newest end, an unlisted drop is passed over. -/
theorem test_loans_renew_and_drop :
    leads [.loanAdd (toBytes 8 1 ++ toBytes 8 2 ++ toBytes 8 1), .frameLeftLine, .loanDrop (toBytes 8 2 ++ toBytes 8 3)] gate
      (fun t => t.loans.map Loan.item == [1] && t.sending == some ⟨frameOf [0x80, 0x29, 0, 0, 1], false⟩) = true := by
  decide +kernel

/-! ### One command at a time -/

/-- R138: with ALARM_LATCH at 0, L4 in its OFF half keeps that half when lane 0's alarm expires and is triggered again at one
moment; with ALARM_LATCH at 1 it starts afresh from ON (R147). -/
theorem test_retrigger_keeps_phase :
    (let after := fun (latch : Bool) =>
       let s := State.recomputeLines
         { gate with alarms := gate.alarms.set 0 ⟨.sounding, some 1000⟩, params := { gate.params with alarmLatch := latch } }
       gives (.alarmTimerExpiry 0) (s.modLine 4 fun l => { l with level := false, pulse := some 1200 }) fun t =>
         (t.triggerLane 0).recomputeLines.lines[4] ==
           { pulsed := true, active := true, level := latch, pulse := some (if latch then 1500 else 1200) }
     after false && after true) = true := by decide +kernel

theorem test_powerOn_samples_straps :
    gives (.powerOn true false) gate (fun t => t.speed == .b38400 && t.restartCause == .powerOn && !t.linked) = true := by
  decide +kernel
theorem test_resetPin_cause : gives (.resetPin false false) gate (fun t => t.restartCause == .resetPin) = true := by
  decide +kernel
theorem test_fieldSettle_sweeps :
    gives .fieldSettleExpiry
      (inRound .fieldSettle { round0 with slot := 0, frames := 0, settleTimer := some 1000 })
      (fun t => t.engine == .frame && t.air == [.fieldOff, .sweep 3]) = true := by decide +kernel
theorem test_slotReport_collision_counts :
    gives (.slotReport .energy) (inRound .frame round0)
      (fun t => t.linkCounters[0].collisions == 1 && t.round.map Round.c == some 1
        && t.air == [.fieldOff, .next]) = true := by decide +kernel
theorem test_alarmTimer_latches :
    gives (.alarmTimerExpiry 1)
      { gate with params := { gate.params with alarmLatch := true },
                  alarms := gate.alarms.set 1 ⟨.sounding, some 1000⟩ }.recomputeLines
      (fun t => t.alarms[1] == ⟨.latched, none⟩ && t.lines[1].active && !t.lines[4].active) = true := by decide +kernel
theorem test_slotTimer_gives_fallback :
    gives (.slotTimerExpiry 0) asking (fun t => t.passages == [] && t.device.queryTimeouts == 1
      && t.alarms[0].state == .sounding) = true := by decide +kernel
theorem test_answer_learns :
    gives (.answer (0 :: toBytes 8 itemA.item.toNat ++ [1])) asking
      (fun t => t.loans.map Loan.item == [itemA.item] && t.passages == []) = true := by decide +kernel
theorem test_countsClear_one_lane :
    gives (.countsClear [1]) (gate.modCounts 1 fun _ => { personsOut := 5 }) (fun t => t.counts[1] == {}) = true := by
  decide +kernel
theorem test_statusReq_length : gate.statusBlock.length = 46 := by decide +kernel

/-! ### States and operands that meet the hypotheses of the statements -/

theorem witness_StepRunsFrontCommand :
    ({ gate with pending := [.fieldOffAck] } : State).pending = Instr.fieldOffAck :: [] := rfl

theorem witness_IdleStepPassesTime :
    (gate.pending = [] ∧ gate.dueEvents = []) ∧
    ({ gate with bgTimer := some 1000 } : State).dueEvents = .backgroundTimerExpiry :: [] := by decide +kernel

theorem witness_EventsWithoutEffect :
    gate.engine ≠ .frame ∧ gate.engine = .idle ∧ gate.engine ≠ .closing ∧
    filterFires (gate.beam 0 .inner).filter gate.gateTime = false ∧ fires (gate.beam 0 .inner).stuck gate.gateTime = false ∧
    filterFires gate.key.filter gate.gateTime = false ∧
    (∀ p ∈ asking.passages, p.number = 7 → fires p.presence asking.gateTime = false) ∧
    (∀ p ∈ asking.passages, p.number = 7 → fires p.settle asking.gateTime = false) ∧
    (inRound .frame round0).round = some round0 ∧ fires round0.settleTimer 1000 = false ∧
    fires round0.holdTimer 1000 = false ∧ fires round0.roundTimer 1000 = false ∧
    fires gate.bgTimer gate.gateTime = false ∧ retryFires gate.antennas[0].retry gate.gateTime = false ∧
    (∀ e ∈ [seen], e.item = seen.item → due gate.gateTime e.ageExpiry = false) ∧
    (∀ l ∈ gate.loans, l.item = 1 → due gate.gateTime l.lifeEnd = false) ∧
    fires (gate.slots[0].map Question.timer) gate.gateTime = false ∧ fires gate.alarms[0].timer gate.gateTime = false ∧
    fires gate.lines[4].pulse gate.gateTime = false ∧ fires gate.lines[4].test gate.gateTime = false ∧
    fires gate.gap gate.gateTime = false ∧ fires gate.silence gate.gateTime = false := by decide +kernel

/-- Each of the three resets that `ResetTakesInputsAsFound` covers runs. -/
theorem witness_ResetTakesInputsAsFound :
    exec (.powerOn false true) gate = .next (gate.powerUp .powerOn false true) ∧
    exec (.resetPin false true) gate = .next (gate.powerUp .resetPin false true) ∧
    ({ gate with sending := some ⟨[], true⟩ } : State).sending.map Sending.restartReply = some true ∧
    gives .frameLeftLine { gate with sending := some ⟨[], true⟩ } (fun t => t.gateTime == 0) = true := by
  refine ⟨rfl, rfl, rfl, by decide +kernel⟩

theorem witness_RestartFollowsItsReply :
    gate.ready ∧ ({ gate with sending := some ⟨[], true⟩ } : State).sending = some ⟨[], true⟩ := by decide +kernel

theorem witness_FiltersFollowRawLevels :
    let s := gate.modBeam 2 .outer fun _ => changing .blocked .clear
    (filterFires (s.beam 2 .outer).filter s.gateTime = true ∧ s.laneInService 2 = false) ∧
    BeamLevel.blocked ≠ (gate.beam 0 .inner).raw ∧ true ≠ gate.key.raw ∧
    filterFires ({ gate with key := ⟨true, false, some ⟨980, 1000⟩⟩ } : State).key.filter gate.gateTime = true := by
  decide +kernel

theorem witness_BreakOpensPassage :
    let s := gate.modBeam 1 .outer fun _ => changing .blocked .clear
    (s.beam 1 .outer).filter = some ⟨990, 1000⟩ ∧ due s.gateTime 1000 = true ∧ (s.beam 1 .outer).raw = .blocked ∧
    s.laneInService 1 = true ∧ s.trackers[1] = some .clear ∧ s.passages.length < 16 := by decide +kernel

/-- `TrackerRows`, every row: a BREAK and a CLEAR of the inner beam of lane 0 find the tracker in each state that a row names. -/
theorem witness_TrackerRows :
    let s := fun (raw filtered : BeamLevel) (t : Tracker) =>
      { (gate.modBeam 0 .inner fun _ => changing raw filtered) with
        trackers := gate.trackers.set 0 (some t), passages := [crossing] }
    (∀ t ∈ [Tracker.opening .outer, .leaving .inner 700, .waitClear, .fault],
      ((s .blocked .clear t).beam 0 .inner).filter = some ⟨990, 1000⟩ ∧
      ((s .blocked .clear t).beam 0 .inner).raw = .blocked ∧ (s .blocked .clear t).laneInService 0 = true ∧
      (s .blocked .clear t).trackers[0] = some t ∧ (s .blocked .clear t).openPassage? 0 = some crossing ∧
      gives (.beamFilterExpiry 0 .inner) (s .blocked .clear t) (fun _ => true) = true) ∧
    (∀ t ∈ [Tracker.crossing .inner, .crossing .outer, .waitClear, .fault],
      ((s .clear .blocked t).beam 0 .inner).filter = some ⟨990, 1000⟩ ∧
      ((s .clear .blocked t).beam 0 .inner).raw = .clear ∧ (s .clear .blocked t).trackers[0] = some t ∧
      ((s .clear .blocked t).beam 0 .inner).fault = false ∧
      gives (.beamFilterExpiry 0 .inner) (s .clear .blocked t) (fun _ => true) = true) := by decide +kernel

/-- `TrackerRows`, the follow gap at its boundary: an interval of 250 ms counts a person, one of 249 ms does not. -/
theorem witness_TrackerRows_followGap :
    let s := fun (cleared : Time) =>
      { (gate.modBeam 0 .inner fun _ => changing .blocked .clear) with
        trackers := gate.trackers.set 0 (some (.leaving .inner cleared)), passages := [crossing] }
    gives (.beamFilterExpiry 0 .inner) (s 740) (fun t => t.passages.map Passage.persons == [2]) = true ∧
    gives (.beamFilterExpiry 0 .inner) (s 741) (fun t => t.passages.map Passage.persons == [1]) = true := by decide +kernel

theorem witness_ClearClosesPassage :
    let s := fun (x : Beam) (t : Tracker) =>
      { (gate.modBeam 0 x fun _ => changing .clear .blocked) with
        trackers := gate.trackers.set 0 (some t), passages := [crossing] }
    (∀ xt ∈ [(Beam.inner, Tracker.opening .inner), (.outer, .leaving .inner 950)],
      ((s xt.1 xt.2).beam 0 xt.1).filter = some ⟨990, 1000⟩ ∧ ((s xt.1 xt.2).beam 0 xt.1).raw = .clear ∧
      (s xt.1 xt.2).laneInService 0 = true ∧ (s xt.1 xt.2).openPassage? 0 = some crossing ∧
      crossing.firstBeam = some .inner ∧ (s xt.1 xt.2).params.settleTime ≠ 0 ∧ (s xt.1 xt.2).trackers[0] = some xt.2) := by
  decide +kernel

theorem witness_BeamFaultsComeAndGo :
    (let s := { (gate.modBeam 0 .inner fun _ => ⟨.blocked, .blocked, none, some 1000, false⟩) with
                trackers := gate.trackers.set 0 (some (.opening .inner)), passages := [crossing] }
     (s.beam 0 .inner).stuck = some 1000 ∧ due s.gateTime 1000 = true ∧ s.trackers[0].isSome = true ∧
     s.params.settleTime ≠ 0 ∧ s.openPassage? 0 = some crossing) ∧
    (let s := { (gate.modBeam 0 .inner fun _ => { changing .clear .blocked with fault := true }) with
                trackers := gate.trackers.set 0 (some .fault),
                passages := [{ crossing with firstBeam := none, flags := { synthetic := true }, presence := some 1500 }] }
     (s.beam 0 .inner).filter = some ⟨990, 1000⟩ ∧ (s.beam 0 .inner).raw = .clear ∧ s.laneInService 0 = true ∧
     (s.beam 0 .inner).fault = true ∧ s.trackers[0] = some .fault ∧ s.params.settleTime ≠ 0 ∧
     (s.beam 0 (otherBeam .inner)).fault = false ∧ (s.openPassage? 0).map (fun p => p.flags.synthetic) = some true) := by
  decide +kernel

/-- A synthetic passage whose presence timer is due. -/
def synthetic : Passage :=
  { crossing with firstBeam := none, persons := 0, flags := { synthetic := true }, presence := some 1000 }

theorem witness_PresenceExpiryClosesPassage :
    let s := { gate with passages := [synthetic] }
    s.passage? synthetic.number = some synthetic ∧ synthetic.phase = .open_ ∧ synthetic.presence = some 1000 ∧
    due s.gateTime 1000 = true ∧ s.params.settleTime ≠ 0 ∧
    ({ s with params := { s.params with settleTime := 0 } } : State).params.settleTime = 0 := by decide +kernel

/-- A passage that settles, its timer due. -/
def settling : Passage :=
  { crossing with phase := .settling, direction := some .out, closed := some 950, settle := some 1000 }

/-- A passage just attributed, with an item and OVERFLOW, about to be judged. -/
def unjudged : Passage :=
  { judged with judging := none, flags := { overflow := true }, items := [{ itemA with classFields := none, slot := none }] }

theorem witness_SettleExpiryJudgesPassage :
    (let s := { gate with passages := [settling] }
     s.passage? settling.number = some settling ∧ settling.phase = .settling ∧ fires settling.settle s.gateTime = true ∧
     settling.direction = some .out ∧ settling.flags.overflow = false ∧ s.winners settling .out = [] ∧
     (s.passages.map Passage.number).Nodup) ∧
    (let s := { gate with passages := [unjudged] }
     s.passage? unjudged.number = some unjudged ∧ unjudged.direction = some .out ∧ (s.passages.map Passage.number).Nodup ∧
     (∀ it ∈ unjudged.items, it.ruling = none) ∧ unjudged.items ≠ []) := by decide +kernel

theorem witness_AttributionTakesWinners :
    let s := { gate with passages := [settling], sightings := [seen] }
    s.sightingLaw ∧ s.passage? settling.number = some settling ∧ settling.direction = some .out := by decide +kernel

/-- A sighting heard on both antennas of lane 0 wins with 40 + 50 + 40 + 2 = 132 (R90). -/
theorem witness_WinnersAreRanked :
    let e := { seen with history := [⟨0, 40, 890⟩, ⟨1, 50, 900⟩] }
    let s := { gate with passages := [settling], sightings := [e] }
    s.sightingLaw ∧ s.winners settling .out = [(132, e)] := by decide +kernel

theorem witness_LaneScoreFormula :
    (∀ r ∈ seen.history, r.strength ≤ 79) ∧ gate.laneCondition 0 = .normal ∧
    (gate.modAntenna 0 fun a => { a with out := true }).laneCondition 0 = .oneAntenna ∧
    (gate.modAntenna 0 fun a => { a with out := true }).countedOut 1 = false ∧
    ((gate.modAntenna 0 fun a => { a with out := true }).modAntenna 1 fun a => { a with trial := true }).laneCondition 0 =
      .blind := by decide +kernel

/-- The oldest of sixteen records, in JUDGING with an item in slot 0. -/
def oldest : Passage := { judged with number := 1, opened := 100 }

/-- Sixteen records, the first of them JUDGING and the oldest, the others OPEN. -/
def full : State :=
  { gate with
    passages := oldest :: (List.range 15).map fun i => { crossing with number := i + 2 },
    slots := #v[some ⟨true, ⟨1, 0⟩, itemA.item, 1, 1000, queryBody 0 itemA 0 1⟩, none, none, none] }

/-- The oldest record is chosen, and of two with one opened time the first; a JUDGING and a SETTLING record. -/
theorem witness_ForcedCompletionFreesOldest :
    gate.passages.length < 16 ∧ 16 ≤ full.passages.length ∧
    (let rest := (List.range 15).map fun i => { crossing with number := i + 2 }
     full.passages = [] ++ oldest :: rest ∧ oldest.phase ≠ .open_ ∧
     (∀ q ∈ { oldest with number := 20 } :: rest,
       q.phase ≠ .open_ → q.opened = oldest.opened ∨ before oldest.opened q.opened = true)) ∧
    (full.queryLaw ∧ full.linkLaw ∧ (full.passages.map Passage.number).Nodup ∧ full.passage? oldest.number = some oldest ∧
     oldest.phase = .judging ∧ oldest.judging = some ⟨false, 1⟩) ∧
    ({ gate with passages := [settling] } : State).passage? settling.number = some settling ∧
    settling.phase = .settling := by
  refine ⟨by decide +kernel, by decide +kernel, by decide +kernel, ⟨by decide +kernel, by decide +kernel, ?_⟩,
    by decide +kernel, by decide +kernel⟩
  decide +kernel

/-- The openings that force: a BREAK in lane 1, and a read beside lane 1 in FAULT. -/
theorem witness_ForcedCompletionFreesOldest_openings :
    (let s := full.modBeam 1 .inner fun _ => changing .blocked .clear
     (s.beam 1 .inner).filter = some ⟨990, 1000⟩ ∧ due s.gateTime 1000 = true ∧ (s.beam 1 .inner).raw = .blocked ∧
     s.laneInService 1 = true ∧ s.trackers[1] = some .clear ∧ 16 ≤ s.passages.length) ∧
    (let s := { full with intake := [readA], trackers := full.trackers.set 1 (some .fault) }
     s.intake = readA :: [] ∧ (s.mergedEntry readA).state = .active ∧ 20 ≤ s.strength readA ∧
     s.trackers[1] = some .fault ∧ (readA.antenna = nearAntenna 1 ∨ readA.antenna = farAntenna 1) ∧
     (∀ j : Lane, j ≠ 1 → readA.antenna = nearAntenna j ∨ readA.antenna = farAntenna j → s.trackers[j] ≠ some .fault) ∧
     due s.gateTime (readA.time + BitVec.ofNat 32 s.params.sightAge) = false ∧ s.openPassage? 1 = none ∧
     16 ≤ s.passages.length) := by decide +kernel

/-- Number 65535 is taken by a record, so the next passage takes 1 (R19). -/
theorem witness_PassageNumbersAreFree :
    (let s := { gate with passages := [{ crossing with number := 65535 }], nextPassage := 65535 }
     (s.passages.length ≤ 16 ∧ 1 ≤ s.nextPassage ∧ s.nextPassage ≤ 65535) ∧
     ((s.openPassage 1 none 0 1000 none).passages.map Passage.number = [65535, 1])) ∧
    (full.passages.length ≤ 16 ∧ 1 ≤ full.nextPassage ∧ full.nextPassage ≤ 65535) := by decide +kernel

/-- The gate with lanes 0 and 1 in FAULT, one read waiting, and these sightings. -/
def reading (r : Read) (l : List Sighting) : State :=
  { gate with intake := [r], sightings := l, trackers := #v[some .fault, some .fault, none, none] }

/-- A strong read beside two lanes in FAULT, of an ACTIVE sighting and of one CLAIMED by an IN passage, and a weak read. -/
theorem witness_QualifyingReadOpensSynthetic :
    (∀ r ∈ [readA, { readA with amplitude := 19 }], ∀ l ∈ [[], [{ seen with state := .claimed 3 .in_ }]],
      (reading r l).passageLaw) ∧
    (reading readA []).passages.length < 15 ∧
    due (reading readA []).gateTime (readA.time + BitVec.ofNat 32 (reading readA []).params.sightAge) = false ∧
    20 ≤ (reading readA []).strength readA ∧ ((reading readA []).mergedEntry readA).state = .active ∧
    ((reading readA [{ seen with state := .claimed 3 .in_ }]).mergedEntry readA).state = .claimed 3 .in_ ∧
    ¬20 ≤ (reading readA []).strength { readA with amplitude := 19 } ∧ readA.antenna.val = (0 : Lane).val + 1 ∧
    readA.antenna.val = (1 : Lane).val := by
  refine ⟨by decide +kernel, by decide +kernel, by decide +kernel, by decide +kernel, by decide +kernel,
    by decide +kernel, by decide +kernel, by decide +kernel, by decide +kernel⟩

/-- Both ends of the range of the second stock entry, each sync word, and a reply of 15 bits. -/
theorem witness_RateLockAndPolarity :
    stockRates[1].accepts 180 = true ∧ stockRates[1].accepts 204 = true ∧ stockRates[1].accepts 205 = false ∧
    stockRates[1].accepts 179 = false ∧ (∀ j : Fin 4, j < 1 → stockRates[j].accepts 180 = false) ∧
    (List.replicate 15 true).length < 16 ∧ 16 ≤ (byteBits 0xB4 ++ byteBits 0xE1).length ∧
    bitsNat ((byteBits 0xB4 ++ byteBits 0xE1).take 16) = stockRates[1].pattern.toNat ∧
    bitsNat ((byteBits 0x4B ++ byteBits 0x1E).take 16) = 65535 - stockRates[1].pattern.toNat ∧
    (∀ i : Fin 4, stockRates[i].accepts 250 = false) := by decide +kernel

theorem witness_FrameExponentFollowsTallies :
    (3 ≤ 7 ∧ 5 + 2 + 1 = 2 ^ 3 ∧ 1 < 5) ∧ (0 + 4 + 4 = 2 ^ 3 ∧ 2 ^ 3 ≤ 2 * 4) ∧ (2 + 2 + 4 = 2 ^ 3 ∧ ¬(4 < 2)) ∧
    (128 + 0 + 0 = 2 ^ 7 ∧ ¬(0 < 128 ∧ 7 < 7)) ∧ 1 + 0 + 0 = 2 ^ 0 := by decide

/-- The reply of a tag with the item number and owner code 1, normal polarity, rate entry 0. -/
def tagBits : List Bool :=
  let body := toBytes 8 1 ++ toBytes 2 1 ++ [0x03]
  (toBytes 2 0xB4E1 ++ body ++ toBytes 2 (crc body).toNat).flatMap byteBits

/-- Each outcome, with room in the intake queue, with the read that fills it, and with a queue of 8 that stays full. -/
theorem witness_SlotReportOpensNextSlot :
    let s := inRound .frame round0
    (s.engine = .frame ∧ s.round = some round0 ∧ round0.slot + 1 < 2 ^ round0.exp ∧ s.intake.length < 8 ∧
     decideSlot round0.rates .silence = .empty ∧ decideSlot round0.rates .energy = .collision ∧
     decideSlot round0.rates (.reply 384 tagBits 100) = .single ⟨1, 1, false, 3⟩ ∧ round0.owner.accepts 1 = true ∧
     round0.owner.accepts 0 = false) ∧
    (∀ n ∈ [7, 8], ({ s with intake := List.replicate n readA } : State).engine = .frame ∧
      8 ≤ (List.replicate n readA ++ [readA]).length) ∧
    (tagBits.drop 16).length = 104 ∧
    bitsNat ((tagBits.drop 16).drop 88) = (crcBits ((tagBits.drop 16).take 88)).toNat ∧
    bitsNat (((tagBits.drop 16).set 0 true).drop 88) ≠ (crcBits (((tagBits.drop 16).set 0 true).take 88)).toNat := by
  decide +kernel

/-- The last slot of a frame, with tallies and frames for each of the four ends, the last with 8 reads waiting. -/
theorem witness_LastSlotEndsFrame :
    let s := fun (r : Round) => inRound .frame { r with slot := 7 }
    (∀ r ∈ [{ round0 with s := 0, e := 7 }, { round0 with frames := 6 }, { round0 with frames := 5 }],
      (s r).engine = .frame ∧ (s r).round = some { r with slot := 7 } ∧ 7 + 1 = 2 ^ r.exp ∧ (s r).intake.length < 8) ∧
    (({ round0 with s := 0 } : Round).c = 0 ∧ ({ round0 with s := 0 } : Round).s = 0) ∧
    ¬(round0.c = 0 ∧ round0.s = 0) ∧ ¬(0 + 1 = 0 ∧ 0 = 0) ∧
    (let u := { s round0 with intake := List.replicate 7 readA }
     u.engine = .frame ∧ 8 ≤ (u.intake ++ [readA]).length) := by decide +kernel

theorem witness_FullIntakeHoldsRound :
    ({ inRound .frame round0 with intake := List.replicate 8 readA } : State).intake.length = 8 ∧
    (let s := { inRound .held round0 with intake := List.replicate 8 readA }
     s.round = some round0 ∧ s.engine = .held ∧ s.intake = readA :: List.replicate 7 readA ∧
     (List.replicate 7 readA).length < 8) := by decide +kernel

theorem witness_RoundEndsInClosing :
    let r := { round0 with holdTimer := some 1000, roundTimer := some 1000 }
    let s := inRound .held r
    s.round = some r ∧ s.engine = .held ∧ fires r.holdTimer s.gateTime = true ∧ fires r.roundTimer s.gateTime = true ∧
    (inRound .fieldSettle r).engine = .fieldSettle ∧ (inRound .frame r).engine = .frame := by decide +kernel

theorem witness_FieldSettleOpensFirstFrame :
    let r := fun (l : GrantLabel) => { round0 with label := l, slot := 0, frames := 0, settleTimer := some 1000 }
    (∀ l ∈ [GrantLabel.hot, .retry], (inRound .fieldSettle (r l)).engine = .fieldSettle ∧
      (inRound .fieldSettle (r l)).round = some (r l) ∧ fires (r l).settleTimer 1000 = true ∧ (r l).slot = 0 ∧
      (inRound .fieldSettle (r l)).intake.length < 8) ∧ (r .hot).label ≠ .retry ∧ (r .retry).label = .retry ∧
    ¬({ inRound .fieldSettle (r .hot) with intake := List.replicate 8 readA } : State).intake.length < 8 := by
  decide +kernel

theorem witness_FieldOffAckEndsRound :
    State.reset.engine = .closing ∧ State.reset.round = none ∧
    (∀ r ∈ [{ round0 with cause := some .quietFrame }, { round0 with cause := some .withdrawn, label := .retry },
        { round0 with cause := some .fieldFault }],
      (inRound .closing r).engine = .closing ∧ (inRound .closing r).round = some r) ∧
    (inRound .closing round0).antennas[round0.antenna].settled = false := by decide +kernel

/-- A hot antenna, a due retry, a background choice, and none. -/
theorem witness_ChoiceFollowsPrecedence :
    ({ gate with passages := [crossing] } : State).choice = some (0, .hot) ∧
    (∀ a, (gate.eligible a && gate.hot a) = false) ∧ gate.backgroundPassed = false ∧
    ({ gate with bgTimer := none } : State).backgroundPassed = true ∧
    ({ gate with bgTimer := none, antennas := gate.antennas.set 1 ⟨true, false, false, .due⟩ } : State).choice =
      some (1, .retry) ∧
    ({ gate with bgTimer := none, lastGranted := some 2 } : State).choice = some (0, .background) := by decide +kernel

theorem witness_TimersGrantRounds :
    retryFires ({ gate with antennas := gate.antennas.set 1 ⟨true, false, false, .running 1000⟩ } : State).antennas[1].retry
      gate.gateTime = true ∧
    (let s := { gate with bgTimer := some 1000 }
     fires s.bgTimer s.gateTime = true ∧ s.grant = none ∧ s.engine = .idle ∧ s.choice = some (0, .background) ∧
     ({ s with passages := [crossing] } : State).choice = some (0, .hot)) ∧
    (inRound .frame round0).grant ≠ none ∧ gate.choice = none := by decide +kernel

theorem witness_StrengthIsLogarithmic :
    (2 ^ 4 ≤ 16 ∧ 16 < 2 ^ (4 + 1)) ∧ (2 ^ 4 ≤ 31 ∧ 31 < 2 ^ (4 + 1)) ∧ (2 ^ 11 ≤ 4095 ∧ 4095 < 2 ^ (11 + 1)) := by decide

theorem witness_MergeUpdatesEntry :
    (∀ st ∈ [SightState.active, .resident #v[0, 20, 0, 0, 0], .resident #v[0, 37, 0, 0, 0], .claimed 3 .in_],
      let e := { seen with state := st }
      let s := { gate with sightings := [e] }
      s.sighting? readA.item = some e ∧ e.history.length ≤ 12 ∧ s.paramLaw) ∧
    gate.strength readA = 49 ∧ elapsed seen.firstSeen readA.time < gate.params.residentTime * 1000 ∧
    gate.params.residentTime * 1000 ≤ elapsed (4294948286 : Time) readA.time := by decide +kernel

theorem witness_EntriesComeAndGo :
    (let s := { gate with sightings := [{ seen with ageExpiry := 1000 }] }
     s.sighting? seen.item = some { seen with ageExpiry := 1000 } ∧ due s.gateTime 1000 = true) ∧
    gate.intake = [] ∧
    (let s := { gate with intake := [readA] }
     s.intake = readA :: [] ∧ s.sighting? readA.item = none ∧ 1 ≤ s.params.residentTime ∧
     ∀ k : Lane, s.trackers[k] ≠ some .fault) := by decide +kernel

/-- A full sighting table: item numbers 0 to 127, last seen one millisecond after another. -/
def crowded : State :=
  { gate with sightings := (List.range 128).map fun i =>
      { seen with item := BitVec.ofNat 64 i, lastSeen := BitVec.ofNat 32 (100 + i) } }

theorem witness_EvictionOrder :
    crowded.sightings.length = 128 ∧ (∀ e ∈ crowded.sightings, (e.lastSeen - 0).toNat < 2 ^ 31) ∧
    crowded.sightings.Pairwise (fun a b => a.item.toNat < b.item.toNat) := by decide +kernel

theorem witness_ClaimTable :
    gate.sighting? seen.item = none ∧
    (∀ st ∈ [SightState.active, .resident #v[0, 0, 0, 0, 0], .claimed 3 .in_, .claimed 3 .unknown],
      ({ gate with sightings := [{ seen with state := st }] } : State).sighting? seen.item = some { seen with state := st }) ∧
    ({ gate with sightings := [seen] } : State).claimGranted seen.item .in_ = true ∧
    gate.claimGranted seen.item .out = false := by decide +kernel

theorem witness_ItemsAreJudgedInSteps :
    asking.item? ⟨7, 0⟩ = some itemA ∧ itemA.classFields = some ⟨.check, false, false, false⟩ ∧
    asking.classes[0].covers itemA = true ∧ (∀ i : Fin 8, ({ asking with
      classes := Vector.replicate 8 ⟨false, 0, 0, 0, 0, 0, unmatchedClass⟩ } : State).classes[i].covers itemA = false) ∧
    asking.judgeOutward itemA ⟨.exempt, false, false, false⟩ = some ⟨.pass, .exemptClass⟩ ∧
    asking.judgeOutward itemA ⟨.check, false, false, false⟩ = none := by decide +kernel

theorem witness_AlarmsSoundAndEnd :
    asking.passage? judged.number = some judged ∧ judged.judging = some ⟨false, 1⟩ ∧
    ({ judged with judging := some ⟨true, 1⟩ } : Passage).judging = some ⟨true, 1⟩ ∧
    fires ({ gate with alarms := gate.alarms.set 0 ⟨.sounding, some 1000⟩ } : State).alarms[0].timer gate.gateTime = true := by
  decide +kernel

/-- A loan list of 512 entries. -/
def lent : State :=
  { gate with loans := (List.range 512).map fun i => ⟨BitVec.ofNat 64 i, 500, 1000⟩ }

theorem witness_LoanListChanges :
    (512 ≤ lent.loans.length ∧ ¬(∃ l ∈ lent.loans, l.item = 512) ∧ (∃ l ∈ lent.loans, l.item = 3)) ∧
    (gate.loans.length < 512 ∧ gate.ready ∧ 1 ≤ [itemA.item].length ∧ [itemA.item].length ≤ 16) ∧
    (let s := { gate with loans := [⟨9, 500, 1000⟩] }
     (⟨9, 500, 1000⟩ : Loan) ∈ s.loans ∧ (s.loans.map Loan.item).Nodup ∧ due s.gateTime 1000 = true) := by decide +kernel

/-- A question due and answerable, and the same with a passage that has another item without verdict. -/
theorem witness_QuestionsEnd :
    let q : Question := ⟨true, ⟨7, 0⟩, itemA.item, 1, 1000, queryBody 0 itemA 0 7⟩
    (asking.linkLaw ∧ (asking.passages.map Passage.number).Nodup ∧ asking.slots[0] = some q ∧
     asking.passage? q.ref.passage = some judged ∧ judged.phase = .judging ∧ judged.judging = some ⟨false, 1⟩ ∧
     judged.items[q.ref.position]? = some itemA ∧ itemA.ruling = none ∧
     itemA.classFields = some ⟨.check, false, false, false⟩ ∧ due asking.gateTime q.timer = true ∧ asking.ready) ∧
    (4 ≤ (4 : Byte).toNat ∧ 4 ≤ (4 : Byte).toNat ∧ gate.ready) := by decide +kernel

/-- A free slot while the transmitter is FREE, all slots in flight, and a waiting item that a free slot is handed to. -/
theorem witness_QuestionsEnd_slots :
    (asking.passage? 7 = some judged ∧ judged.items[0]? = some itemA ∧ asking.sending = none ∧ asking.reply = none ∧
     asking.pendingSlots = [] ∧ asking.slots[1] = none ∧ (∀ i : SlotNo, i < 1 → asking.slots[i] ≠ none)) ∧
    (∀ j : SlotNo, ({ asking with slots := Vector.replicate 4 asking.slots[0] } : State).slots[j] ≠ none) ∧
    (let s := { asking with waiting := [⟨7, 0⟩] }
     (∀ r ∈ s.waiting, (s.item? r).isSome = true) ∧ s.waiting = ⟨7, 0⟩ :: [] ∧ s.linked = true ∧
     ∃ j : SlotNo, s.slots[j] = none) ∧ gate.waiting = [] := by
  refine ⟨by decide +kernel, by decide +kernel, by decide +kernel, by decide +kernel⟩

/-- A passage in JUDGING with its one item in slot 0, the transmitter FREE and SENDING. -/
theorem witness_SilenceResolvesQuestions :
    let s := { asking with silence := some 1000, trackers := #v[some .clear, some .clear, none, none] }
    fires s.silence s.gateTime = true ∧ s.passageLaw ∧ s.queryLaw ∧ s.linkLaw ∧ s.counterLaw ∧
    judged ∈ s.passages ∧ judged.phase = .judging ∧
    ({ s with sending := some ⟨[], false⟩ } : State).linkLaw := by
  refine ⟨by decide +kernel, by decide +kernel, by decide +kernel, by decide +kernel, by decide +kernel, by decide +kernel,
    by decide +kernel, by decide +kernel⟩

theorem witness_LinesFollowSources :
    let s := { gate with alarms := gate.alarms.set 0 ⟨.sounding, some 2000⟩ }
    let r : Resume := ⟨0, false, some 1200⟩
    (s.lines[4].active = false ∧ s.lineDriven 4 = true ∧ s.lines[4].resume = none) ∧
    (gate.lines[4].active = gate.lineDriven 4) ∧
    (State.reset.lines[5].active = true ∧ ({ State.reset with linked := true } : State).lineDriven 5 = false) ∧
    (let u := s.modLine 4 fun l => { l with resume := some r }
     u.lines[4].active = false ∧ u.lineDriven 4 = true ∧ u.lines[4].resume = some r ∧ u.lines[4].pulsed = true ∧
     u.alarms[r.lane].state = .sounding ∧ u.routes[3 * r.lane.val].getLsbD 4 = true ∧
     ¬({ u with routes := u.routes.set 0 0 } : State).routes[3 * r.lane.val].getLsbD 4 = true) ∧
    fires ((s.recomputeLines).modLine 4 fun l => { l with pulse := some 1000 }).lines[4].pulse s.gateTime = true ∧
    fires (gate.modLine 4 fun l => { l with test := some 1000 }).lines[4].test gate.gateTime = true := by decide +kernel

/-- The greatest operands that each clause of `AlarmUnitMessages` admits. -/
theorem witness_AlarmUnitMessages : gate.ready ∧ (15 : Byte).toNat < 16 ∧ (63 : Byte).toNat < 64 := by decide +kernel

theorem witness_messages_ready : gate.ready ∧ asking.ready ∧ State.reset.ready := by decide +kernel

theorem witness_ReadMessagesAnswer :
    gate.ready ∧ 1 ≤ [(1 : Byte), 27].length ∧ [(1 : Byte), 27].length ≤ 20 ∧
    ∀ i ∈ [(1 : Byte), 27], 1 ≤ i.toNat ∧ i.toNat ≤ 27 := by decide +kernel

theorem witness_SetStoresValues :
    (∀ pairs ∈ [[((0 : Nat), (5 : Int))], [(28, 5)], [(1, 4)], [(18, 0), (13, -32768), (27, 32767)], [(12, 20)]],
      1 ≤ pairs.length ∧ pairs.length ≤ 20 ∧ ∀ p ∈ pairs, p.1 < 256 ∧ -32768 ≤ p.2 ∧ p.2 ≤ 32767) ∧
    gate.ready ∧ asking.passages ≠ [] ∧ gate.passages = [] ∧ gate.params.lanes ≠ 4 := by decide +kernel

/-- The clauses of `RefusedFrames` at their lowest refused values. -/
theorem witness_RefusedFrames :
    gate.ready ∧ (0x80 : Byte) ∉ acceptedCodes ∧ (0x13 : Byte) ∉ acceptedCodes ∧ ([] : List Byte).length + 1 ∉ [2] ∧
    (List.replicate 20 (8 : Byte)).length = 20 ∧ 8 ≤ ((List.replicate 20 (8 : Byte)).getD 0 0).toNat ∧
    3 ≤ ((List.replicate 20 (3 : Byte)).getD 16 0).toNat ∧ 4 ≤ ((List.replicate 7 (4 : Byte)).getD 0 0).toNat ∧
    (∃ b ∈ [(28 : Byte)], b = 0 ∨ 28 ≤ b.toNat) ∧ 13 ≤ (13 : Byte).toNat ∧ 64 ≤ (64 : Byte).toNat ∧
    6 ≤ (6 : Byte).toNat ∧ 16 ≤ (16 : Byte).toNat := by decide +kernel

theorem witness_FramesWaitOrAreLost :
    (let s := { gate with reply := some [], sending := some ⟨[], false⟩ }
     (s.reply ≠ none ∨ s.restartPending = true) ∧ s.buffers.length < 2 ∧
     2 ≤ ({ s with buffers := [[0x10], [0x10]] } : State).buffers.length) ∧
    (let s := { gate with rx := .length (some 1), gap := some 1000 }
     fires s.gap s.gateTime = true ∧ s.rx ≠ .hunt ∧ s.rx = .length (some 1)) ∧ gate.rx = .hunt ∧
    ({ gate with rx := .check 1 [0x10] (some 0) } : State).rx = .check 1 [0x10] (some 0) ∧
    [(0 : Byte), 0] ≠ toBytes 2 (crc (toBytes 2 1 ++ [0x10])).toNat := by decide +kernel

/-- The lengths 0, 1, 400 and 401: the ends of the range are taken, the values beyond it discarded (R157). -/
theorem witness_FramesWaitOrAreLost_lengths :
    let s := fun (hi : Byte) => { gate with rx := .length (some hi), gap := some 1010 }
    gives (.byteReceived 0 true) (s 0) (fun t => t.rx == .hunt && t.device.framesRejected == 1) = true ∧
    gives (.byteReceived 1 true) (s 0) (fun t => t.rx == .body 1 []) = true ∧
    gives (.byteReceived 0x90 true) (s 1) (fun t => t.rx == .body 400 []) = true ∧
    gives (.byteReceived 0x91 true) (s 1) (fun t => t.rx == .hunt && t.device.framesRejected == 1) = true := by
  decide +kernel

/-- The gate while a frame is being sent, and the same with both queues full. -/
def sendingGate : State := { gate with sending := some ⟨[], false⟩ }
/-- Both queues full. -/
def queuesFull : State := { sendingGate with reports := List.replicate 16 [], notices := List.replicate 8 [] }

theorem witness_TransmitterPrecedence_law : sendingGate.linkLaw := by decide +kernel
theorem witness_TransmitterPrecedence_free : gate.linkLaw := by decide +kernel
theorem witness_TransmitterPrecedence_full : queuesFull.linkLaw := by decide +kernel

theorem witness_TransmitterPrecedence :
    let s := sendingGate
    (s.sending = some ⟨[], false⟩ ∧ s.restartPending = false) ∧
    (({ s with reply := some [1] } : State).reply = some [1] ∧ ({ s with buffers := [[0x10]] } : State).buffers = [[0x10]]) ∧
    (s.reply = none ∧ s.buffers = [] ∧ s.notices = [] ∧ s.reports = []) ∧
    s.notices.length < 8 ∧ 8 ≤ queuesFull.notices.length ∧
    s.reports.length < 16 ∧ 16 ≤ queuesFull.reports.length := by decide +kernel

/-- Two PENDING questions, the earlier of them in slot 1. -/
theorem witness_TransmitterPrecedence_questions :
    let q : Question := ⟨false, ⟨7, 0⟩, itemA.item, 1, 1400, []⟩
    let s := { gate with sending := some ⟨[], false⟩, slots := #v[some { q with order := 2 }, some q, none, none] }
    s.slots[1] = some q ∧ q.asked = false ∧ before q.order (2 : BitVec 32) = true ∧
    gives .frameLeftLine s (fun t => t.slots[1] == some { q with asked := true } && t.slots[0] == s.slots[0]) = true := by
  decide +kernel

theorem witness_BytesMakeTheCommand :
    gate.rx = .hunt ∧ gate.gap = none ∧ (List.replicate 399 (0 : Byte)).length ≤ 399 ∧
    leads ((frameOf [0x2A]).map fun b => .byteReceived b true) lent (fun t => t.loans == []) = true := by decide +kernel

/-- `EventsKeepOtherBlocks` and `CountersOnlyRise`: a command they cover has a next state in a lawful state. -/
theorem witness_frames_and_counters :
    Instr.fieldFault.wellFormed = true ∧ (inRound .frame round0).linkLaw ∧ (inRound .frame round0).counterLaw ∧
    gives .fieldFault (inRound .frame round0) (fun t => t.linkCounters[0].fieldFaults == 1) = true := by decide +kernel

/-- A round, a passage, a question, a sighting and a command that waits. -/
def busyGate : State :=
  { asking with sightings := [seen], engine := .frame, round := some round0, grant := some ⟨0, .hot⟩, field := some 0,
                pending := [.slotReport .silence] }

/-- The invariants' premises hold in a state with a round, a passage, a question and a sighting, and a step from it has a next
state. -/
theorem witness_EveryStepKeepsRadioLaw :
    (busyGate.paramLaw ∧ busyGate.antennaLaw) ∧ busyGate.fieldLaw ∧ busyGate.frameLaw := by decide +kernel
theorem witness_EveryStepKeepsLinesWithSources : busyGate.antennaLaw ∧ busyGate.lineLaw := by decide +kernel
theorem witness_EveryStepKeepsPassageTable : busyGate.passageLaw := by decide +kernel
theorem witness_EveryStepKeepsTables : busyGate.sightingLaw ∧ busyGate.loanLaw ∧ busyGate.counterLaw := by decide +kernel
theorem witness_EveryStepKeepsQuestions : busyGate.passageLaw ∧ busyGate.queryLaw := by
  exact ⟨by decide +kernel, by decide +kernel⟩
theorem witness_EveryStepKeepsLink : busyGate.linkLaw := by decide +kernel
theorem witness_EveryStepKeeps_next :
    (match step busyGate with
     | .next t => t.engine == .frame
     | .fault _ => false
     | .refused _ => false) = true := by decide +kernel

end Sys2Proof.Tests
end

section
/-! SUPPORT. The pure functions of the tag link (CRC, rate lock, owner filter, frame exponent), and the two resets. -/

namespace Sys2Proof.Machine

/-! ### The CRC register (R36) -/

/-- A message bit equal to the register's top bit shifts the register and no more (R36). -/
theorem crcBit_topBit (r : BitVec 16) : crcBit r (r.getLsbD 15) = r <<< 1 := by
  simp [crcBit]

/-- A register fed its own bits from bit `n - 1` down, after it has been shifted so far that this bit is on top, is
shifted out. -/
theorem foldl_crcBit_ownBits (r : BitVec 16) (n : Nat) :
    ∀ i, i + n = 16 → ((List.range n).reverse.map r.getLsbD).foldl crcBit (r <<< i) = 0 := by
  induction n with
  | zero =>
    intro i hi
    obtain rfl : i = 16 := hi
    exact BitVec.shiftLeft_eq_zero (Nat.le_refl 16)
  | succ n ih =>
    intro i hi
    obtain rfl : n = 15 - i := by omega
    have htop : r.getLsbD (15 - i) = (r <<< i).getLsbD 15 := by
      have : ¬15 < i := by omega
      rw [BitVec.getLsbD_shiftLeft]; simp [this]
    have hnext : r <<< i <<< 1 = r <<< (i + 1) := BitVec.shiftLeft_add r i 1 |>.symm
    rw [List.range_succ, List.reverse_append, List.reverse_singleton, List.singleton_append, List.map_cons,
      List.foldl_cons, htop, crcBit_topBit, hnext]
    exact ih (i + 1) (by omega)

/-- The two check bytes spell the register's bits, most significant first (R155). -/
theorem flatMap_byteBits_toBytes (r : BitVec 16) :
    (toBytes 2 r.toNat).flatMap byteBits = (List.range 16).reverse.map r.getLsbD := by
  have hhigh (i : Nat) (hi : i < 8) : (BitVec.ofNat 8 (r.toNat / 256))[i] = r.getLsbD (8 + i) := by
    rw [← BitVec.getLsbD_eq_getElem, BitVec.getLsbD_ofNat, decide_eq_true hi, Bool.true_and]
    rw [show 256 = 2 ^ 8 from rfl, Nat.testBit_div_two_pow, Nat.add_comm, BitVec.testBit_toNat]
  simp [toBytes, byteBits, List.range_succ, hhigh]

theorem crc_append (a b : List Byte) : crc (a ++ b) = (b.flatMap byteBits).foldl crcBit (crc a) := by
  simp [crc, crcBits]

/-- Settles O21: the check value by evaluation; the rest because each check bit meets itself on top of the register. -/
theorem crcLeavesZeroOverItself : Obligations.CrcLeavesZeroOverItself := by
  refine ⟨by decide +kernel, fun bytes => ?_⟩
  rw [crc_append, flatMap_byteBits_toBytes]
  have hzero := foldl_crcBit_ownBits (crc bytes) 16 0 rfl
  rwa [BitVec.shiftLeft_zero] at hzero

/-! ### Rate lock and polarity (R33 to R35) -/

theorem bitsNat_append_singleton (bits : List Bool) (b : Bool) :
    bitsNat (bits ++ [b]) = bitsNat bits * 2 + b.toNat := by
  simp [bitsNat]

/-- A run of bits spells a number below 2 to the power of its length. -/
theorem bitsNat_lt (bits : List Bool) : bitsNat bits < 2 ^ bits.length := by
  induction bits using List.reverseRecOn with
  | nil => decide
  | append_singleton bits b ih =>
    rw [bitsNat_append_singleton, List.length_append, List.length_singleton, Nat.pow_succ]
    have := b.toNat_lt
    omega

/-- A word spelt by at most `w` bits is `p` exactly when the bits spell the number of `p`. -/
theorem ofNat_bitsNat_eq_iff {w : Nat} (bits : List Bool) (p : BitVec w) (h : bits.length ≤ w) :
    BitVec.ofNat w (bitsNat bits) = p ↔ bitsNat bits = p.toNat := by
  have hlt : bitsNat bits < 2 ^ w := (bitsNat_lt bits).trans_le (Nat.pow_le_pow_right (by decide) h)
  rw [← BitVec.toNat_inj, BitVec.toNat_ofNat, Nat.mod_eq_of_lt hlt]

/-- The entry that a reply is taken against is the lowest-numbered one that accepts it (R34). -/
theorem lockedEntry_of_lowest (rates : Vector RateEntry 4) (len : Nat) (i : Fin 4) (hi : rates[i].accepts len = true)
    (hlow : ∀ j : Fin 4, j < i → rates[j].accepts len = false) : lockedEntry rates len = some rates[i] := by
  refine List.find?_eq_some_iff_getElem.mpr ⟨hi, i.val, by simp, by simp, fun j hj => ?_⟩
  simpa using hlow ⟨j, by omega⟩ hj

theorem lockedEntry_of_none (rates : Vector RateEntry 4) (len : Nat) (h : ∀ i : Fin 4, rates[i].accepts len = false) :
    lockedEntry rates len = none := by
  refine List.find?_eq_none.mpr fun e he => ?_
  obtain ⟨i, hi, rfl⟩ := List.mem_iff_getElem.mp he
  simpa using h ⟨i, by simpa using hi⟩

/-- A reply against the entry it is locked to, by the number its sync word spells (R33, R35). -/
theorem decideReply_of_locked (rates : Vector RateEntry 4) (len : Nat) (bits : List Bool) (e : RateEntry)
    (he : lockedEntry rates len = some e) (hlen : 16 ≤ bits.length) :
    decideReply rates len bits =
      if bitsNat (bits.take 16) = e.pattern.toNat then
        (if bits.length < 120 then .corrupt else decideRecord ((bits.drop 16).take 104))
      else if bitsNat (bits.take 16) = 65535 - e.pattern.toNat then
        (if bits.length < 120 then .corrupt else decideRecord (((bits.drop 16).take 104).map not))
      else .noise := by
  have hword : (bits.take 16).length ≤ 16 := List.length_take_le 16 bits
  have hnot : (~~~e.pattern).toNat = 65535 - e.pattern.toNat := BitVec.toNat_not
  have hshort : (bits.drop 16).length < 104 ↔ bits.length < 120 := by rw [List.length_drop]; omega
  simp only [decideReply, he, Nat.not_lt.mpr hlen, if_false, ofNat_bitsNat_eq_iff _ _ hword, hnot, hshort]

theorem decideReply_short (rates : Vector RateEntry 4) (len : Nat) (bits : List Bool) (h : bits.length < 16) :
    decideReply rates len bits = .noise := by
  unfold decideReply
  split
  · rfl
  · exact if_pos h

/-- An entry accepts the lengths from its nominal length less its tolerance to their sum (R34). -/
theorem accepts_iff (e : RateEntry) (len : Nat) :
    e.accepts len = true ↔ e.enabled = true ∧ e.nominal ≤ len + e.tolerance ∧ len ≤ e.nominal + e.tolerance := by
  simp [RateEntry.accepts, and_assoc]

/-- Settles O22, by the entry that locks and the number that the sync word spells. -/
theorem rateLockAndPolarity : Obligations.RateLockAndPolarity := by
  intro rates len bits
  refine ⟨fun i hi hlow => ?_, fun hnone => ?_, fun i => ?_, ?_, ?_⟩
  · have hlock := lockedEntry_of_lowest rates len i hi hlow
    refine ⟨decideReply_short rates len bits, fun hlen hsync => ?_, fun hlen hsync => ?_, fun hlen hne hne' => ?_⟩
    all_goals rw [decideReply_of_locked rates len bits _ hlock hlen]
    · rw [if_pos hsync]
    · have : bitsNat (bits.take 16) ≠ rates[i].pattern.toNat := by omega
      rw [if_neg this, if_pos hsync]
    · rw [if_neg hne, if_neg hne']
  · rw [decideReply, lockedEntry_of_none rates len hnone]
  · rw [accepts_iff]
    exact and_congr_right fun _ => by omega
  · simp [accepts_iff, State.reset, stockRates]
  · simp [accepts_iff, State.reset, stockRates]

/-! ### The owner filter (R38) -/

theorem ownerMatches_iff (code mask owner : BitVec 16) :
    ownerMatches code mask owner = true ↔ owner &&& mask = code &&& mask := by
  simp [ownerMatches]

/-- Settles O23: blank and other codes apart, by the definition of a match. -/
theorem ownerFilterPasses : Obligations.OwnerFilterPasses := by
  refine ⟨fun f o => ?_, fun code o => ⟨by simp, ?_⟩, fun o => ?_⟩
  · by_cases ho : o = 0#16
    · simp [OwnerFilter.accepts, ho]
    · simp [OwnerFilter.accepts, ho, ownerMatches_iff]
  · rw [show (0xFFFF : BitVec 16) = BitVec.allOnes 16 from rfl, BitVec.and_allOnes, BitVec.and_allOnes]
  · by_cases ho : o = 0#16
    · simp [OwnerFilter.accepts, State.reset, stockOwner, ho]
    · simp [OwnerFilter.accepts, State.reset, stockOwner, ho, ownerMatches_iff]

/-! ### The frame exponent (R39) -/

theorem adjustExp_le (f c e : Nat) (h : f ≤ Config.maxExp) : adjustExp f c e ≤ Config.maxExp := by
  unfold adjustExp
  split
  · next hup => exact hup.2
  · split <;> omega

/-- Settles O24, along the three branches of `adjustExp`. -/
theorem frameExponentFollowsTallies : Obligations.FrameExponentFollowsTallies := by
  intro f c s e hf hsum
  refine ⟨fun hec hlt => if_pos ⟨hec, hlt⟩, fun hup hc hhalf hpos => ?_, fun hup hdown => ?_,
    adjustExp_le f c e hf, ?_, ?_⟩
  · exact (if_neg hup).trans (if_pos ⟨hc, hhalf, hpos⟩)
  · exact (if_neg hup).trans (if_neg hdown)
  · rintro rfl rfl
    exact if_pos ⟨by omega, by decide⟩
  · rintro rfl rfl
    simp [adjustExp]

/-! ### Power-on -/

/-- Settles O5: both resets are `powerUp`, which sets every field but the inputs, the air log and the queue afresh. -/
theorem powerOnTakesDefaults : Obligations.PowerOnTakesDefaults :=
  fun a b s => ⟨s.powerUp .powerOn a b, rfl, rfl, rfl⟩

end Sys2Proof.Machine
end

section
/-! SUPPORT. The parameter store: the ranges of R181 value by value, and what a SET stores. -/

namespace Sys2Proof.Machine

/-- Whether a natural number lies between two bounds. -/
def Within (lo hi x : Nat) : Prop := lo ≤ x ∧ x ≤ hi

/-- The ranges of R181, value by value; the flags are in range whatever they are. -/
structure Params.Ranged (p : Params) : Prop where
  lanes : Within 1 4 p.lanes
  beamFilter : Within 1 50 p.beamFilter
  followGap : Within 100 1000 p.followGap
  beamStuck : Within 5 255 p.beamStuck
  leadTime : Within 0 1000 p.leadTime
  settleTime : Within 0 1000 p.settleTime
  sightAge : Within 500 10000 p.sightAge
  residentTime : Within 5 600 p.residentTime
  residentJump : Within 4 40 p.residentJump
  attrMin : Within 0 245 p.attrMin
  roundMax : Within 10 100 p.roundMax
  bgInterval : Within 20 1000 p.bgInterval
  startExp : Within 0 7 p.startExp
  queryTimeout : Within 50 2000 p.queryTimeout
  loanLife : Within 1 1440 p.loanLife
  alarmTime : Within 0 255 p.alarmTime
  silenceLimit : Within 0 60 p.silenceLimit
  trims : ∀ a : Antenna, -16 ≤ p.trims[a] ∧ p.trims[a] ≤ 15

theorem Params.inRange_iff (p : Params) : p.inRange = true ↔ p.Ranged := by
  have hflag (b : Bool) : 0 ≤ flagInt b ∧ flagInt b ≤ 1 := by cases b <;> decide
  have hconj : p.inRange = true ↔ Within 1 4 p.lanes ∧ Within 1 50 p.beamFilter ∧ Within 100 1000 p.followGap ∧
      Within 5 255 p.beamStuck ∧ Within 0 1000 p.leadTime ∧ Within 0 1000 p.settleTime ∧
      Within 500 10000 p.sightAge ∧ Within 5 600 p.residentTime ∧ Within 4 40 p.residentJump ∧
      Within 0 245 p.attrMin ∧ Within 10 100 p.roundMax ∧ Within 20 1000 p.bgInterval ∧ Within 0 7 p.startExp ∧
      Within 50 2000 p.queryTimeout ∧ Within 1 1440 p.loanLife ∧ Within 0 255 p.alarmTime ∧
      Within 0 60 p.silenceLimit ∧ ∀ a : Antenna, -16 ≤ p.trims[a] ∧ p.trims[a] ≤ 15 := by
    simp [Params.inRange, paramIds, List.range_succ, paramRange, Params.get, hflag, Fin.forall_fin_succ, Within]
  rw [hconj]
  constructor
  · rintro ⟨h1, h2, h3, h4, h5, h6, h7, h8, h9, h10, h11, h12, h13, h14, h15, h16, h18, h19⟩
    exact ⟨h1, h2, h3, h4, h5, h6, h7, h8, h9, h10, h11, h12, h13, h14, h15, h16, h18, h19⟩
  · rintro ⟨h1, h2, h3, h4, h5, h6, h7, h8, h9, h10, h11, h12, h13, h14, h15, h16, h18, h19⟩
    exact ⟨h1, h2, h3, h4, h5, h6, h7, h8, h9, h10, h11, h12, h13, h14, h15, h16, h18, h19⟩

theorem within_toNat {lo hi : Nat} {v : Int} (h : (lo : Int) ≤ v ∧ v ≤ hi) : Within lo hi v.toNat := by
  constructor <;> omega

theorem trims_set {t : Vector Int 5} (h : ∀ a : Antenna, -16 ≤ t[a] ∧ t[a] ≤ 15) (i : Nat) (hi : i < 5) (v : Int)
    (hv : -16 ≤ v ∧ v ≤ 15) (a : Antenna) : -16 ≤ (t.set i v)[a] ∧ (t.set i v)[a] ≤ 15 := by
  have ha := h a
  simp only [Fin.getElem_fin, Vector.getElem_set] at *
  split
  · exact hv
  · exact ha

/-- A stored value lies in its parameter's range (R182). -/
theorem paramClamp_mem (id : Nat) (v : Int) (h : paramIsFlag id = false) (hr : (paramRange id).1 ≤ (paramRange id).2) :
    (paramRange id).1 ≤ paramClamp id v ∧ paramClamp id v ≤ (paramRange id).2 := by
  rw [paramClamp, h, if_neg Bool.false_ne_true]
  omega

/-- A value in its parameter's range can be stored (R181). -/
theorem Params.Ranged.put {p : Params} (h : p.Ranged) (id : Nat) (w : Int) : (p.put id (paramClamp id w)).Ranged := by
  have hv := paramClamp_mem id w
  generalize paramClamp id w = v at hv
  match id, hv with
  | 0, _ => exact h
  | 1, hv => exact { h with lanes := within_toNat (hv rfl (by decide)) }
  | 2, hv => exact { h with beamFilter := within_toNat (hv rfl (by decide)) }
  | 3, hv => exact { h with followGap := within_toNat (hv rfl (by decide)) }
  | 4, hv => exact { h with beamStuck := within_toNat (hv rfl (by decide)) }
  | 5, hv => exact { h with leadTime := within_toNat (hv rfl (by decide)) }
  | 6, hv => exact { h with settleTime := within_toNat (hv rfl (by decide)) }
  | 7, hv => exact { h with sightAge := within_toNat (hv rfl (by decide)) }
  | 8, hv => exact { h with residentTime := within_toNat (hv rfl (by decide)) }
  | 9, hv => exact { h with residentJump := within_toNat (hv rfl (by decide)) }
  | 10, hv => exact { h with attrMin := within_toNat (hv rfl (by decide)) }
  | 11, hv => exact { h with roundMax := within_toNat (hv rfl (by decide)) }
  | 12, hv => exact { h with bgInterval := within_toNat (hv rfl (by decide)) }
  | 13, hv => exact { h with startExp := within_toNat (hv rfl (by decide)) }
  | 14, hv => exact { h with queryTimeout := within_toNat (hv rfl (by decide)) }
  | 15, hv => exact { h with loanLife := within_toNat (hv rfl (by decide)) }
  | 16, hv => exact { h with alarmTime := within_toNat (hv rfl (by decide)) }
  | 17, _ => exact { h with }
  | 18, hv => exact { h with silenceLimit := within_toNat (hv rfl (by decide)) }
  | 19, hv => exact { h with trims := trims_set h.trims 0 (by decide) v (hv rfl (by decide)) }
  | 20, hv => exact { h with trims := trims_set h.trims 1 (by decide) v (hv rfl (by decide)) }
  | 21, hv => exact { h with trims := trims_set h.trims 2 (by decide) v (hv rfl (by decide)) }
  | 22, hv => exact { h with trims := trims_set h.trims 3 (by decide) v (hv rfl (by decide)) }
  | 23, hv => exact { h with trims := trims_set h.trims 4 (by decide) v (hv rfl (by decide)) }
  | 24, _ | 25, _ | 26, _ | 27, _ => exact { h with }
  | _ + 28, _ => exact h

/-- Only a SET of LANES changes LANES. -/
theorem Params.put_lanes (p : Params) (id : Nat) (v : Int) (h : id ≠ 1) : (p.put id v).lanes = p.lanes := by
  unfold Params.put
  split <;> trivial

end Sys2Proof.Machine
end

section
/-! SUPPORT. Events without effect: a command whose timer does not fire leaves the state as it is. -/

namespace Sys2Proof.Machine

theorem passage?_mem {s : State} {n : Nat} {p : Passage} (h : s.passage? n = some p) :
    p ∈ s.passages ∧ p.number = n :=
  ⟨List.mem_of_find?_eq_some h, by simpa using List.find?_some h⟩

theorem sighting?_mem {s : State} {i : ItemNo} {e : Sighting} (h : s.sighting? i = some e) :
    e ∈ s.sightings ∧ e.item = i :=
  ⟨List.mem_of_find?_eq_some h, by simpa using List.find?_some h⟩

section NoEffect
variable (s : State)

theorem slotReport_of_not_frame (rep : SlotReport) (h : s.engine ≠ .frame) : slotReport rep s = s := by
  unfold slotReport
  split
  · contradiction
  · rfl

theorem fieldFault_of_fieldOff (h : s.engine = .idle ∨ s.engine = .closing) : fieldFault s = s := by
  have hoff : s.roundOn = false := by rcases h with h | h <;> simp [State.roundOn, h]
  unfold fieldFault
  split
  · rw [hoff, if_neg Bool.false_ne_true]
  · rfl

theorem fieldOffAck_of_not_closing (h : s.engine ≠ .closing) : fieldOffAck s = s :=
  if_neg fun he => h (eq_of_beq he)

theorem beamFilterExpiry_of_not_fires (k : Lane) (x : Beam)
    (h : filterFires (s.beam k x).filter s.gateTime = false) : beamFilterExpiry k x s = s := by
  unfold beamFilterExpiry
  split
  · next t ht =>
    rw [ht] at h
    exact if_neg (Bool.eq_false_iff.mp h)
  · rfl

theorem stuckTimerExpiry_of_not_fires (k : Lane) (x : Beam)
    (h : fires (s.beam k x).stuck s.gateTime = false) : stuckTimerExpiry k x s = s := by
  unfold stuckTimerExpiry
  split
  · next e he =>
    rw [he] at h
    exact if_neg (Bool.eq_false_iff.mp h)
  · rfl

theorem keyFilterExpiry_of_not_fires (h : filterFires s.key.filter s.gateTime = false) : keyFilterExpiry s = s := by
  unfold keyFilterExpiry
  split
  · next t ht =>
    rw [ht] at h
    exact if_neg (Bool.eq_false_iff.mp h)
  · rfl

theorem presenceTimerExpiry_of_not_fires (n : Nat)
    (h : ∀ p ∈ s.passages, p.number = n → fires p.presence s.gateTime = false) : presenceTimerExpiry n s = s := by
  unfold presenceTimerExpiry
  split
  · next p hp =>
    obtain ⟨hmem, hn⟩ := passage?_mem hp
    split
    · next e he =>
      have hstill := h p hmem hn
      rw [he] at hstill
      exact if_neg fun hdue => Bool.eq_false_iff.mp hstill hdue.2
    · rfl
  · rfl

theorem settleTimerExpiry_of_not_fires (n : Nat)
    (h : ∀ p ∈ s.passages, p.number = n → fires p.settle s.gateTime = false) : settleTimerExpiry n s = s := by
  unfold settleTimerExpiry
  split
  · next p hp =>
    obtain ⟨hmem, hn⟩ := passage?_mem hp
    exact if_neg fun hdue => Bool.eq_false_iff.mp (h p hmem hn) hdue.2
  · rfl

section Round
variable {r : Round} (hr : s.round = some r)
include hr

theorem fieldSettleExpiry_of_not_fires (h : fires r.settleTimer s.gateTime = false) : fieldSettleExpiry s = s := by
  unfold fieldSettleExpiry
  rw [hr]
  split
  · next hround =>
    obtain rfl := Option.some.inj hround
    exact if_neg (Bool.eq_false_iff.mp h)
  · rfl

theorem holdTimerExpiry_of_not_fires (h : fires r.holdTimer s.gateTime = false) : holdTimerExpiry s = s := by
  unfold holdTimerExpiry
  rw [hr]
  split
  · next hround =>
    obtain rfl := Option.some.inj hround
    exact if_neg (Bool.eq_false_iff.mp h)
  · rfl

theorem roundTimerExpiry_of_not_fires (h : fires r.roundTimer s.gateTime = false) : roundTimerExpiry s = s := by
  simp [roundTimerExpiry, hr, h]

end Round

theorem backgroundTimerExpiry_of_not_fires (h : fires s.bgTimer s.gateTime = false) : backgroundTimerExpiry s = s :=
  if_neg (Bool.eq_false_iff.mp h)

theorem retryTimerExpiry_of_not_fires (a : Antenna) (h : retryFires s.antennas[a].retry s.gateTime = false) :
    retryTimerExpiry a s = s :=
  if_neg (Bool.eq_false_iff.mp h)

theorem expireAge_of_not_due (i : ItemNo) (h : ∀ e ∈ s.sightings, e.item = i → due s.gateTime e.ageExpiry = false) :
    s.expireAge i = s := by
  unfold State.expireAge
  split
  · next e he =>
    obtain ⟨hmem, hi⟩ := sighting?_mem he
    exact if_neg (Bool.eq_false_iff.mp (h e hmem hi))
  · rfl

theorem loanLifeEnd_of_not_due (i : ItemNo) (h : ∀ l ∈ s.loans, l.item = i → due s.gateTime l.lifeEnd = false) :
    loanLifeEnd i s = s := by
  have hall : (s.loans.filter fun l => !(l.item == i && due s.gateTime l.lifeEnd)) = s.loans := by
    refine List.filter_eq_self.mpr fun l hl => ?_
    by_cases hi : l.item = i
    · simp [h l hl hi]
    · simp [hi]
  unfold loanLifeEnd
  rw [hall]

theorem slotTimerExpiry_of_not_fires (j : SlotNo) (h : fires (s.slots[j].map Question.timer) s.gateTime = false) :
    slotTimerExpiry j s = s := by
  unfold slotTimerExpiry
  split
  · next q hq =>
    rw [hq] at h
    exact if_neg (Bool.eq_false_iff.mp h)
  · rfl

theorem alarmTimerExpiry_of_not_fires (k : Lane) (h : fires s.alarms[k].timer s.gateTime = false) :
    alarmTimerExpiry k s = s :=
  if_neg (Bool.eq_false_iff.mp h)

theorem pulseTimerExpiry_of_not_fires (l : OutLine) (h : fires s.lines[l].pulse s.gateTime = false) :
    pulseTimerExpiry l s = s :=
  if_neg (Bool.eq_false_iff.mp h)

theorem testTimerExpiry_of_not_fires (l : OutLine) (h : fires s.lines[l].test s.gateTime = false) :
    testTimerExpiry l s = s :=
  if_neg (Bool.eq_false_iff.mp h)

theorem gapTimerExpiry_of_not_fires (h : fires s.gap s.gateTime = false) : gapTimerExpiry s = s :=
  if_neg (Bool.eq_false_iff.mp h)

theorem silenceTimerExpiry_of_not_fires (h : fires s.silence s.gateTime = false) : silenceTimerExpiry s = s :=
  if_neg (Bool.eq_false_iff.mp h)

end NoEffect

/-- Settles O4, event by event. -/
theorem eventsWithoutEffect : Obligations.EventsWithoutEffect := by
  have next {u s : State} (h : u = s) : (Host.Outcome.next u : Host.Outcome State Fault Refusal) = .next s :=
    congrArg _ h
  intro s
  exact
    ⟨fun rep h => next (slotReport_of_not_frame s rep h),
     fun h => next (fieldFault_of_fieldOff s h),
     fun h => next (fieldOffAck_of_not_closing s h),
     fun k x h => next (beamFilterExpiry_of_not_fires s k x h),
     fun k x h => next (stuckTimerExpiry_of_not_fires s k x h),
     fun h => next (keyFilterExpiry_of_not_fires s h),
     fun n h => next (presenceTimerExpiry_of_not_fires s n h),
     fun n h => next (settleTimerExpiry_of_not_fires s n h),
     fun _ hr h => next (fieldSettleExpiry_of_not_fires s hr h),
     fun _ hr h => next (holdTimerExpiry_of_not_fires s hr h),
     fun _ hr h => next (roundTimerExpiry_of_not_fires s hr h),
     fun h => next (backgroundTimerExpiry_of_not_fires s h),
     fun a h => next (retryTimerExpiry_of_not_fires s a h),
     fun i h => next (expireAge_of_not_due s i h),
     fun i h => next (loanLifeEnd_of_not_due s i h),
     fun j h => next (slotTimerExpiry_of_not_fires s j h),
     fun k h => next (alarmTimerExpiry_of_not_fires s k h),
     fun l h => next (pulseTimerExpiry_of_not_fires s l h),
     fun l h => next (testTimerExpiry_of_not_fires s l h),
     fun h => next (gapTimerExpiry_of_not_fires s h),
     fun h => next (silenceTimerExpiry_of_not_fires s h)⟩

end Sys2Proof.Machine
end

section
/-! SUPPORT. The radio part of the state: the fields that the radio's law speaks of, and what keeps them. -/

namespace Sys2Proof.Machine

/-- The fields that the radio's law speaks of. -/
structure RadioPart where
  params : Params
  antennas : Vector AntennaState 5
  grant : Option Grant
  engine : Engine
  round : Option Round
  field : Option Antenna
  storedExp : Vector Nat 5
  intake : List Read

/-- The radio part of a state. -/
def State.radio (s : State) : RadioPart :=
  ⟨s.params, s.antennas, s.grant, s.engine, s.round, s.field, s.storedExp, s.intake⟩

/-- The four laws of the radio together: they need one another to be kept. -/
structure State.RadioLaw (s : State) : Prop where
  params : s.paramLaw
  antennas : s.antennaLaw
  field : s.fieldLaw
  frame : s.frameLaw

/-- The law depends on the radio part alone. -/
theorem State.RadioLaw.of_radio_eq {s t : State} (hs : s.RadioLaw) (h : t.radio = s.radio) : t.RadioLaw := by
  cases s; cases t
  obtain ⟨rfl, rfl, rfl, rfl, rfl, rfl, rfl, rfl⟩ := RadioPart.mk.inj h
  exact ⟨hs.params, hs.antennas, hs.field, hs.frame⟩

/-! ### Operations that leave the radio part as it is -/

theorem LineFrame.radio {s t : State} (h : LineFrame s t) : t.radio = s.radio := by rw [h]; rfl

theorem GateFrame.radio {s t : State} (h : GateFrame s t) : t.radio = s.radio := by rw [h]; rfl

theorem CheckFrame.radio {s t : State} (h : CheckFrame s t) : t.radio = s.radio := h.gate.radio

theorem SendFrame.radio {s t : State} (h : SendFrame s t) : t.radio = s.radio := h.gate.radio

section Kept
variable (s : State)

@[simp] theorem radio_recomputeLines : s.recomputeLines.radio = s.radio := (recomputeLines_frame s).radio
@[simp] theorem radio_arbitrateTx : s.arbitrateTx.radio = s.radio := (arbitrateTx_frame s).radio
@[simp] theorem radio_queueNotice (b : Body) : (s.queueNotice b).radio = s.radio := (queueNotice_frame s b).radio
@[simp] theorem radio_placeReply (b : Body) : (s.placeReply b).radio = s.radio := (placeReply_frame s b).radio
@[simp] theorem radio_setTracker (k : Lane) (t : Option Tracker) : (s.setTracker k t).radio = s.radio := rfl
@[simp] theorem radio_modBeam (k : Lane) (x : Beam) (f : BeamState → BeamState) :
    (s.modBeam k x f).radio = s.radio := rfl
@[simp] theorem radio_modDevice (f : DeviceCounters → DeviceCounters) : (s.modDevice f).radio = s.radio := rfl
@[simp] theorem radio_modLink (a : Antenna) (f : LinkCounters → LinkCounters) : (s.modLink a f).radio = s.radio := rfl
@[simp] theorem radio_openPassage (k : Lane) (b : Option Beam) (n : Nat) (e : Time) (p : Option Time) :
    (s.openPassage k b n e p).radio = s.radio := (openPassage_frame s k b n e p).radio
@[simp] theorem radio_closePassage (p : Passage) (d : Direction) (e : Time) :
    (s.closePassage p d e).radio = s.radio := (closePassage_frame s p d e).radio
@[simp] theorem radio_closeOpen (k : Lane) (d : Direction) (e : Time) : (s.closeOpen k d e).radio = s.radio :=
  (closeOpen_frame s k d e).radio
@[simp] theorem radio_settleNow (n : Nat) : (s.settleNow n).radio = s.radio := (settleNow_frame s n).radio
@[simp] theorem radio_mergeRead (r : Read) : (s.mergeRead r).radio = s.radio := (mergeRead_frame s r).radio
@[simp] theorem radio_readReported (r : Read) (n : Nat) (st : SightState) :
    (s.readReported r n st).radio = s.radio := (readReported_frame s r n st).radio
@[simp] theorem radio_expireAge (i : ItemNo) : (s.expireAge i).radio = s.radio := (expireAge_frame s i).radio
@[simp] theorem radio_resolveSlot (j : SlotNo) (q : Question) (v : Verdict) (r : Reason) :
    (s.resolveSlot j q v r).radio = s.radio := (resolveSlot_frame s j q v r).radio
@[simp] theorem radio_resolveStandalone : s.resolveStandalone.radio = s.radio := (resolveStandalone_frame s).radio
@[simp] theorem radio_addLoan (i : ItemNo) : (s.addLoan i).radio = s.radio := by rw [addLoan_loans_device]; rfl
@[simp] theorem radio_discardFrame : s.discardFrame.radio = s.radio := rfl
@[simp] theorem radio_holdByte (rx : Receiver) : (s.holdByte rx).radio = s.radio := rfl

/-- A BREAK moves the tracker and the passage table alone (R9 to R13). -/
@[simp] theorem radio_trackBreak (k : Lane) (x : Beam) (e : Time) : (s.trackBreak k x e).radio = s.radio := by
  unfold State.trackBreak
  split
  · simp
  · split <;> rfl
  · split
    · dsimp only
      split
      · split <;> rfl
      · rfl
    · rfl
  · rfl

/-- A CLEAR moves the tracker and the passage table alone (R10 to R13). -/
@[simp] theorem radio_trackClear (k : Lane) (x : Beam) (e : Time) : (s.trackClear k x e).radio = s.radio := by
  unfold State.trackClear
  split
  · split
    · simp
    · rfl
  · split <;> rfl
  · split
    · rfl
    · dsimp only
      split
      · simp
      · rfl
  · split <;> rfl
  · rfl

@[simp] theorem radio_trackFault (k : Lane) (e : Time) : (s.trackFault k e).radio = s.radio := by
  unfold State.trackFault
  split
  · rfl
  · simp
  · rfl

@[simp] theorem radio_trackRecovery (k : Lane) (e : Time) : (s.trackRecovery k e).radio = s.radio := by
  unfold State.trackRecovery
  split
  · split
    · rfl
    · dsimp only
      split
      · split
        · simp
        · rfl
      · rfl
  · rfl

@[simp] theorem radio_issueBreak (k : Lane) (x : Beam) (e : Time) : (s.issueBreak k x e).radio = s.radio := by
  simp [State.issueBreak]

@[simp] theorem radio_issueClear (k : Lane) (x : Beam) (e : Time) : (s.issueClear k x e).radio = s.radio := by
  unfold State.issueClear
  dsimp only
  split <;> simp

@[simp] theorem radio_silenceSet : s.silenceSet.radio = s.radio := by
  unfold State.silenceSet
  split
  · rfl
  · split <;> rfl

@[simp] theorem radio_takeAnswer (slot : Nat) (item : ItemNo) (result : Nat) :
    (s.takeAnswer slot item result).radio = s.radio := by
  unfold State.takeAnswer
  split
  · rfl
  · split
    · simp
    · simp
    · simp
    · rfl

@[simp] theorem radio_deliverAnswer (fields : List Byte) : (s.deliverAnswer fields).radio = s.radio := by
  simp [State.deliverAnswer]

@[simp] theorem radio_arrive (body : Body) : (s.arrive body).radio = s.radio := by
  unfold State.arrive
  dsimp only
  have hbuffered (t : State) (l : Bool) (e : Option Time) (h : t.radio = s.radio) :
      ({ t with linked := l, silence := e } : State).radio = s.radio := h
  split
  · apply hbuffered
    split <;> rfl
  · rw [radio_recomputeLines]
    apply hbuffered
    split <;> rfl

/-- LOAN_ADD changes the loan list and its counter alone (R106). -/
@[simp] theorem radio_foldl_addLoan (l : List ItemNo) : (l.foldl State.addLoan s).radio = s.radio := by
  induction l generalizing s with
  | nil => rfl
  | cons i l ih => exact (ih (s.addLoan i)).trans (radio_addLoan s i)

/-- Lanes that enter or leave service change beams, trackers and alarms alone (R5, R24, R144). -/
theorem radio_lanesFold (old : Nat) (l : List Lane) (t : State) :
    (l.foldl (fun t k =>
      if s.laneInService k && !decide (k.val < old) then t.laneEnters k
      else if !s.laneInService k && decide (k.val < old) then t.laneLeaves k
      else t) t).radio = t.radio := by
  induction l generalizing t with
  | nil => rfl
  | cons k l ih =>
    refine (ih _).trans ?_
    dsimp only
    split
    · rfl
    · split <;> rfl

end Kept

end Sys2Proof.Machine
end

section
/-! SUPPORT. What the operations of the tag link engine and of the arbiter do to the radio's law (02, 03). -/

namespace Sys2Proof.Machine

/-! ### Antennas -/

theorem modAt_getElem {α : Type} {n : Nat} (v : Vector α n) (i j : Fin n) (f : α → α) :
    (modAt v i f)[j] = if i = j then f v[i] else v[j] := by
  simp [modAt, Vector.getElem_set, Fin.ext_iff]

/-- Every antenna's service stays lawful when one antenna's new service is (R59 to R61). -/
theorem antennaLaw_modAt {s : State} (h : s.antennaLaw) (a : Antenna) (f : AntennaState → AntennaState)
    (hf : (f s.antennas[a]).lawful) (b : Antenna) : (modAt s.antennas a f)[b].lawful := by
  rw [modAt_getElem]
  split
  · exact hf
  · exact h b

/-! ### A round under way -/

/-- The state holds `r` as the round of the grant, within every bound but those of slot and frame count. -/
structure State.Carries (s : State) (r : Round) : Prop where
  params : s.paramLaw
  antennas : s.antennaLaw
  grant : s.grant = some ⟨r.antenna, r.label⟩
  intake : s.intake.length ≤ Config.maxIntake
  storedExp : ∀ a : Antenna, s.storedExp[a] ≤ Config.maxExp
  exp : r.exp ≤ Config.maxExp

/-- The round's antenna carries field: it is IN_SERVICE and within LANES (R53). -/
structure State.Airs (s : State) (r : Round) : Prop where
  field : s.field = some r.antenna
  within : s.withinLanes r.antenna = true
  inService : s.antennas[r.antenna].out = false

theorem State.RadioLaw.carries {s : State} {r : Round} (h : s.RadioLaw) (hr : s.round = some r) : s.Carries r := by
  obtain ⟨hparams, hantennas, ⟨hgrant, -⟩, hintake, hexps, hround⟩ := h
  exact ⟨hparams, hantennas, by rw [hgrant, hr]; rfl, hintake, hexps, (hround r hr).1⟩

theorem State.RadioLaw.airs {s : State} {r : Round} (h : s.RadioLaw) (hr : s.round = some r) (hon : s.roundOn = true) :
    s.Airs r := by
  obtain ⟨-, -, ⟨-, -, -, hfield, hair⟩, -⟩ := h
  have hf : s.field = some r.antenna := by rw [hfield, if_pos hon, hr]; rfl
  exact ⟨hf, (hair _ hf).1, (hair _ hf).2⟩

theorem State.RadioLaw.inService {s : State} (h : s.RadioLaw) {a : Antenna} (hf : s.field = some a) :
    s.antennas[a].out = false := by
  obtain ⟨-, -, -, -, hair⟩ := h.field
  exact (hair a hf).2

/-- A round that ends is lawful in CLOSING (R45). -/
theorem State.Carries.closeRound {s : State} {r : Round} (h : s.Carries r) (cause : EndCause) :
    (s.closeRound r cause).RadioLaw := by
  refine ⟨h.params, h.antennas, ⟨h.grant, nofun, nofun, rfl, nofun⟩, h.intake, fun a => ?_, fun r' hr' => ?_⟩
  · unfold State.closeRound
    dsimp only
    split
    · exact h.storedExp a
    · simp only [State.emit_storedExp, Fin.getElem_fin, Vector.getElem_set]
      split
      · exact h.exp
      · exact h.storedExp a
  · obtain rfl := Option.some.inj hr'
    exact ⟨h.exp, nofun, nofun, nofun⟩

/-- A slot that opens, or that a full intake queue holds back, leaves the round lawful (R31). -/
theorem State.Carries.openSlot {s : State} {r : Round} (h : s.Carries r) (ha : s.Airs r)
    (hfirst : r.slot = 0 → r.frames < Config.framesPerRound) (hlater : r.slot ≠ 0 → r.inFrame) :
    (s.openSlot r).RadioLaw := by
  have hair : ∀ a ∈ s.field, s.withinLanes a = true ∧ s.antennas[a].out = false := by
    rw [ha.field]
    rintro a ⟨⟩
    exact ⟨ha.within, ha.inService⟩
  unfold State.openSlot
  split
  · next hroom =>
    split
    · next hslot =>
      refine ⟨h.params, h.antennas, ⟨h.grant, nofun, fun _ => rfl, ha.field, hair⟩, h.intake, h.storedExp, ?_⟩
      rintro r' ⟨⟩
      refine ⟨h.exp, nofun, fun _ => ⟨hroom, ?_, Nat.le_add_left 1 _, hfirst hslot, hslot.symm⟩, nofun⟩
      exact hslot ▸ Nat.two_pow_pos r.exp
    · next hslot =>
      refine ⟨h.params, h.antennas, ⟨h.grant, nofun, fun _ => rfl, ha.field, hair⟩, h.intake, h.storedExp, ?_⟩
      rintro r' ⟨⟩
      exact ⟨h.exp, nofun, fun _ => ⟨hroom, hlater hslot⟩, nofun⟩
  · next hfull =>
    refine ⟨h.params, h.antennas, ⟨h.grant, nofun, fun _ => rfl, ha.field, hair⟩, h.intake, h.storedExp, ?_⟩
    rintro r' ⟨⟩
    exact ⟨h.exp, nofun, nofun, fun _ => ⟨Nat.le_antisymm h.intake (Nat.le_of_not_lt hfull), hfirst, hlater⟩⟩

/-- The frame closed after its last slot leaves the round lawful (R39, R40). -/
theorem State.Carries.closeFrame {s : State} {r : Round} (h : s.Carries r) (ha : s.Airs r) :
    (s.closeFrame r).RadioLaw := by
  have hadj : s.Carries { r with exp := adjustExp r.exp r.c r.e } := { h with exp := adjustExp_le _ _ _ h.exp }
  unfold State.closeFrame
  dsimp only
  split
  · exact hadj.closeRound .quietFrame
  · split
    · exact hadj.closeRound .frameLimit
    · next hframes =>
      exact State.Carries.openSlot { hadj with } { ha with } (fun _ => Nat.lt_of_not_le hframes)
        (fun hne => absurd rfl hne)

/-! ### Choice and grant (R56, R57) -/

theorem nextAntenna_some {s : State} {p : Antenna → Bool} {a : Antenna} (h : s.nextAntenna p = some a) : p a = true :=
  List.find?_some h

/-- The arbiter chooses an antenna within LANES, and an OUT_OF_SERVICE one for a retry alone (R54, R56). -/
theorem choice_spec {s : State} {a : Antenna} {label : GrantLabel} (h : s.choice = some (a, label)) :
    s.withinLanes a = true ∧ (label = .retry ∨ s.antennas[a].out = false) := by
  have heligible (b : Antenna) (hb : s.eligible b = true) : s.withinLanes b = true ∧ s.antennas[b].out = false := by
    simpa [State.eligible] using hb
  unfold State.choice at h
  split at h
  · next b hot =>
    obtain ⟨rfl, rfl⟩ := Prod.mk.inj (Option.some.inj h)
    have hb := nextAntenna_some hot
    have he := heligible b (Bool.and_eq_true_iff.mp hb).1
    exact ⟨he.1, .inr he.2⟩
  · split at h
    · split at h
      · next b retry =>
        obtain ⟨rfl, rfl⟩ := Prod.mk.inj (Option.some.inj h)
        have hb := nextAntenna_some retry
        exact ⟨(Bool.and_eq_true_iff.mp hb).1, .inl rfl⟩
      · obtain ⟨b, hb, hlabel⟩ := Option.map_eq_some_iff.mp h
        obtain ⟨rfl, rfl⟩ := Prod.mk.inj hlabel
        have he := heligible b (nextAntenna_some hb)
        exact ⟨he.1, .inr he.2⟩
    · cases h

theorem startRound_radioLaw {s : State} {a : Antenna} {label : GrantLabel} (hp : s.paramLaw) (ha : s.antennaLaw)
    (hi : s.intake.length ≤ Config.maxIntake) (he : ∀ b : Antenna, s.storedExp[b] ≤ Config.maxExp)
    (hg : s.grant = some ⟨a, label⟩) (hw : s.withinLanes a = true) (ho : s.antennas[a].out = false) :
    (s.startRound a label).RadioLaw := by
  refine ⟨hp, ha, ⟨hg, nofun, fun _ => rfl, rfl, ?_⟩, hi, he, ?_⟩
  · rintro b ⟨⟩
    exact ⟨hw, ho⟩
  · rintro r ⟨⟩
    exact ⟨he a, fun _ => ⟨rfl, rfl⟩, nofun, nofun⟩

theorem grantTo_radioLaw {s : State} (h : s.RadioLaw) {a : Antenna} {label : GrantLabel}
    (hw : s.withinLanes a = true) (ho : label = .retry ∨ s.antennas[a].out = false) :
    (s.grantTo a label).RadioLaw := by
  obtain ⟨hparams, hantennas, -, hintake, hexps, -⟩ := h
  cases label with
  | retry =>
    refine startRound_radioLaw hparams ?_ hintake hexps rfl hw ?_
    · exact antennaLaw_modAt hantennas a _ (by decide)
    · exact congrArg AntennaState.out ((modAt_getElem ..).trans (if_pos rfl))
  | hot => exact startRound_radioLaw hparams hantennas hintake hexps rfl hw (ho.resolve_left nofun)
  | background => exact startRound_radioLaw hparams hantennas hintake hexps rfl hw (ho.resolve_left nofun)

theorem choose_radioLaw {s : State} (h : s.RadioLaw) : s.choose.RadioLaw := by
  unfold State.choose
  split
  · split
    · next a label hchoice =>
      obtain ⟨hw, ho⟩ := choice_spec hchoice
      exact grantTo_radioLaw h hw ho
    · exact h
  · exact h

theorem endEvent_radioLaw {s : State} (h : s.RadioLaw) (s0 : State) : (s.endEvent s0).RadioLaw := by
  refine State.RadioLaw.of_radio_eq ?_ (radio_recomputeLines _)
  split
  · exact choose_radioLaw h
  · exact h

end Sys2Proof.Machine
end

section
/-! SUPPORT. Every command keeps the radio's law: the events of the radio, the changes of parameters, the resets and the
messages, and then the step. -/

namespace Sys2Proof.Machine

/-! ### Events of the tag link engine (02) -/

/-- A slot's outcome rises one of the frame's tallies by 1 (R33). -/
theorem tally_sum (r : Round) (o : SlotOutcome) :
    (r.tally o).c + (r.tally o).s + (r.tally o).e = r.c + r.s + r.e + 1 := by
  cases o <;> simp only [Round.tally] <;> omega

/-- The tallies apart, a counted outcome leaves the round as it is. -/
theorem tally_keeps (r : Round) (o : SlotOutcome) :
    r.tally o = { r with c := (r.tally o).c, s := (r.tally o).s, e := (r.tally o).e } := by
  cases o <;> rfl

/-- The state after a slot of outcome `o` has been counted, and its SINGLE taken (R33, R37). -/
def State.countSlot (s : State) (r : Round) (o : SlotOutcome) (amp : BitVec 12) : State :=
  let s1 := s.modLink r.antenna fun c => c.countOutcome o
  match o with
  | .single t => s1.takeSingle r t amp
  | _ => s1

/-- A slot report taken in FRAME: counted, and then the next slot or the frame's end (R31, R33, R39). -/
theorem slotReport_of_frame {s : State} {r : Round} (rep : SlotReport) (he : s.engine = .frame)
    (hr : s.round = some r) :
    slotReport rep s =
      if r.slot + 1 < 2 ^ r.exp then
        (s.countSlot r (decideSlot r.rates rep) (reportAmplitude rep)).openSlot
          { r.tally (decideSlot r.rates rep) with slot := r.slot + 1 }
      else
        (s.countSlot r (decideSlot r.rates rep) (reportAmplitude rep)).closeFrame
          (r.tally (decideSlot r.rates rep)) := by
  unfold slotReport State.countSlot
  rw [he, hr]
  dsimp only
  cases decideSlot r.rates rep <;> rfl

/-- Of the radio part the counting of a slot changes the intake queue alone, by at most one read (R37). -/
theorem countSlot_radio (s : State) (r : Round) (o : SlotOutcome) (amp : BitVec 12) :
    ∃ q, (s.countSlot r o amp).radio = { s.radio with intake := q } ∧ q.length ≤ s.intake.length + 1 := by
  cases o with
  | single t =>
    by_cases howner : r.owner.accepts t.owner = true
    · exact ⟨_, by simp only [State.countSlot, State.takeSingle, howner, if_true]; rfl, List.length_append.le⟩
    · exact ⟨_, by simp only [State.countSlot, State.takeSingle, howner]; rfl, Nat.le_succ _⟩
  | empty | collision | noise | corrupt => exact ⟨_, rfl, Nat.le_succ _⟩

/-- A state with another intake queue carries the round still, while the queue is within its capacity. -/
theorem State.Carries.of_intake {s t : State} {r : Round} (h : s.Carries r) {q : List Read}
    (ht : t.radio = { s.radio with intake := q }) (hq : q.length ≤ Config.maxIntake) : t.Carries r := by
  cases s; cases t
  obtain ⟨rfl, rfl, rfl, rfl, rfl, rfl, rfl, rfl⟩ := RadioPart.mk.inj ht
  exact { h with intake := hq }

theorem State.Airs.of_intake {s t : State} {r : Round} (h : s.Airs r) {q : List Read}
    (ht : t.radio = { s.radio with intake := q }) : t.Airs r := by
  cases s; cases t
  obtain ⟨rfl, rfl, rfl, rfl, rfl, rfl, rfl, rfl⟩ := RadioPart.mk.inj ht
  exact { h with }

theorem slotReport_radioLaw {s : State} (h : s.RadioLaw) (rep : SlotReport) : (slotReport rep s).RadioLaw := by
  by_cases he : s.engine = .frame
  · cases hr : s.round with
    | none => simpa [slotReport, he, hr] using h
    | some r =>
      obtain ⟨-, -, hround⟩ := h.frame
      obtain ⟨-, -, hframe, -⟩ := hround r hr
      obtain ⟨hroom, hslot, hone, hmax, hsum⟩ := hframe he
      have hon : s.roundOn = true := by simp [State.roundOn, he]
      obtain ⟨q, hq, hlen⟩ := countSlot_radio s r (decideSlot r.rates rep) (reportAmplitude rep)
      have hcarries := (h.carries hr).of_intake hq (hlen.trans hroom)
      have hairs := (h.airs hr hon).of_intake hq
      have htally := tally_sum r (decideSlot r.rates rep)
      rw [slotReport_of_frame rep he hr, tally_keeps]
      split
      · next hmore =>
        refine State.Carries.openSlot { hcarries with } { hairs with } nofun fun _ => ⟨hmore, hone, hmax, ?_⟩
        exact htally.trans (congrArg (· + 1) hsum)
      · exact State.Carries.closeFrame { hcarries with } { hairs with }
  · rwa [slotReport_of_not_frame s rep he]

theorem holdTimerExpiry_radioLaw {s : State} (h : s.RadioLaw) : (holdTimerExpiry s).RadioLaw := by
  unfold holdTimerExpiry
  split
  · next r _ hr =>
    split
    · exact ((h.of_radio_eq (radio_modLink s _ _)).carries hr).closeRound .holdLimit
    · exact h
  · exact h

theorem roundTimerExpiry_radioLaw {s : State} (h : s.RadioLaw) : (roundTimerExpiry s).RadioLaw := by
  unfold roundTimerExpiry
  split
  · next r hr =>
    split
    · exact (h.carries hr).closeRound .timeLimit
    · exact h
  · exact h

theorem fieldFault_radioLaw {s : State} (h : s.RadioLaw) : (fieldFault s).RadioLaw := by
  unfold fieldFault
  split
  · next r hr =>
    split
    · exact ((h.of_radio_eq (radio_modLink s _ _)).carries hr).closeRound .fieldFault
    · exact h
  · exact h

/-- The removal of a read keeps the law: it ends a hold, and elsewhere only shortens the queue (R32). -/
theorem readRemoved_radioLaw {s : State} (h : s.RadioLaw) {rd : Read} {rest : List Read} (hq : s.intake = rd :: rest) :
    ({ s with intake := rest }.readRemoved).RadioLaw := by
  obtain ⟨hparams, hantennas, hfield, hintake, hexps, hround⟩ := id h
  have hlen : rest.length + 1 ≤ Config.maxIntake := by simpa [hq] using hintake
  unfold State.readRemoved
  split
  · next r he hr =>
    have he : s.engine = .held := he
    have hon : s.roundOn = true := by simp [State.roundOn, he]
    obtain ⟨-, -, -, hheld⟩ := hround r hr
    obtain ⟨-, hfirst, hlater⟩ := hheld he
    exact State.Carries.openSlot { h.carries hr with intake := Nat.le_of_succ_le hlen } { h.airs hr hon with }
      hfirst hlater
  · next hheld =>
    refine ⟨hparams, hantennas, hfield, Nat.le_of_succ_le hlen, hexps, fun r hr => ?_⟩
    obtain ⟨hexp, hsettle, hframe, -⟩ := hround r hr
    exact ⟨hexp, hsettle, fun he => ⟨hlen, (hframe he).2⟩, fun he => (hheld r he hr).elim⟩

theorem readMerge_radioLaw {s : State} (h : s.RadioLaw) : (readMerge s).RadioLaw := by
  unfold readMerge
  split
  · exact h
  · next rd rest hq =>
    refine endEvent_radioLaw ?_ s
    exact (readRemoved_radioLaw h hq).of_radio_eq (by simp)

/-! ### Events of the arbiter (03) -/

/-- One antenna's service may change to a lawful one that is IN_SERVICE if the antenna carries field. -/
theorem modAntenna_radioLaw {s : State} (h : s.RadioLaw) (a : Antenna) (f : AntennaState → AntennaState)
    (hf : (f s.antennas[a]).lawful) (ho : s.field = some a → (f s.antennas[a]).out = false) :
    (s.modAntenna a f).RadioLaw := by
  obtain ⟨hparams, hantennas, ⟨hgrant, hidle, hon, hfield, hair⟩, hframe⟩ := h
  refine ⟨hparams, antennaLaw_modAt hantennas a f hf, ⟨hgrant, hidle, hon, hfield, fun b hb => ?_⟩, hframe⟩
  obtain ⟨hwithin, hservice⟩ := hair b hb
  refine ⟨hwithin, (congrArg AntennaState.out (modAt_getElem ..)).trans ?_⟩
  split
  · next hab => exact ho (hab ▸ hb)
  · exact hservice

theorem radio_markPassages (s : State) : s.markPassages.radio = s.radio := rfl

theorem trialSettled_radioLaw {s : State} (h : s.RadioLaw) (a : Antenna) : (s.trialSettled a).RadioLaw := by
  refine State.RadioLaw.of_radio_eq ?_ ((radio_queueNotice _ _).trans (radio_markPassages _))
  exact modAntenna_radioLaw h a _ ⟨(h.antennas a).1, nofun⟩ h.inService

@[simp] theorem trialSettled_round (s : State) (a : Antenna) : (s.trialSettled a).round = s.round :=
  (queueNotice_frame _ _).round

@[simp] theorem trialSettled_engine (s : State) (a : Antenna) : (s.trialSettled a).engine = s.engine :=
  (queueNotice_frame _ _).engine

theorem fieldSettleExpiry_radioLaw {s : State} (h : s.RadioLaw) : (fieldSettleExpiry s).RadioLaw := by
  unfold fieldSettleExpiry
  split
  · next r he hr =>
    obtain ⟨-, -, hround⟩ := h.frame
    obtain ⟨-, hsettle, -⟩ := hround r hr
    obtain ⟨hslot, hframes⟩ := hsettle he
    have hopen {t : State} (ht : t.RadioLaw) (hte : t.engine = s.engine) (htr : t.round = s.round) :
        (t.openSlot r).RadioLaw := by
      have hon : t.roundOn = true := by simp [State.roundOn, hte, he]
      exact (ht.carries (htr.trans hr)).openSlot (ht.airs (htr.trans hr) hon) (fun _ => hframes ▸ by decide)
        (fun hne => absurd hslot hne)
    split
    · refine State.RadioLaw.of_radio_eq ?_ (radio_recomputeLines _)
      split
      · exact hopen (trialSettled_radioLaw h _) (trialSettled_engine _ _) (trialSettled_round _ _)
      · exact hopen h rfl rfl
    · exact h
  · exact h

theorem outOfService_lawful (settled : Bool) {t : RetryTimer} (ht : t ≠ .stopped) :
    AntennaState.lawful ⟨true, false, settled, t⟩ :=
  ⟨⟨fun _ => ht, fun _ => rfl⟩, nofun⟩

theorem roundEnded_radioLaw {s : State} (h : s.RadioLaw) (hoff : s.field = none) (a : Antenna) (label : GrantLabel)
    (cause : Option EndCause) : (s.roundEnded a label cause).RadioLaw := by
  have hkept (f : AntennaState → AntennaState) (hf : (f s.antennas[a]).lawful) : (s.modAntenna a f).RadioLaw :=
    modAntenna_radioLaw h a f hf fun hon => nomatch hoff.symm.trans hon
  unfold State.roundEnded
  split
  · split
    · exact hkept _ (outOfService_lawful _ nofun)
    · refine State.RadioLaw.of_radio_eq ?_ ((radio_queueNotice _ _).trans (radio_markPassages _))
      exact hkept _ (outOfService_lawful _ nofun)
  · split
    · exact hkept _ (outOfService_lawful _ nofun)
    · exact h
  · exact h

/-- The state with the transceiver free and the engine in IDLE (R45). -/
def State.freed (s : State) : State := { s with engine := .idle, round := none, grant := none }

theorem fieldOffAck_of_no_round {s : State} (he : s.engine = .closing) (hr : s.round = none) :
    fieldOffAck s = s.freed.choose.recomputeLines := by
  simp [fieldOffAck, he, hr, State.freed]

theorem fieldOffAck_of_round {s : State} {r : Round} (he : s.engine = .closing) (hr : s.round = some r) :
    fieldOffAck s = (s.freed.roundEnded r.antenna r.label r.cause).choose.recomputeLines := by
  simp [fieldOffAck, he, hr, State.freed]

theorem freed_radioLaw {s : State} (h : s.RadioLaw) (he : s.engine = .closing) : s.freed.RadioLaw ∧ s.field = none := by
  obtain ⟨hparams, hantennas, ⟨-, -, -, hfield, -⟩, hintake, hexps, -⟩ := h
  have hoff : s.field = none := by simpa [State.roundOn, he] using hfield
  refine ⟨⟨hparams, hantennas, ⟨rfl, fun _ => rfl, nofun, hoff, fun a ha => ?_⟩, hintake, hexps, nofun⟩, hoff⟩
  exact nomatch hoff.symm.trans ha

theorem fieldOffAck_radioLaw {s : State} (h : s.RadioLaw) : (fieldOffAck s).RadioLaw := by
  by_cases he : s.engine = .closing
  · obtain ⟨hfreed, hoff⟩ := freed_radioLaw h he
    cases hr : s.round with
    | none =>
      rw [fieldOffAck_of_no_round he hr]
      exact (choose_radioLaw hfreed).of_radio_eq (radio_recomputeLines _)
    | some r =>
      rw [fieldOffAck_of_round he hr]
      exact (choose_radioLaw (roundEnded_radioLaw hfreed hoff _ _ _)).of_radio_eq (radio_recomputeLines _)
  · rwa [fieldOffAck_of_not_closing s he]

theorem backgroundTimerExpiry_radioLaw {s : State} (h : s.RadioLaw) : (backgroundTimerExpiry s).RadioLaw := by
  unfold backgroundTimerExpiry
  split
  · exact choose_radioLaw (h.of_radio_eq rfl)
  · exact h

theorem retryTimerExpiry_radioLaw {s : State} (h : s.RadioLaw) (a : Antenna) : (retryTimerExpiry a s).RadioLaw := by
  unfold retryTimerExpiry
  split
  · next hfires =>
    have hout : s.antennas[a].out = true := (h.antennas a).1.mpr fun hstop => by
      rw [hstop] at hfires
      cases hfires
    exact choose_radioLaw (modAntenna_radioLaw h a _ ⟨⟨fun _ => nofun, fun _ => hout⟩, (h.antennas a).2⟩ h.inService)
  · exact h

/-! ### Parameters (11) -/

/-- Parameters may change to others in range, while LANES stays. -/
theorem params_radioLaw {s : State} (h : s.RadioLaw) {p : Params} (hp : p.inRange = true)
    (hl : p.lanes = s.params.lanes) : ({ s with params := p } : State).RadioLaw := by
  obtain ⟨-, hantennas, ⟨hgrant, hidle, hon, hfield, hair⟩, hframe⟩ := h
  refine ⟨hp, hantennas, ⟨hgrant, hidle, hon, hfield, fun a ha => ?_⟩, hframe⟩
  obtain ⟨hw, ho⟩ := hair a ha
  exact ⟨by simpa [State.withinLanes, hl] using hw, ho⟩

/-- After any change of LANES the withdrawal of a round beyond them leaves the law whole (R43, R63). -/
theorem withdrawBeyondLanes_radioLaw {s : State} {p : Params} (h : ({ s with params := p } : State).RadioLaw)
    (hp : s.paramLaw) : s.withdrawBeyondLanes.RadioLaw := by
  obtain ⟨-, hantennas, ⟨hgrant, hidle, hon, hfield, hair⟩, hframe⟩ := id h
  have hkept (hw : ∀ a ∈ s.field, s.withinLanes a = true) : s.RadioLaw :=
    ⟨hp, hantennas, ⟨hgrant, hidle, hon, hfield, fun a ha => ⟨hw a ha, (hair a ha).2⟩⟩, hframe⟩
  unfold State.withdrawBeyondLanes
  split
  · next r hr =>
    split
    · exact State.Carries.closeRound { h.carries (r := r) hr with params := hp } .withdrawn
    · next hin =>
      refine hkept fun a ha => ?_
      have hfield : s.field = if s.roundOn = true then s.round.map Round.antenna else none := hfield
      rw [hfield, hr] at ha
      split at ha
      · next hon =>
        obtain rfl := Option.some.inj ha
        simpa [hon] using hin
      · cases ha
  · next hnone =>
    refine hkept fun a ha => ?_
    have hfield : s.field = if s.roundOn = true then s.round.map Round.antenna else none := hfield
    rw [hfield, hnone] at ha
    split at ha <;> cases ha

/-- A change of LANES to a value in range, with all that follows from it (R5, R24, R63, R144). -/
theorem lanesChanged_radioLaw {s : State} (h : s.RadioLaw) {p : Params} (hp : p.inRange = true) (old : Nat) :
    (({ s with params := p } : State).lanesChanged old).RadioLaw := by
  unfold State.lanesChanged
  refine choose_radioLaw (withdrawBeyondLanes_radioLaw (p := s.params) ?_ ?_)
  · refine h.of_radio_eq ?_
    exact congrArg (fun x : RadioPart => { x with params := s.params }) (radio_lanesFold _ old allLanes _)
  · have hsame := congrArg RadioPart.params (radio_lanesFold { s with params := p } old allLanes { s with params := p })
    exact (congrArg Params.inRange hsame).trans hp

theorem restartBackground_radioLaw {s : State} (h : s.RadioLaw) : s.restartBackground.RadioLaw :=
  choose_radioLaw (h.of_radio_eq rfl)

theorem startExp_le {p : Params} (h : p.inRange = true) (a : Antenna) :
    (Vector.replicate 5 p.startExp)[a] ≤ Config.maxExp := by
  rw [Fin.getElem_fin, Vector.getElem_replicate]
  exact ((Params.inRange_iff p).mp h).startExp.2

/-- Stored exponents take START_EXP, and the round notes it (R46). -/
theorem resetExps_radioLaw {s : State} (h : s.RadioLaw) : s.resetExps.RadioLaw := by
  obtain ⟨hparams, hantennas, ⟨hgrant, hidle, hon, hfield, hair⟩, hintake, -, hround⟩ := h
  unfold State.resetExps
  cases hr : s.round with
  | none =>
    rw [hr] at hgrant hidle hon hfield
    exact ⟨hparams, hantennas, ⟨hgrant, hidle, hon, hfield, hair⟩, hintake, startExp_le hparams, nofun⟩
  | some r =>
    rw [hr] at hgrant hidle hfield
    refine ⟨hparams, hantennas, ⟨hgrant, ?_, fun _ => rfl, hfield, hair⟩, hintake, startExp_le hparams, ?_⟩
    · exact fun he => nomatch hidle he
    · rintro r' ⟨⟩
      exact hround r hr

theorem storePair_radioLaw {s : State} (h : s.RadioLaw) (pair : Nat × Int) : (s.storePair pair).RadioLaw := by
  have hp : (s.params.put pair.1 (paramClamp pair.1 pair.2)).inRange = true :=
    (Params.inRange_iff _).mpr (((Params.inRange_iff _).mp h.params).put _ _)
  have hkept (hid : pair.1 ≠ 1) := params_radioLaw h hp (Params.put_lanes _ _ _ hid)
  unfold State.storePair
  dsimp only
  split
  · split
    · next hsame => exact params_radioLaw h hp hsame
    · exact lanesChanged_radioLaw h hp _
  · next hid => exact restartBackground_radioLaw (hkept (by omega))
  · next hid => exact resetExps_radioLaw (hkept (by omega))
  · next hid => exact (hkept (by omega)).of_radio_eq (radio_silenceSet _)
  · next hid _ _ _ => exact hkept hid

/-! ### Resets -/

/-- A reset leaves every antenna in service, no round, CLOSING and an empty queue (R45, R46, R52, R64). -/
theorem reset_radioLaw {p : Params} (hp : p.inRange = true) :
    ({ State.reset with params := p, antennas := Vector.replicate 5 {},
                        storedExp := Vector.replicate 5 p.startExp } : State).RadioLaw := by
  refine ⟨hp, fun a => ?_, ⟨rfl, nofun, nofun, rfl, nofun⟩, Nat.zero_le _, startExp_le hp, nofun⟩
  rw [Fin.getElem_fin, Vector.getElem_replicate]
  decide

theorem powerUp_radioLaw (s : State) (cause : RestartCause) (a b : Bool) : (s.powerUp cause a b).RadioLaw :=
  (reset_radioLaw (p := {}) (by decide +kernel)).of_radio_eq rfl

theorem restartNow_radioLaw {s : State} (h : s.RadioLaw) : s.restartNow.RadioLaw :=
  (reset_radioLaw h.params).of_radio_eq rfl

/-! ### Messages (10) -/

theorem takeSet_radioLaw {s : State} (h : s.RadioLaw) (fields : List Byte) : (takeSet fields s).state.RadioLaw := by
  unfold takeSet
  dsimp only
  split
  · exact h
  · split
    · exact h
    · refine endEvent_radioLaw ?_ s
      exact List.foldlRecOn _ _ h fun t ht pair _ => storePair_radioLaw ht pair

/-- A command other than SET leaves the radio part as it is. -/
theorem takeCommand_radio (k : Kind) (fields : List Byte) (s : State) (hk : k ≠ .set) :
    (takeCommand k fields s).state.radio = s.radio := by
  cases k with
  | set => exact absurd rfl hk
  | get => unfold takeCommand takeGet; dsimp only; split <;> rfl
  | classWrite =>
    unfold takeCommand takeClassWrite
    dsimp only
    split
    · split <;> rfl
    · rfl
  | classRead => unfold takeCommand takeClassRead; dsimp only; split <;> rfl
  | rateWrite => unfold takeCommand takeRateWrite; dsimp only; split <;> rfl
  | rateRead => unfold takeCommand takeRateRead; dsimp only; split <;> rfl
  | routeSet =>
    unfold takeCommand takeRouteSet
    dsimp only
    split
    · split <;> rfl
    · rfl
  | routeRead => unfold takeCommand takeRouteRead; dsimp only; split <;> rfl
  | patternSet => unfold takeCommand takePatternSet; dsimp only; split <;> rfl
  | acknowledge => unfold takeCommand takeAcknowledge; dsimp only; split <;> rfl
  | lineTest => unfold takeCommand takeLineTest; dsimp only; split <;> rfl
  | loanAdd => exact radio_foldl_addLoan s _
  | countsClear =>
    unfold takeCommand takeCountsClear
    dsimp only
    split
    · rfl
    · split <;> rfl
  | statusReq | ownerSet | ownerRead | loanDrop | loanClear | answer | countsRead | statsRead | statsClear
  | restart => rfl

theorem takeFrame_radioLaw {s : State} (h : s.RadioLaw) (body : Body) : (s.takeFrame body).RadioLaw := by
  have hreply {t : State} (ht : t.RadioLaw) (b : Body) : (t.placeReply b).RadioLaw :=
    ht.of_radio_eq (radio_placeReply _ _)
  unfold State.takeFrame
  split
  · exact h
  · split
    · exact hreply h _
    · next k _ =>
      split
      · split
        · exact h.of_radio_eq (radio_deliverAnswer _ _)
        · refine hreply ?_ _
          by_cases hk : k = .set
          · subst hk
            exact takeSet_radioLaw h _
          · exact h.of_radio_eq (takeCommand_radio k _ s hk)
      · exact hreply h _

theorem takeFrames_radioLaw (fuel : Nat) {s : State} (h : s.RadioLaw) : (takeFrames fuel s).RadioLaw := by
  induction fuel generalizing s with
  | zero => exact h
  | succ fuel ih =>
    unfold takeFrames
    split
    · exact h
    · next body rest _ =>
      have hs : ({ s with buffers := rest } : State).RadioLaw := h.of_radio_eq rfl
      split
      · exact ih (takeFrame_radioLaw hs body)
      · exact h

theorem receive_radioLaw {s : State} (h : s.RadioLaw) (body : Body) : (s.receive body).RadioLaw :=
  takeFrames_radioLaw _ (h.of_radio_eq (radio_arrive _ _))

theorem completeFrame_radioLaw {s : State} (h : s.RadioLaw) (got check : List Byte) :
    (s.completeFrame got check).RadioLaw := by
  have hs : ({ s with rx := .hunt, gap := none } : State).RadioLaw := h.of_radio_eq rfl
  unfold State.completeFrame
  split
  · exact receive_radioLaw hs got
  · exact h.of_radio_eq (radio_discardFrame _)

theorem byteReceived_radioLaw {s : State} (h : s.RadioLaw) (b : Byte) (stopBit : Bool) :
    (byteReceived b stopBit s).RadioLaw := by
  have hhold (rx : Receiver) : (s.holdByte rx).RadioLaw := h.of_radio_eq (radio_holdByte _ _)
  have hdiscard : s.discardFrame.RadioLaw := h.of_radio_eq (radio_discardFrame _)
  unfold byteReceived
  split
  · split
    · exact hhold _
    · exact h
  · split
    · exact hhold _
    · exact hdiscard
  · split
    · dsimp only
      split
      · exact hhold _
      · exact hdiscard
    · exact hdiscard
  · split
    · split <;> exact hhold _
    · exact hdiscard
  · split
    · exact hhold _
    · exact hdiscard
  · split
    · exact completeFrame_radioLaw h _ _
    · exact hdiscard

theorem frameLeftLine_radioLaw {s : State} (h : s.RadioLaw) : (frameLeftLine s).RadioLaw := by
  unfold frameLeftLine
  split
  · exact h
  · next f _ =>
    refine takeFrames_radioLaw _ (State.RadioLaw.of_radio_eq ?_ (radio_arbitrateTx _))
    have hs : ({ s with sending := none } : State).RadioLaw := h.of_radio_eq rfl
    split
    · exact restartNow_radioLaw hs
    · exact hs

/-! ### Events that leave the radio but for a choice at their end -/

theorem beamFilterExpiry_radioLaw {s : State} (h : s.RadioLaw) (k : Lane) (x : Beam) :
    (beamFilterExpiry k x s).RadioLaw := by
  unfold beamFilterExpiry
  split
  · split
    · dsimp only
      split
      · refine endEvent_radioLaw (h.of_radio_eq ?_) s
        split <;> simp
      · exact h.of_radio_eq rfl
    · exact h
  · exact h

theorem stuckTimerExpiry_radioLaw {s : State} (h : s.RadioLaw) (k : Lane) (x : Beam) :
    (stuckTimerExpiry k x s).RadioLaw := by
  unfold stuckTimerExpiry
  split
  · split
    · exact endEvent_radioLaw (h.of_radio_eq (by simp)) s
    · exact h
  · exact h

theorem presenceTimerExpiry_radioLaw {s : State} (h : s.RadioLaw) (n : Nat) : (presenceTimerExpiry n s).RadioLaw := by
  unfold presenceTimerExpiry
  split
  · split
    · split
      · exact endEvent_radioLaw (h.of_radio_eq (by simp)) s
      · exact h
    · exact h
  · exact h

theorem settleTimerExpiry_radioLaw {s : State} (h : s.RadioLaw) (n : Nat) : (settleTimerExpiry n s).RadioLaw := by
  unfold settleTimerExpiry
  split
  · split
    · exact endEvent_radioLaw (h.of_radio_eq (by simp)) s
    · exact h
  · exact h

/-! ### Events that leave the radio part as it is -/

section Kept
variable (s : State)

theorem radio_keyRawChange (pressed : Bool) : (keyRawChange pressed s).radio = s.radio := by
  unfold keyRawChange
  split
  · rfl
  · split <;> rfl

theorem radio_keyFilterExpiry : (keyFilterExpiry s).radio = s.radio := by
  unfold keyFilterExpiry
  split
  · split
    · dsimp only
      split <;> rfl
    · rfl
  · rfl

theorem radio_slotTimerExpiry (j : SlotNo) : (slotTimerExpiry j s).radio = s.radio := by
  unfold slotTimerExpiry
  split
  · split
    · simp
    · rfl
  · rfl

theorem radio_alarmTimerExpiry (k : Lane) : (alarmTimerExpiry k s).radio = s.radio := by
  unfold alarmTimerExpiry
  split
  · dsimp only
    split <;> rfl
  · rfl

theorem radio_pulseTimerExpiry (l : OutLine) : (pulseTimerExpiry l s).radio = s.radio := by
  unfold pulseTimerExpiry
  split <;> rfl

theorem radio_testTimerExpiry (l : OutLine) : (testTimerExpiry l s).radio = s.radio := by
  unfold testTimerExpiry
  split <;> rfl

theorem radio_gapTimerExpiry : (gapTimerExpiry s).radio = s.radio := by
  unfold gapTimerExpiry
  split <;> rfl

theorem radio_silenceTimerExpiry : (silenceTimerExpiry s).radio = s.radio := by
  unfold silenceTimerExpiry
  split
  · simp only [radio_recomputeLines, radio_resolveStandalone]; rfl
  · rfl

end Kept

/-! ### Every command, every step -/

theorem exec_radioLaw (i : Instr) {s t : State} (h : s.RadioLaw) (hx : exec i s = .next t) : t.RadioLaw := by
  have hsame {u : State} (hu : u.radio = s.radio) : u.RadioLaw := h.of_radio_eq hu
  cases i <;> obtain rfl := Host.Outcome.next.inj hx
  case powerOn => exact powerUp_radioLaw _ _ _ _
  case resetPin => exact powerUp_radioLaw _ _ _ _
  case beamRawChange => exact hsame rfl
  case beamFilterExpiry => exact beamFilterExpiry_radioLaw h _ _
  case stuckTimerExpiry => exact stuckTimerExpiry_radioLaw h _ _
  case keyRawChange => exact hsame (radio_keyRawChange s _)
  case keyFilterExpiry => exact hsame (radio_keyFilterExpiry s)
  case presenceTimerExpiry => exact presenceTimerExpiry_radioLaw h _
  case settleTimerExpiry => exact settleTimerExpiry_radioLaw h _
  case fieldSettleExpiry => exact fieldSettleExpiry_radioLaw h
  case slotReport => exact slotReport_radioLaw h _
  case holdTimerExpiry => exact holdTimerExpiry_radioLaw h
  case roundTimerExpiry => exact roundTimerExpiry_radioLaw h
  case fieldFault => exact fieldFault_radioLaw h
  case fieldOffAck => exact fieldOffAck_radioLaw h
  case backgroundTimerExpiry => exact backgroundTimerExpiry_radioLaw h
  case retryTimerExpiry => exact retryTimerExpiry_radioLaw h _
  case readMerge => exact readMerge_radioLaw h
  case ageExpiry => exact hsame (radio_expireAge s _)
  case loanLifeEnd => exact hsame rfl
  case slotTimerExpiry => exact hsame (radio_slotTimerExpiry s _)
  case alarmTimerExpiry => exact hsame (radio_alarmTimerExpiry s _)
  case pulseTimerExpiry => exact hsame (radio_pulseTimerExpiry s _)
  case testTimerExpiry => exact hsame (radio_testTimerExpiry s _)
  case byteReceived => exact byteReceived_radioLaw h _ _
  case gapTimerExpiry => exact hsame (radio_gapTimerExpiry s)
  case silenceTimerExpiry => exact hsame (radio_silenceTimerExpiry s)
  case frameLeftLine => exact frameLeftLine_radioLaw h
  all_goals exact receive_radioLaw h _

theorem step_radioLaw {s t : State} (h : s.RadioLaw) (hx : step s = .next t) : t.RadioLaw := by
  unfold step at hx
  split at hx
  · next c rest _ =>
    have hs : ({ s with pending := rest } : State).RadioLaw := h.of_radio_eq rfl
    exact exec_radioLaw c hs hx
  · split at hx
    · exact exec_radioLaw _ h hx
    · obtain rfl := Host.Outcome.next.inj hx
      exact h.of_radio_eq rfl

/-- Settles O54: the four laws need one another, so every command keeps them together. -/
theorem everyStepKeepsRadioLaw : Obligations.EveryStepKeepsRadioLaw := by
  intro s t hparams hantennas hfield hframe hx
  have ht := step_radioLaw ⟨hparams, hantennas, hfield, hframe⟩ hx
  exact ⟨ht.params, ht.antennas, ht.field, ht.frame⟩

end Sys2Proof.Machine
end

section
/-! SUPPORT. What the events of a round do, case by case (02, 03). -/

namespace Sys2Proof.Machine

/-! ### The ends of a round (R32, R41, R42) -/

/-- Settles O28, with what `closeRound` writes. -/
theorem roundEndsInClosing : Obligations.RoundEndsInClosing := by
  intro s r hr
  refine ⟨fun he hfires => ?_, fun he => ?_⟩
  · have : holdTimerExpiry s = (s.modLink r.antenna fun c => { c with abandoned := bump c.abandoned }).closeRound r
        .holdLimit := by
      simp [holdTimerExpiry, he, hr, hfires]
    exact congrArg _ this
  · have hon : s.roundOn = true := by rcases he with h | h | h <;> simp [State.roundOn, h]
    refine ⟨fun hfires => ?_, ?_⟩
    · have : roundTimerExpiry s = s.closeRound r .timeLimit := by simp [roundTimerExpiry, hr, hon, hfires]
      exact congrArg _ this
    · have : fieldFault s = (s.modLink r.antenna fun c => { c with fieldFaults := bump c.fieldFaults }).closeRound r
          .fieldFault := by
        simp [fieldFault, hr, hon]
      exact congrArg _ this

/-! ### The hold of a round (R31, R32) -/

theorem openSlot_of_full (s : State) (r : Round) (h : Config.maxIntake ≤ s.intake.length) :
    s.openSlot r = { s with
      engine := .held, round := some { r with settleTimer := none, holdTimer := some (s.gateTime + 20) },
      linkCounters := modAt s.linkCounters r.antenna fun c => { c with holds := min (c.holds + 1) 65535 } } :=
  if_neg (Nat.not_lt.mpr h)

/-- The slot that opens while there is room: SWEEP before the first of a frame, NEXT before any other (R28, R31). -/
theorem openSlot_of_room (s : State) (r : Round) (h : s.intake.length < Config.maxIntake) :
    s.openSlot r = { s with
      engine := .frame, air := s.air ++ [if r.slot = 0 then .sweep r.exp else .next],
      round := some (if r.slot = 0 then
          { r with frames := r.frames + 1, c := 0, s := 0, e := 0, settleTimer := none, holdTimer := none }
        else { r with settleTimer := none, holdTimer := none }) } := by
  unfold State.openSlot
  rw [if_pos h]
  split <;> rfl

theorem choose_of_engine_ne_idle (s : State) (h : s.engine ≠ .idle) : s.choose = s := by
  simp [State.choose, h]

/-- While the engine is not in IDLE an event's end recomputes the lines alone (R57, R147). -/
theorem endEvent_of_engine_ne_idle (s s0 : State) (h : s.engine ≠ .idle) : s.endEvent s0 = s.recomputeLines := by
  unfold State.endEvent
  rw [choose_of_engine_ne_idle s h, ite_self]

/-- A merge in HELD ends the hold; up to its end the rest of the event stays within passages and sightings (R32). -/
theorem readMerge_of_held {s : State} {r : Round} {rd : Read} {rest : List Read} (hr : s.round = some r)
    (he : s.engine = .held) (hq : s.intake = rd :: rest) :
    ∃ t, GateFrame ({ s with intake := rest }.openSlot r) t ∧ readMerge s = t.endEvent s := by
  have hremoved : ({ s with intake := rest } : State).readRemoved = { s with intake := rest }.openSlot r := by
    simp [State.readRemoved, he, hr]
  unfold readMerge
  rw [hq]
  dsimp only
  rw [hremoved]
  exact ⟨_, ((mergeRead_frame _ _).trans (readReported_frame _ _ _ _)).trans (expireAge_frame _ _), rfl⟩

/-- Settles O27: a full queue by `openSlot_of_full`; a removal by `openSlot_of_room`, whose fields the merge keeps. -/
theorem fullIntakeHoldsRound : Obligations.FullIntakeHoldsRound := by
  intro s r hr
  refine ⟨fun hfull => openSlot_of_full s r hfull.ge, fun he rd rest hq hroom => ?_⟩
  obtain ⟨t, ht, hmerge⟩ := readMerge_of_held hr he hq
  rw [openSlot_of_room _ r hroom] at ht
  have hidle : t.engine ≠ .idle := by rw [ht.engine]; nofun
  rw [endEvent_of_engine_ne_idle t s hidle] at hmerge
  refine ⟨t.recomputeLines, congrArg _ hmerge, ht.intake, ht.engine, ht.air, ?_, ?_⟩
  · refine (congrArg (Option.map Round.holdTimer) ht.round).trans ?_
    dsimp only
    split <;> rfl
  · refine (congrArg (Option.map Round.roundTimer) ht.round).trans ?_
    dsimp only
    split <;> rfl

/-! ### The end of a round (R45, R57, R59, R61) -/

/-- A round's end report settles an antenna's service for two causes alone (R59, R61). -/
theorem roundEnded_of_other (s : State) (a : Antenna) (label : GrantLabel) (cause : Option EndCause)
    (hfault : cause ≠ some .fieldFault)
    (hwithdrawn : ¬(cause = some .withdrawn ∧ label = .retry ∧ s.antennas[a].settled = false)) :
    s.roundEnded a label cause = s := by
  unfold State.roundEnded
  split
  · contradiction
  · exact if_neg fun h => hwithdrawn ⟨rfl, h⟩
  · rfl

/-- A FIELD_FAULT of a retry round before its field has settled tells nobody (R61). -/
theorem roundEnded_of_fieldFault (s : State) (a : Antenna) (label : GrantLabel) :
    s.roundEnded a label (some .fieldFault) =
      let failed := s.modAntenna a fun _ =>
        { out := true, trial := false, settled := false, retry := .running (after s.gateTime Config.retryInterval) }
      if label = .retry ∧ s.antennas[a].settled = false then failed
      else failed.markPassages.queueNotice (antennaNoticeBody .antennaFault a) := by
  unfold State.roundEnded
  dsimp only
  split
  · next hretry =>
    obtain ⟨-, hsettled⟩ := hretry
    simp only [State.modAntenna, modAt, hsettled]
  · rfl

/-- Settles O30, along the causes that `roundEnded` tells apart. -/
theorem fieldOffAckEndsRound : Obligations.FieldOffAckEndsRound := by
  intro s he
  refine ⟨fun hr => congrArg _ (fieldOffAck_of_no_round he hr), fun r hr => ?_⟩
  have hack (t : State) (h : s.freed.roundEnded r.antenna r.label r.cause = t) :
      exec .fieldOffAck s = .next t.choose.recomputeLines :=
    congrArg Host.Outcome.next (h ▸ fieldOffAck_of_round he hr)
  refine ⟨fun hfault hwithdrawn => hack _ ?_, fun hcause hlabel hsettled => hack _ ?_, fun hcause => hack _ ?_⟩
  · exact roundEnded_of_other s.freed _ _ _ hfault hwithdrawn
  · rw [hcause]
    exact if_pos ⟨hlabel, hsettled⟩
  · rw [hcause]
    exact roundEnded_of_fieldFault s.freed r.antenna r.label

/-! ### Grants (R29, R53, R56, R60) -/

theorem choose_of_none (s : State) (h : s.grant ≠ none ∨ s.engine ≠ .idle ∨ s.choice = none) : s.choose = s := by
  unfold State.choose
  split
  · next hfree =>
    split
    · next a label hchoice =>
      obtain ⟨hgrant, hidle⟩ := Bool.and_eq_true_iff.mp hfree
      simp_all
    · rfl
  · rfl

theorem choose_of_some (s : State) (a : Antenna) (label : GrantLabel) (hg : s.grant = none) (he : s.engine = .idle)
    (hc : s.choice = some (a, label)) : s.choose = s.grantTo a label := by
  simp [State.choose, hg, he, hc]

/-- An expired background timer lets the arbiter choose as the running timer that is due does (R58). -/
theorem choice_of_bgTimer_fired (s : State) (h : fires s.bgTimer s.gateTime = true) :
    ({ s with bgTimer := none } : State).choice = s.choice := by
  have hpassed : s.backgroundPassed = true := by
    unfold State.backgroundPassed
    split
    · rfl
    · next e he => rwa [he] at h
  unfold State.choice
  rw [hpassed]
  rfl

theorem backgroundTimerExpiry_of_fires (s : State) (h : fires s.bgTimer s.gateTime = true) :
    backgroundTimerExpiry s = ({ s with bgTimer := none } : State).choose :=
  if_pos h

/-- Settles O32: a choice grants what `choice` gives, and each of the two expiries ends in a choice. -/
theorem timersGrantRounds : Obligations.TimersGrantRounds := by
  refine ⟨fun s => ⟨choose_of_none s, fun a label hg he hc => ?_⟩, fun s a hfires => ?_, fun s hfires => ?_⟩
  · rw [choose_of_some s a label hg he hc]
    cases label <;> rfl
  · exact congrArg _ (if_pos hfires)
  · have hchoice := choice_of_bgTimer_fired s hfires
    have hexpiry := backgroundTimerExpiry_of_fires s hfires
    refine ⟨fun h => congrArg _ (hexpiry.trans (choose_of_none _ (hchoice ▸ h))), fun a label hg he hc => ?_⟩
    refine congrArg _ ((hexpiry.trans (choose_of_some _ a label hg he (hchoice.trans hc))).trans ?_)
    cases label <;> rfl

end Sys2Proof.Machine
end

section
/-! SUPPORT. The slots of a frame (02): what a record decides, what a slot report does before and at the last slot. -/

namespace Sys2Proof.Machine

/-! ### The record of a reply (R36, R37) -/

/-- A record of 104 bits is a SINGLE exactly when its check field spells the CRC of the bits before it (R36). -/
theorem decideRecord_of_length (bits : List Bool) (h : bits.length = 104) : decideRecord bits =
    if bitsNat (bits.drop 88) = (crcBits (bits.take 88)).toNat then
      .single ⟨BitVec.ofNat 64 (bitsNat (bits.take 64)), BitVec.ofNat 16 (bitsNat ((bits.drop 64).take 16)),
        bits.getD 80 false, BitVec.ofNat 4 (bitsNat ((bits.drop 84).take 4))⟩
    else .corrupt := by
  have hlen : (bits.drop 88).length = 16 := by rw [List.length_drop, h]
  have hfield : (bits.drop 88).take 16 = bits.drop 88 := List.take_of_length_le hlen.le
  have hcheck : crcBits (bits.take 88) = BitVec.ofNat 16 (bitsNat (bits.drop 88)) ↔
      bitsNat (bits.drop 88) = (crcBits (bits.take 88)).toNat :=
    eq_comm.trans (ofNat_bitsNat_eq_iff _ _ hlen.le)
  have hissued : ((bits.drop 80).take 8).headD false = bits.getD 80 false := by
    simp [List.headD_eq_head?_getD, List.head?_take, List.getD_eq_getElem?_getD]
  have hclass : ((bits.drop 80).take 8).drop 4 = (bits.drop 84).take 4 := by
    rw [List.drop_take, List.drop_drop]
  unfold decideRecord
  simp only [hfield, hcheck, hissued, hclass]

/-! ### The slot that opens next (R28, R31) -/

theorem openSlot_next (s : State) (r : Round) (he : s.engine = .frame) (hroom : s.intake.length < 8)
    (hslot : r.slot ≠ 0) :
    s.openSlot r = { s with
      air := s.air ++ [.next], round := some { r with settleTimer := none, holdTimer := none } } := by
  rw [openSlot_of_room s r hroom, if_neg hslot, if_neg hslot, ← he]

theorem openSlot_sweep (s : State) (r : Round) (he : s.engine = .frame) (hroom : s.intake.length < 8)
    (hslot : r.slot = 0) :
    s.openSlot r = { s with
      air := s.air ++ [.sweep r.exp],
      round := some { r with
        frames := r.frames + 1, c := 0, s := 0, e := 0, settleTimer := none, holdTimer := none } } := by
  rw [openSlot_of_room s r hroom, if_pos hslot, if_pos hslot, ← he]

theorem closeRound_eq (s : State) (r : Round) (cause : EndCause) : s.closeRound r cause = { s with
    engine := .closing, field := none, air := s.air ++ [.fieldOff],
    round := some { r with roundTimer := none, settleTimer := none, holdTimer := none, cause := some cause },
    storedExp := if r.expSet then s.storedExp else s.storedExp.set r.antenna r.exp } :=
  rfl

/-! ### The counting of a slot (R33, R37, R51) -/

/-- A slot report in FRAME before the frame's last slot (R31). -/
theorem slotReport_before_last {s : State} {r : Round} (rep : SlotReport) (he : s.engine = .frame)
    (hr : s.round = some r) (hmore : r.slot + 1 < 2 ^ r.exp) :
    slotReport rep s = (s.countSlot r (decideSlot r.rates rep) (reportAmplitude rep)).openSlot
      { r.tally (decideSlot r.rates rep) with slot := r.slot + 1 } :=
  (slotReport_of_frame rep he hr).trans (if_pos hmore)

/-- A slot report in FRAME of the frame's last slot (R39). -/
theorem slotReport_last {s : State} {r : Round} (rep : SlotReport) (he : s.engine = .frame)
    (hr : s.round = some r) (hlast : r.slot + 1 = 2 ^ r.exp) :
    slotReport rep s = (s.countSlot r (decideSlot r.rates rep) (reportAmplitude rep)).closeFrame
      (r.tally (decideSlot r.rates rep)) :=
  (slotReport_of_frame rep he hr).trans (if_neg hlast.not_lt)

/-- An outcome's counter, and the SINGLE taken: a read queued or a foreign tag counted, and QUIET sent (R33, R37). -/
theorem countSlot_eq (s : State) (r : Round) (o : SlotOutcome) (amp : BitVec 12) :
    let counted := modAt s.linkCounters r.antenna fun c =>
      match o with
      | .empty => c
      | .noise => { c with noise := min (c.noise + 1) 65535 }
      | .collision => { c with collisions := min (c.collisions + 1) 65535 }
      | .corrupt => { c with corrupt := min (c.corrupt + 1) 65535 }
      | .single _ => { c with singles := min (c.singles + 1) 65535 }
    s.countSlot r o amp = match o with
      | .single t =>
        if r.owner.accepts t.owner = true then { s with
          linkCounters := counted, air := s.air ++ [.quiet t.item],
          intake := s.intake ++ [⟨t.item, t.owner, t.issued, t.cls, r.antenna, amp, s.gateTime⟩] }
        else { s with
          linkCounters := modAt counted r.antenna fun c => { c with foreign := min (c.foreign + 1) 65535 },
          air := s.air ++ [.quiet t.item] }
      | _ => { s with linkCounters := counted } := by
  cases o with
  | single t =>
    dsimp only [State.countSlot, State.takeSingle]
    split <;> rfl
  | empty | noise | collision | corrupt => rfl

/-- The counting of a slot touches neither the engine nor the stored exponents. -/
theorem countSlot_keeps (s : State) (r : Round) (o : SlotOutcome) (amp : BitVec 12) :
    (s.countSlot r o amp).engine = s.engine ∧ (s.countSlot r o amp).storedExp = s.storedExp ∧
      (s.countSlot r o amp).gateTime = s.gateTime := by
  cases o with
  | single t =>
    dsimp only [State.countSlot, State.takeSingle]
    split <;> exact ⟨rfl, rfl, rfl⟩
  | empty | noise | collision | corrupt => exact ⟨rfl, rfl, rfl⟩

/-- The tallies after an outcome (R33). -/
theorem tally_eq (r : Round) (o : SlotOutcome) : r.tally o = { r with
    c := r.c + if o = .collision ∨ o = .corrupt then 1 else 0,
    e := r.e + if o = .empty ∨ o = .noise then 1 else 0,
    s := r.s + match o with
      | .single _ => 1
      | _ => 0 } := by
  cases o <;> simp [Round.tally]

/-- Settles O25: the slot is counted (`countSlot_eq`, `tally_eq`), and then the next one opens or is held. -/
theorem slotReportOpensNextSlot : Obligations.SlotReportOpensNextSlot := by
  refine ⟨fun s r rep he hr hmore => ?_, fun rates => ⟨rfl, rfl, fun _ _ _ => rfl, decideRecord_of_length⟩⟩
  intro o counted taken c e singles
  have htaken : s.countSlot r o (reportAmplitude rep) = taken := countSlot_eq s r o _
  obtain ⟨hengine, -, htime⟩ := countSlot_keeps s r o (reportAmplitude rep)
  rw [htaken] at hengine htime
  have htally : r.tally o = { r with c := c, e := e, s := singles } := tally_eq r o
  have hreport : slotReport rep s = (s.countSlot r o (reportAmplitude rep)).openSlot
      { r.tally o with slot := r.slot + 1 } := slotReport_before_last rep he hr hmore
  rw [htaken, htally] at hreport
  refine ⟨fun hroom => congrArg _ (hreport.trans ?_), fun hfull => congrArg _ (hreport.trans ?_)⟩
  · exact openSlot_next taken _ (hengine.trans he) hroom (Nat.succ_ne_zero _)
  · rw [openSlot_of_full taken _ hfull, htime]

/-- Settles O26: the slot is counted, and then `closeFrame` ends the round or opens the next frame, case by case. -/
theorem lastSlotEndsFrame : Obligations.LastSlotEndsFrame := by
  intro s r rep he hr hlast o counted taken c e singles exp closing
  have htaken : s.countSlot r o (reportAmplitude rep) = taken := countSlot_eq s r o _
  obtain ⟨hengine, hexps, htime⟩ := countSlot_keeps s r o (reportAmplitude rep)
  rw [htaken] at hengine hexps htime
  have htally : r.tally o = { r with c := c, e := e, s := singles } := tally_eq r o
  have hreport : slotReport rep s = (s.countSlot r o (reportAmplitude rep)).closeFrame (r.tally o) :=
    slotReport_last rep he hr hlast
  rw [htaken, htally] at hreport
  have hclosing (cause : EndCause) :
      taken.closeRound { r with c := c, e := e, s := singles, exp := exp } cause = closing cause := by
    rw [closeRound_eq, hexps]
  refine ⟨fun hc hs => ?_, fun hany hlimit => ?_, fun hany hframes => ⟨fun hroom => ?_, fun hfull => ?_⟩⟩
  all_goals
    refine congrArg Host.Outcome.next (hreport.trans ?_)
    unfold State.closeFrame
  · exact (if_pos ⟨hc, hs⟩).trans (hclosing .quietFrame)
  · exact (if_neg hany).trans ((if_pos hlimit).trans (hclosing .frameLimit))
  all_goals
    refine (if_neg hany).trans ((if_neg (Nat.not_le.mpr hframes)).trans ?_)
  · exact openSlot_sweep taken _ (hengine.trans he) hroom rfl
  · rw [openSlot_of_full taken _ hfull, htime]

end Sys2Proof.Machine
end

section
/-! SUPPORT. The arbiter's choice: cyclic order, hot antennas, precedence (03). -/

namespace Sys2Proof.Machine

/-! ### Cyclic order (R56) -/

theorem mem_allAntennas (a : Antenna) : a ∈ allAntennas := by
  revert a
  decide

theorem mem_cyclicFrom (last : Option Antenna) (a : Antenna) : a ∈ cyclicFrom last := by
  revert last a
  decide

theorem cyclicFrom_sorted (last : Option Antenna) :
    (cyclicFrom last).Pairwise fun a b => cyclicDistance last a < cyclicDistance last b := by
  revert last
  decide

theorem cyclicDistance_injective (last : Option Antenna) : Function.Injective (cyclicDistance last) := by
  intro a b h
  cases last with
  | none => exact Fin.ext h
  | some l =>
    have hmod : (a.val + 4 - l.val) % 5 = (b.val + 4 - l.val) % 5 := h
    exact Fin.ext (by omega)

/-- The antenna found comes first among the candidates: the search goes by rising cyclic distance. -/
theorem nextAntenna_nearest {s : State} {p : Antenna → Bool} {a b : Antenna} (h : s.nextAntenna p = some a)
    (hb : p b = true) : cyclicDistance s.lastGranted a ≤ cyclicDistance s.lastGranted b := by
  obtain ⟨-, before, later, hsplit, hbefore⟩ := List.find?_eq_some_iff_append.mp h
  have hsorted := cyclicFrom_sorted s.lastGranted
  have hmem := mem_cyclicFrom s.lastGranted b
  rw [hsplit] at hsorted hmem
  obtain ⟨-, hrest, -⟩ := List.pairwise_append.mp hsorted
  obtain ⟨hlater, -⟩ := List.pairwise_cons.mp hrest
  rcases List.mem_append.mp hmem with hin | hin
  · simpa [hb] using hbefore b hin
  · rcases List.mem_cons.mp hin with rfl | hin
    · exact le_rfl
    · exact (hlater b hin).le

theorem nextAntenna_eq_none_iff (s : State) (p : Antenna → Bool) : s.nextAntenna p = none ↔ ∀ a, p a = false := by
  simp [State.nextAntenna, List.find?_eq_none, mem_cyclicFrom]

theorem nextAntenna_eq_some_iff (s : State) (p : Antenna → Bool) (a : Antenna) : s.nextAntenna p = some a ↔
    p a = true ∧ ∀ b, p b = true → cyclicDistance s.lastGranted a ≤ cyclicDistance s.lastGranted b := by
  refine ⟨fun h => ⟨nextAntenna_some h, fun b => nextAntenna_nearest h⟩, fun ⟨ha, hleast⟩ => ?_⟩
  cases hfound : s.nextAntenna p with
  | none => simp [(nextAntenna_eq_none_iff s p).mp hfound a] at ha
  | some c =>
    have hle := nextAntenna_nearest hfound ha
    have hge := hleast c (nextAntenna_some hfound)
    rw [cyclicDistance_injective _ (hle.antisymm hge)]

/-! ### Eligible and hot antennas (R54, R55) -/

theorem eligible_iff (s : State) (a : Antenna) :
    s.eligible a = true ↔ a.val ≤ s.params.lanes ∧ s.antennas[a].out = false := by
  simp [State.eligible, State.withinLanes]

theorem mem_lanesBeside (k : Lane) (a : Antenna) : k ∈ lanesBeside a ↔ k.val = a.val ∨ k.val + 1 = a.val := by
  revert k a
  decide

theorem laneHot_iff (s : State) (k : Lane) : s.laneHot k = true ↔ k.val < s.params.lanes ∧
    ((∃ p ∈ s.passages, p.lane = k ∧ (p.phase = .open_ ∨ p.phase = .settling)) ∨ s.trackers[k] = some .fault) := by
  simp [State.laneHot, State.laneInService, Passage.live]

theorem hot_iff (s : State) (a : Antenna) : s.hot a = true ↔
    ∃ k : Lane, (k.val = a.val ∨ k.val + 1 = a.val) ∧ k.val < s.params.lanes ∧
      ((∃ p ∈ s.passages, p.lane = k ∧ (p.phase = .open_ ∨ p.phase = .settling)) ∨ s.trackers[k] = some .fault) := by
  simp only [State.hot, List.any_eq_true, mem_lanesBeside, laneHot_iff]

/-! ### The choice at an event's end (R57) -/

theorem endEvent_of_turned_hot {s s0 : State} (h : ∃ a, s.hot a = true ∧ s0.hot a = false) :
    s.endEvent s0 = s.choose.recomputeLines := by
  obtain ⟨a, hnow, hbefore⟩ := h
  have hany : (allAntennas.any fun a => s.hot a && !s0.hot a) = true :=
    List.any_eq_true.mpr ⟨a, mem_allAntennas a, by simp [hnow, hbefore]⟩
  unfold State.endEvent
  rw [if_pos hany]

theorem endEvent_of_none_turned_hot {s s0 : State} (h : ∀ a, s.hot a = true → s0.hot a = true) :
    s.endEvent s0 = s.recomputeLines := by
  have hnone : ¬(allAntennas.any fun a => s.hot a && !s0.hot a) = true := by
    simpa using fun a _ => h a
  unfold State.endEvent
  rw [if_neg hnone]

/-! ### Precedence (R56, R60) -/

theorem choice_hot {s : State} {a : Antenna} (h : s.nextAntenna (fun b => s.eligible b && s.hot b) = some a) :
    s.choice = some (a, .hot) := by
  unfold State.choice
  rw [h]

/-- With no hot eligible antenna the choice is a retry's or a background round's, once BG_INTERVAL has passed. -/
theorem choice_of_none_hot {s : State} (h : ∀ a, (s.eligible a && s.hot a) = false) : s.choice =
    if s.backgroundPassed then
      ((s.nextAntenna fun b => s.withinLanes b && s.antennas[b].retry == .due).map fun a => (a, .retry)).or
        ((s.nextAntenna s.eligible).map fun a => (a, .background))
    else none := by
  unfold State.choice
  rw [(nextAntenna_eq_none_iff s _).mpr h]
  cases s.nextAntenna fun b => s.withinLanes b && s.antennas[b].retry == .due <;> rfl

/-- Settles O31, rule by rule: cyclic order (R56), the event's end (R57), eligible and hot (R54, R55), precedence (R56). -/
theorem choiceFollowsPrecedence : Obligations.ChoiceFollowsPrecedence := by
  intro s
  refine ⟨nextAntenna_eq_some_iff s, nextAntenna_eq_none_iff s, fun _ => endEvent_of_turned_hot,
    fun _ => endEvent_of_none_turned_hot, eligible_iff s, hot_iff s, fun _ => choice_hot, fun hcold => ?_⟩
  rw [choice_of_none_hot hcold]
  refine ⟨fun hearly => by simp [hearly], fun hpassed => ?_⟩
  rw [if_pos hpassed]
  refine ⟨fun a hretry => ?_, fun hnone => ?_⟩
  · rw [hretry]
    rfl
  · rw [(nextAntenna_eq_none_iff s _).mpr hnone]
    rfl

end Sys2Proof.Machine
end

section
/-! SUPPORT. The sighting table's values (04): strength, and the entry that a merge leaves. -/

namespace Sys2Proof.Machine

/-! ### Strength (R65, R66) -/

theorem baseStrength_of_le_15 {r : Nat} (hpos : 1 ≤ r) (h : r ≤ 15) : baseStrength r = r := by
  have hne : r ≠ 0 := by omega
  rw [baseStrength, if_neg hne, if_pos h]

theorem baseStrength_of_doubling {r e : Nat} (h : 16 ≤ r) (hlo : 2 ^ e ≤ r) (hhi : r < 2 ^ (e + 1)) :
    baseStrength r = 8 * (e - 2) + (r / 2 ^ (e - 3) - 8) := by
  have hne : r ≠ 0 := by omega
  have hgt : ¬r ≤ 15 := by omega
  have hlog : r.log2 = e := (Nat.log2_eq_iff hne).mpr ⟨hlo, hhi⟩
  rw [baseStrength, if_neg hne, if_neg hgt, hlog]

/-- The amplitudes from 16 on lie in the doublings 4 to 11. -/
theorem doubling_bounds {r e : Nat} (h : 16 ≤ r) (hmax : r ≤ 4095) (hlo : 2 ^ e ≤ r) (hhi : r < 2 ^ (e + 1)) :
    4 ≤ e ∧ e ≤ 11 := by
  have hfour : 2 ^ 4 < 2 ^ (e + 1) := by omega
  have htwelve : 2 ^ e < 2 ^ 12 := by omega
  rw [Nat.pow_lt_pow_iff_right (by decide)] at hfour htwelve
  omega

/-- A doubling is cut into eight steps (R65). -/
theorem doubling_step_bounds {r e : Nat} (he : 3 ≤ e) (hlo : 2 ^ e ≤ r) (hhi : r < 2 ^ (e + 1)) :
    8 ≤ r / 2 ^ (e - 3) ∧ r / 2 ^ (e - 3) < 16 := by
  obtain ⟨d, rfl⟩ := Nat.exists_eq_add_of_le' he
  have hpos : 0 < 2 ^ d := Nat.two_pow_pos d
  rw [Nat.add_sub_cancel, Nat.le_div_iff_mul_le hpos, Nat.div_lt_iff_lt_mul hpos]
  rw [Nat.pow_succ, Nat.pow_add] at hhi
  rw [Nat.pow_add] at hlo
  omega

theorem baseStrength_bounds {r : Nat} (hmax : r ≤ 4095) : 1 ≤ baseStrength r ∧ baseStrength r ≤ 79 := by
  by_cases hzero : r = 0
  · subst hzero
    decide
  by_cases hsmall : r ≤ 15
  · rw [baseStrength_of_le_15 (Nat.pos_of_ne_zero hzero) hsmall]
    omega
  have hlarge : 16 ≤ r := by omega
  obtain ⟨hlo, hhi⟩ := (Nat.log2_eq_iff hzero).mp rfl
  obtain ⟨hfour, heleven⟩ := doubling_bounds hlarge hmax hlo hhi
  have hstep := doubling_step_bounds (by omega) hlo hhi
  rw [baseStrength_of_doubling hlarge hlo hhi]
  omega

theorem trimmedStrength_cast (base : Nat) (trim : Int) : (trimmedStrength base trim : Int) = max 1 (min 79 (base + trim)) :=
  Int.toNat_of_nonneg (le_max_of_le_left (by decide))

/-- Settles O33, range by range of the amplitude. -/
theorem strengthIsLogarithmic : Obligations.StrengthIsLogarithmic := by
  refine ⟨rfl, fun r hpos h => baseStrength_of_le_15 hpos h, fun r e h hmax hlo hhi => ?_,
    fun r hmax => baseStrength_bounds hmax, rfl, baseStrength_of_doubling (e := 4) le_rfl (by decide) (by decide),
    fun s r => trimmedStrength_cast _ _⟩
  obtain ⟨hfour, heleven⟩ := doubling_bounds h hmax hlo hhi
  obtain ⟨hlow, hhigh⟩ := doubling_step_bounds (by omega) hlo hhi
  exact ⟨hfour, heleven, hlow, by omega, baseStrength_of_doubling h hlo hhi⟩

/-! ### Histories and baselines (R68, R72) -/

theorem pushHistory_of_le {h : List HistoryRecord} (x : HistoryRecord) (hlen : h.length ≤ 12) :
    pushHistory h x = (if h.length < 12 then h else h.drop 1) ++ [x] := by
  unfold pushHistory
  split
  next hroom =>
    have hnone : h.length + 1 - Config.maxHistory = 0 := Nat.sub_eq_zero_of_le hroom
    rw [hnone, List.drop_zero]
  next hfull =>
    have hlen : h.length = 12 := by omega
    have hone : h.length + 1 - Config.maxHistory = 1 := by rw [hlen]; rfl
    rw [hone, List.drop_append_of_le_length (by omega)]

theorem antennaMax_concat (h : List HistoryRecord) (p : HistoryRecord → Bool) (a : Antenna) (x : HistoryRecord) :
    antennaMax (h ++ [x]) p a =
      if p x && x.antenna == a then max (antennaMax h p a) x.strength else antennaMax h p a := by
  unfold antennaMax
  rw [List.foldl_concat]

theorem strength_le_antennaMax {h : List HistoryRecord} {p : HistoryRecord → Bool} {a : Antenna} {x : HistoryRecord}
    (hx : x ∈ h) (hp : p x = true) (ha : x.antenna = a) : x.strength ≤ antennaMax h p a := by
  induction h using List.reverseRecOn with
  | nil => cases hx
  | append_singleton h y ih =>
    rw [antennaMax_concat]
    rcases List.mem_append.mp hx with hold | hnew
    · have hle := ih hold
      split
      · exact le_max_of_le_left hle
      · exact hle
    · obtain rfl := List.mem_singleton.mp hnew
      rw [if_pos (by simp [hp, ha])]
      exact le_max_right _ _

theorem antennaMax_attained (h : List HistoryRecord) (p : HistoryRecord → Bool) (a : Antenna) :
    antennaMax h p a = 0 ∨ ∃ x ∈ h, p x = true ∧ x.antenna = a ∧ x.strength = antennaMax h p a := by
  induction h using List.reverseRecOn with
  | nil => exact .inl rfl
  | append_singleton h y ih =>
    have hkeep : antennaMax h p a = 0 ∨ ∃ x ∈ h ++ [y], p x = true ∧ x.antenna = a ∧ x.strength = antennaMax h p a :=
      ih.imp_right fun ⟨x, hx, hrest⟩ => ⟨x, List.mem_append_left _ hx, hrest⟩
    rw [antennaMax_concat]
    split
    next hy =>
      obtain ⟨hp, ha⟩ : p y = true ∧ y.antenna = a := by simpa using hy
      rcases max_choice (antennaMax h p a) y.strength with hold | hnew
      · rwa [hold]
      · rw [hnew]
        exact .inr ⟨y, by simp, hp, ha, rfl⟩
    next => exact hkeep

theorem baselineOf_getElem (h : List HistoryRecord) (a : Antenna) : (baselineOf h)[a] = antennaMax h (fun _ => true) a := by
  fin_cases a <;> rfl

/-- The resident baseline holds the highest strength of each antenna's records, 0 without records (R72). -/
theorem baselineOf_highest (h : List HistoryRecord) (a : Antenna) :
    (∀ x ∈ h, x.antenna = a → x.strength ≤ (baselineOf h)[a]) ∧
    ((baselineOf h)[a] = 0 ∨ ∃ x ∈ h, x.antenna = a ∧ x.strength = (baselineOf h)[a]) := by
  rw [baselineOf_getElem]
  refine ⟨fun x hx ha => strength_le_antennaMax hx rfl ha, ?_⟩
  exact (antennaMax_attained h _ a).imp_right fun ⟨x, hx, _, hrest⟩ => ⟨x, hx, hrest⟩

/-! ### The state tests of a merge (R69 steps 3 and 4) -/

section Merge
variable (e : Sighting) (p : Params) (r : Read) (n : Nat)

theorem wake_frame : ∃ st t, e.wake p r n = { e with state := st, firstSeen := t } := by
  unfold Sighting.wake
  split
  · split
    · exact ⟨_, _, rfl⟩
    · exact ⟨_, _, rfl⟩
  · exact ⟨_, _, rfl⟩

theorem rest_frame : ∃ st, e.rest p r = { e with state := st } := by
  unfold Sighting.rest
  split
  · split
    · exact ⟨_, rfl⟩
    · exact ⟨_, rfl⟩
  · exact ⟨_, rfl⟩

/-- The state tests write state and first-seen alone; the age restarts (R72, R73, R75). -/
theorem finishMerge_frame :
    ∃ st t, e.finishMerge p r n = { e with state := st, firstSeen := t, ageExpiry := after e.lastSeen p.sightAge } := by
  obtain ⟨woken, t, hwake⟩ := wake_frame e p r n
  obtain ⟨st, hrest⟩ := rest_frame (e.wake p r n) p r
  refine ⟨st, t, ?_⟩
  unfold Sighting.finishMerge
  rw [hrest, hwake]

theorem elapsed_self (t : Time) : elapsed t t = 0 := by
  simp [elapsed]

variable {e p r n}

theorem rest_of_active_early (hst : e.state = .active) (h : elapsed e.firstSeen r.time < p.residentTime * 1000) :
    e.rest p r = e := by
  simp [Sighting.rest, hst, Nat.not_le.mpr h]

theorem finishMerge_of_active_early (hst : e.state = .active) (h : elapsed e.firstSeen r.time < p.residentTime * 1000) :
    e.finishMerge p r n = { e with ageExpiry := after e.lastSeen p.sightAge } := by
  have hwake : e.wake p r n = e := by simp [Sighting.wake, hst]
  unfold Sighting.finishMerge
  rw [hwake, rest_of_active_early hst h]

theorem finishMerge_of_active_late (hst : e.state = .active) (h : p.residentTime * 1000 ≤ elapsed e.firstSeen r.time) :
    e.finishMerge p r n =
      { e with state := .resident (baselineOf e.history), ageExpiry := after e.lastSeen p.sightAge } := by
  simp [Sighting.finishMerge, Sighting.wake, Sighting.rest, hst, h]

/-- A RESIDENT entry woken starts its residence afresh, so it is not at once RESIDENT again (R73). -/
theorem finishMerge_of_resident_strong {b : Vector Nat 5} (hst : e.state = .resident b)
    (h : b[r.antenna] + p.residentJump < n) (hp : 1 ≤ p.residentTime) :
    e.finishMerge p r n =
      { e with state := .active, firstSeen := r.time, ageExpiry := after e.lastSeen p.sightAge } := by
  have hwake : e.wake p r n = { e with state := .active, firstSeen := r.time } := by
    unfold Sighting.wake
    rw [hst]
    exact if_pos h
  unfold Sighting.finishMerge
  rw [hwake, rest_of_active_early rfl (by rw [elapsed_self]; omega)]

theorem finishMerge_of_resident_weak {b : Vector Nat 5} (hst : e.state = .resident b)
    (h : n ≤ b[r.antenna] + p.residentJump) :
    e.finishMerge p r n = { e with ageExpiry := after e.lastSeen p.sightAge } := by
  have hwake : e.wake p r n = e := by
    unfold Sighting.wake
    rw [hst]
    exact if_neg (Nat.not_lt.mpr h)
  unfold Sighting.finishMerge
  rw [hwake]
  simp [Sighting.rest, hst]

theorem finishMerge_of_claimed {m : Nat} {d : Direction} (hst : e.state = .claimed m d) :
    e.finishMerge p r n = { e with ageExpiry := after e.lastSeen p.sightAge } := by
  simp [Sighting.finishMerge, Sighting.wake, Sighting.rest, hst]

end Merge

/-! ### The entry a read leaves (R70, R71) -/

theorem mergedEntry_of_some {s : State} {r : Read} {e : Sighting} (h : s.sighting? r.item = some e) :
    s.mergedEntry r = (e.update r (s.strength r)).finishMerge s.params r (s.strength r) := by
  unfold State.mergedEntry
  rw [h]

theorem mergedEntry_of_none {s : State} {r : Read} (h : s.sighting? r.item = none) :
    s.mergedEntry r = (newSighting r (s.strength r)).finishMerge s.params r (s.strength r) := by
  unfold State.mergedEntry
  rw [h]

theorem mergedEntry_item (s : State) (r : Read) : (s.mergedEntry r).item = r.item := by
  cases h : s.sighting? r.item with
  | some e =>
    obtain ⟨st, t, hfinish⟩ := finishMerge_frame (e.update r (s.strength r)) s.params r (s.strength r)
    rw [mergedEntry_of_some h, hfinish]
    exact (sighting?_mem h).2
  | none =>
    obtain ⟨st, t, hfinish⟩ := finishMerge_frame (newSighting r (s.strength r)) s.params r (s.strength r)
    rw [mergedEntry_of_none h, hfinish]
    rfl

/-- Settles O34: the fields a merge always writes by `finishMerge_frame`, the state tests one by one. -/
theorem mergeUpdatesEntry : Obligations.MergeUpdatesEntry := by
  intro s r e he hlen hlaw
  have htime : 1 ≤ s.params.residentTime := by
    obtain ⟨hlow, -⟩ := ((Params.inRange_iff s.params).mp hlaw).residentTime
    omega
  obtain ⟨st, t, hframe⟩ := finishMerge_frame (e.update r (s.strength r)) s.params r (s.strength r)
  dsimp only
  rw [mergedEntry_of_some he]
  refine ⟨(congrArg Sighting.item hframe :), congrArg Sighting.owner hframe, congrArg Sighting.issued hframe,
    congrArg Sighting.cls hframe, congrArg Sighting.lastSeen hframe, congrArg Sighting.ageExpiry hframe,
    (congrArg Sighting.history hframe).trans (pushHistory_of_le _ hlen), fun hst => ?_,
    fun b hst => ⟨fun hstrong => ?_, fun hweak => ?_⟩, fun n d hst => ?_⟩
  · rcases Nat.lt_or_ge (elapsed e.firstSeen r.time) (s.params.residentTime * 1000) with hearly | hlate
    · rw [finishMerge_of_active_early (e := e.update r (s.strength r)) hst hearly]
      exact ⟨rfl, fun _ => hst, fun hlate => absurd hearly (Nat.not_lt.mpr hlate)⟩
    · rw [finishMerge_of_active_late (e := e.update r (s.strength r)) hst hlate]
      exact ⟨rfl, fun hearly => absurd hearly (Nat.not_lt.mpr hlate), fun _ => ⟨_, rfl, baselineOf_highest _⟩⟩
  · rw [finishMerge_of_resident_strong (e := e.update r (s.strength r)) hst hstrong htime]
    exact ⟨rfl, rfl⟩
  · rw [finishMerge_of_resident_weak (e := e.update r (s.strength r)) hst hweak]
    exact ⟨hst, rfl⟩
  · rw [finishMerge_of_claimed (e := e.update r (s.strength r)) hst]
    exact ⟨hst, rfl⟩

end Sys2Proof.Machine
end

section
/-! SUPPORT. The sighting table as a whole (04): the place of an entry, age expiry, eviction, claims. -/

namespace Sys2Proof.Machine

/-! ### The table after a merge (R69) -/

theorem sighting?_congr {s t : State} (h : t.sightings = s.sightings) (i : ItemNo) : t.sighting? i = s.sighting? i := by
  unfold State.sighting?
  rw [h]

theorem mergedEntry_congr {s t : State} (h : t.sightings = s.sightings) (hp : t.params = s.params) (r : Read) :
    t.mergedEntry r = s.mergedEntry r := by
  unfold State.mergedEntry State.strength
  rw [sighting?_congr h, hp]

theorem find?_insertSighting (e : Sighting) (l : List Sighting) :
    (insertSighting e l).find? (fun x => x.item == e.item) = some e := by
  induction l with
  | nil => simp [insertSighting]
  | cons x xs ih =>
    unfold insertSighting
    split
    · simp
    · split
      · simp
      · next hne =>
        rw [List.find?_cons_of_neg (by simpa using Ne.symm hne)]
        exact ih

theorem sighting?_mergeRead (s : State) (r : Read) : (s.mergeRead r).sighting? r.item = some (s.mergedEntry r) := by
  have hfind := find?_insertSighting (s.mergedEntry r)
  rw [mergedEntry_item] at hfind
  exact hfind _

theorem mergeRead_passages (s : State) (r : Read) : (s.mergeRead r).passages = s.passages := by
  unfold State.mergeRead State.evictIfFull
  dsimp only
  split
  · rfl
  · split
    · rfl
    · split <;> rfl

/-! ### Age expiry (R75, R76) -/

theorem expireAge_of_due {s : State} {i : ItemNo} {e : Sighting} (h : s.sighting? i = some e)
    (hdue : due s.gateTime e.ageExpiry = true) :
    s.expireAge i = { s with sightings := s.sightings.filter fun x => x.item != i } := by
  unfold State.expireAge
  rw [h]
  exact if_pos hdue

theorem sighting?_expireAge {s : State} {i : ItemNo} {e : Sighting} (h : s.sighting? i = some e) :
    (s.expireAge i).sighting? i = if due s.gateTime e.ageExpiry then none else some e := by
  split
  next hdue =>
    rw [expireAge_of_due h hdue]
    simp [State.sighting?]
  next hnot =>
    unfold State.expireAge
    rw [h]
    dsimp only
    rw [if_neg hnot, h]

theorem expireAge_passages (s : State) (i : ItemNo) : (s.expireAge i).passages = s.passages := by
  unfold State.expireAge
  split
  · split <;> rfl
  · rfl

/-! ### READ_MERGE (R69, R75) -/

/-- With no lane in FAULT the passage unit takes no notice of a read (R16). -/
theorem readReported_of_no_fault {s : State} (h : ∀ k : Lane, s.trackers[k] ≠ some .fault) (r : Read) (n : Nat)
    (st : SightState) : s.readReported r n st = s := by
  refine List.foldl_fixed' (fun k => ?_) _
  have hquiet : (s.trackers[k] == some .fault) = false := beq_eq_false_iff_ne.mpr (h k)
  rw [hquiet, Bool.false_and, Bool.false_and, if_neg Bool.false_ne_true]

theorem readMerge_of_no_fault {s : State} {r : Read} {rest : List Read} (hq : s.intake = r :: rest)
    (h : ∀ k : Lane, s.trackers[k] ≠ some .fault) :
    readMerge s = (((({ s with intake := rest } : State).readRemoved).mergeRead r).expireAge r.item).endEvent s := by
  have htrackers : ((({ s with intake := rest } : State).readRemoved).mergeRead r).trackers = s.trackers :=
    (mergeRead_frame _ _).trackers.trans (readRemoved_frame _).trackers
  unfold readMerge
  rw [hq]
  dsimp only
  rw [readReported_of_no_fault (by rwa [htrackers])]

/-- An event's end is a choice of the arbiter, if any, and the recomputing of the lines (R57, R147). -/
theorem endEvent_radio_then_lines (s s0 : State) : ∃ t, RadioFrame s t ∧ LineFrame t (s.endEvent s0) := by
  unfold State.endEvent
  split
  · exact ⟨_, choose_frame s, recomputeLines_frame _⟩
  · exact ⟨_, .refl s, recomputeLines_frame _⟩

/-- Settles O35: the new entry by `finishMerge_of_active_early`, the table after READ_MERGE by `sighting?_expireAge`. -/
theorem entriesComeAndGo : Obligations.EntriesComeAndGo := by
  intro s
  refine ⟨fun e he hdue => congrArg _ (expireAge_of_due he hdue), fun hempty => congrArg Host.Outcome.next ?_, fun r rest hq =>
    ⟨fun hnew htime => ?_, fun hfault => ⟨readMerge s, rfl, ?_⟩⟩⟩
  · unfold readMerge
    rw [hempty]
  · rw [mergedEntry_of_none hnew]
    exact finishMerge_of_active_early rfl (by rw [newSighting, elapsed_self]; omega)
  · have hremoved := readRemoved_frame { s with intake := rest }
    have hmerge := mergeRead_frame (({ s with intake := rest } : State).readRemoved) r
    have hexpire := expireAge_frame ((({ s with intake := rest } : State).readRemoved).mergeRead r) r.item
    have hentry := sighting?_mergeRead (({ s with intake := rest } : State).readRemoved) r
    rw [mergedEntry_congr hremoved.sightings hremoved.params] at hentry
    rw [readMerge_of_no_fault hq hfault]
    obtain ⟨t, hradio, hlines⟩ := endEvent_radio_then_lines
      (((({ s with intake := rest } : State).readRemoved).mergeRead r).expireAge r.item) s
    refine ⟨?_, ?_, ?_, ?_⟩
    · rw [hlines.intake, hradio.intake, hexpire.intake, hmerge.intake, hremoved.intake]
    · rw [hlines.passages, hradio.passages, expireAge_passages, mergeRead_passages, hremoved.passages]
    · rw [hlines.trackers, hradio.trackers, hexpire.trackers, hmerge.trackers, hremoved.trackers]
    · rw [sighting?_congr (hlines.sightings.trans hradio.sightings), sighting?_expireAge hentry, hmerge.gateTime,
        hremoved.gateTime]
      rfl

/-! ### Eviction (R77, R78) -/

/-- What eviction compares, in its order: group, last-seen counted from `base`, item number (R77). -/
def evictionKey (base : Time) (e : Sighting) : Nat ×ₗ Nat ×ₗ Nat :=
  toLex (evictionGroup e, toLex ((e.lastSeen - base).toNat, e.item.toNat))

theorem evictionKey_lt_iff (base : Time) (a b : Sighting) : evictionKey base a < evictionKey base b ↔
    evictionGroup a < evictionGroup b ∨
    (evictionGroup a = evictionGroup b ∧
      ((a.lastSeen - base).toNat < (b.lastSeen - base).toNat ∨
        (a.lastSeen = b.lastSeen ∧ a.item.toNat < b.item.toNat))) := by
  have htime : (a.lastSeen - base).toNat = (b.lastSeen - base).toNat ↔ a.lastSeen = b.lastSeen := by
    rw [← BitVec.toNat_eq, BitVec.sub_left_inj]
  simp only [evictionKey, Prod.Lex.toLex_lt_toLex, htime]

/-- Within one half of the range, a gate time is before another when it is nearer to the base (R184). -/
theorem before_iff {base a b : Time} (ha : (a - base).toNat < 2 ^ 31) (hb : (b - base).toNat < 2 ^ 31) :
    before a b = true ↔ (a - base).toNat < (b - base).toNat := by
  simp only [before, due, Bool.and_eq_true, bne_iff_ne, decide_eq_true_eq]
  bv_omega

theorem evictedBefore_iff {base : Time} {a b : Sighting} (ha : (a.lastSeen - base).toNat < 2 ^ 31)
    (hb : (b.lastSeen - base).toNat < 2 ^ 31) :
    evictedBefore a b = true ↔ evictionKey base a < evictionKey base b := by
  rw [evictionKey_lt_iff]
  simp [evictedBefore, before_iff ha hb]

/-- The search keeps the least of the entries it has met. -/
theorem foldl_evictedBefore_least {base : Time} {xs : List Sighting} {x : Sighting}
    (h : ∀ e ∈ x :: xs, (e.lastSeen - base).toNat < 2 ^ 31) :
    ∃ v ∈ x :: xs, xs.foldl (fun best y => if evictedBefore y best then y else best) x = v ∧
      ∀ e ∈ x :: xs, evictionKey base v ≤ evictionKey base e := by
  induction xs generalizing x with
  | nil => exact ⟨x, by simp, rfl, by simp⟩
  | cons y ys ih =>
    simp only [List.forall_mem_cons] at h ih ⊢
    obtain ⟨hx, hy, hys⟩ := h
    rw [List.foldl_cons]
    split
    next hbefore =>
      have hlt := (evictedBefore_iff hy hx).mp hbefore
      obtain ⟨v, hv, hfold, hvy, hleast⟩ := ih ⟨hy, hys⟩
      exact ⟨v, List.mem_cons_of_mem _ hv, hfold, hvy.trans hlt.le, hvy, hleast⟩
    next hbefore =>
      have hle := not_lt.mp (mt (evictedBefore_iff hy hx).mpr hbefore)
      obtain ⟨v, hv, hfold, hvx, hleast⟩ := ih ⟨hx, hys⟩
      refine ⟨v, ?_, hfold, hvx, hvx.trans hle, hleast⟩
      rcases List.mem_cons.mp hv with rfl | hv
      · exact List.mem_cons_self
      · exact List.mem_cons_of_mem _ (List.mem_cons_of_mem _ hv)

theorem evictionChoice_least {base : Time} {l : List Sighting} (hne : l ≠ [])
    (h : ∀ e ∈ l, (e.lastSeen - base).toNat < 2 ^ 31) :
    ∃ v ∈ l, evictionChoice l = some v ∧ ∀ e ∈ l, evictionKey base v ≤ evictionKey base e := by
  cases l with
  | nil => contradiction
  | cons x xs =>
    obtain ⟨v, hv, hfold, hleast⟩ := foldl_evictedBefore_least h
    exact ⟨v, hv, congrArg some hfold, hleast⟩

theorem evictIfFull_of_full {s : State} {v : Sighting} (hfull : s.sightings.length = 128)
    (hv : evictionChoice s.sightings = some v) : s.evictIfFull = { s with
      sightings := s.sightings.filter (fun e => e.item != v.item),
      device := { s.device with evictions := min (s.device.evictions + 1) 65535 } } := by
  have hnoRoom : ¬s.sightings.length < Config.maxSightings := Nat.not_lt.mpr hfull.ge
  unfold State.evictIfFull
  rw [if_neg hnoRoom, hv]
  rfl

/-- In a table by rising item number, equal numbers mean the same entry. -/
theorem eq_of_item_eq {l : List Sighting} (h : l.Pairwise fun a b => a.item.toNat < b.item.toNat) {a b : Sighting}
    (ha : a ∈ l) (hb : b ∈ l) (hitem : a.item = b.item) : a = b := by
  have hnodup : (l.map Sighting.item).Nodup :=
    List.pairwise_map.mpr (h.imp fun hlt heq => hlt.ne (congrArg BitVec.toNat heq))
  exact List.inj_on_of_nodup_map hnodup ha hb hitem

/-- Settles O36: the choice has the least key, and the key holds the item number, which no two entries share. -/
theorem evictionOrder : Obligations.EvictionOrder := by
  intro s base hfull hhalf hsorted
  have hne : s.sightings ≠ [] := List.ne_nil_of_length_pos (by omega)
  obtain ⟨v, hv, hchoice, hleast⟩ := evictionChoice_least hne hhalf
  refine ⟨v, hv, evictIfFull_of_full hfull hchoice, fun e he hev => (evictionKey_lt_iff base v e).mp ?_⟩
  refine (hleast e he).lt_of_ne fun hkey => hev ?_
  have hitem : v.item.toNat = e.item.toNat := congrArg (fun k => (ofLex (ofLex k).2).2) hkey
  exact eq_of_item_eq hsorted he hv (BitVec.eq_of_toNat_eq hitem.symm)

/-! ### Claims (R79) -/

theorem outward_iff (d : Direction) : d.outward = true ↔ d = .out ∨ d = .unknown := by
  cases d <;> simp [Direction.outward]

theorem not_outward_iff (d : Direction) : d.outward = false ↔ d = .in_ ∨ d = .none_ := by
  cases d <;> simp [Direction.outward]

theorem grants_claimed_iff (m : Nat) (held d : Direction) : (SightState.claimed m held).grants d = true ↔
    (held = .in_ ∨ held = .none_) ∧ (d = .out ∨ d = .unknown) := by
  rw [← outward_iff, ← not_outward_iff]
  simp [SightState.grants]

theorem claimGranted_of_some {s : State} {i : ItemNo} {e : Sighting} (h : s.sighting? i = some e) (d : Direction) :
    s.claimGranted i d = e.state.grants d := by
  unfold State.claimGranted
  rw [h]

theorem claim_of_granted {s : State} {i : ItemNo} {d : Direction} (h : s.claimGranted i d = true) (n : Nat) :
    s.claim i n d = { s with
      sightings := s.sightings.map fun e => if e.item = i then { e with state := .claimed n d } else e } := by
  simp [State.claim, h]

/-- Settles O37, row by row of R79's table. -/
theorem claimTable : Obligations.ClaimTable := by
  intro s i n d
  refine ⟨fun hnone => ?_, fun e he => ?_, fun hgranted => claim_of_granted hgranted n, fun hrefused => ?_⟩
  · unfold State.claimGranted
    rw [hnone]
  · rw [claimGranted_of_some he]
    refine ⟨fun hst => ?_, fun b hst => ?_, fun m held hst => ?_⟩
    · rw [hst]
      rfl
    · rw [hst]
      rfl
    · rw [hst]
      exact grants_claimed_iff m held d
  · exact if_neg (by simp [hrefused])

end Sys2Proof.Machine
end

section
/-! SUPPORT. The lane score, the candidates and the ranking of the winners of a run (05). -/

namespace Sys2Proof.Machine

/-! ### Antenna maxima and lane scores (R90, R91) -/

theorem windowMax_le {h : List HistoryRecord} {m : Nat} (hh : ∀ r ∈ h, r.strength ≤ m) (w : Window) (a : Antenna) :
    windowMax h w a ≤ m := by
  rcases antennaMax_attained h (fun r => w.has r.time) a with hzero | ⟨r, hr, -, -, heq⟩
  · exact hzero.trans_le (Nat.zero_le m)
  · exact heq.symm.trans_le (hh r hr)

/-- The antenna maximum is the highest strength heard in the window, 0 where none was (R90). -/
theorem windowMax_highest (h : List HistoryRecord) (w : Window) (a : Antenna) :
    (∀ r ∈ h, r.antenna = a → w.has r.time = true → r.strength ≤ windowMax h w a) ∧
    (windowMax h w a = 0 ∨ ∃ r ∈ h, r.antenna = a ∧ w.has r.time = true ∧ r.strength = windowMax h w a) :=
  ⟨fun _ hr ha hw => strength_le_antennaMax hr hw ha,
    (antennaMax_attained h _ a).imp_right fun ⟨r, hr, hw, ha, heq⟩ => ⟨r, hr, ha, hw, heq⟩⟩

theorem recordCount_eq_length (h : List HistoryRecord) (w : Window) (p : Antenna → Bool) :
    recordCount h w p = (h.filter fun r => w.has r.time && p r.antenna).length :=
  List.countP_eq_length_filter

theorem laneScore_of_normal {s : State} {k : Lane} (hk : s.laneCondition k = .normal) (h : List HistoryRecord)
    (w : Window) : s.laneScore h k w = scoreBoth h k w := by
  unfold State.laneScore
  rw [hk]

theorem laneScore_of_blind {s : State} {k : Lane} (hk : s.laneCondition k = .blind) (h : List HistoryRecord)
    (w : Window) : s.laneScore h k w = 0 := by
  unfold State.laneScore
  rw [hk]

/-- In a ONE_ANTENNA lane just one of the two antennas counts as out of service (R62). -/
theorem countedOut_far_of_oneAntenna {s : State} {k : Lane} (hk : s.laneCondition k = .oneAntenna) :
    s.countedOut (farAntenna k) = !s.countedOut (nearAntenna k) := by
  unfold State.laneCondition at hk
  split at hk
  next => cases hk
  next => cases hk
  next hnotNormal hnotBlind =>
    cases hnear : s.countedOut (nearAntenna k) with
    | false => exact Bool.of_not_eq_false fun hfar => hnotNormal hnear hfar
    | true => exact Bool.of_not_eq_true fun hfar => hnotBlind hnear hfar

/-- A ONE_ANTENNA lane is scored by whichever of its antennas is in service (R91). -/
theorem laneScore_of_oneAntenna {s : State} {k : Lane} {g : Antenna} (hk : s.laneCondition k = .oneAntenna)
    (hg : g = nearAntenna k ∨ g = farAntenna k) (hserves : s.countedOut g = false) (h : List HistoryRecord) (w : Window) :
    s.laneScore h k w = scoreOne h g w := by
  unfold State.laneScore
  rw [hk]
  dsimp only
  rcases hg with rfl | rfl
  · rw [hserves, if_neg Bool.false_ne_true]
  · have hnear : s.countedOut (nearAntenna k) = true := by
      simpa [hserves] using countedOut_far_of_oneAntenna hk
    rw [if_pos hnear]

section Bounds
variable {h : List HistoryRecord} (hh : ∀ r ∈ h, r.strength ≤ 79)
include hh

theorem scoreBoth_le (k : Lane) (w : Window) : scoreBoth h k w ≤ 245 := by
  have hnear := windowMax_le hh w (nearAntenna k)
  have hfar := windowMax_le hh w (farAntenna k)
  unfold scoreBoth
  dsimp only
  omega

theorem scoreOne_le (g : Antenna) (w : Window) : scoreOne h g w ≤ 245 := by
  have hg := windowMax_le hh w g
  unfold scoreOne
  omega

theorem laneScore_le (s : State) (k : Lane) (w : Window) : s.laneScore h k w ≤ 245 := by
  unfold State.laneScore
  split
  · exact scoreBoth_le hh k w
  · exact scoreOne_le hh _ w
  · exact Nat.zero_le 245

end Bounds

/-- Settles O17, condition by condition of the lane. -/
theorem laneScoreFormula : Obligations.LaneScoreFormula := by
  intro s h k w hh
  refine ⟨laneScore_le hh s k w, windowMax_highest h w, fun hnormal => ?_, fun g hone hg hserves => ?_,
    fun hblind => laneScore_of_blind hblind h w⟩
  · rw [laneScore_of_normal hnormal, scoreBoth, recordCount_eq_length]
    rfl
  · rw [laneScore_of_oneAntenna hone hg hserves, scoreOne, recordCount_eq_length]

/-! ### Candidates (R87 to R89) -/

theorem besideLane_iff (k : Lane) (a : Antenna) : besideLane k a = true ↔ a.val = k.val ∨ a.val = k.val + 1 := by
  simp [besideLane, nearAntenna, farAntenna, Fin.ext_iff]

theorem grants_iff (st : SightState) (d : Direction) : st.grants d = true ↔
    st = .active ∨ ∃ n held, st = .claimed n held ∧ (held = .in_ ∨ held = .none_) ∧ (d = .out ∨ d = .unknown) := by
  cases st with
  | active => simp [SightState.grants]
  | resident b => simp [SightState.grants]
  | claimed m held => simp [grants_claimed_iff]

theorem candidate_iff (s : State) (p : Passage) (d : Direction) (e : Sighting) : s.candidate p d e = true ↔
    (∃ r ∈ e.history, besideLane p.lane r.antenna = true ∧ (s.windowOf p).has r.time = true) ∧
    e.state.grants d = true := by
  simp [State.candidate]

theorem mem_candidates {s : State} {p : Passage} {d : Direction} {e : Sighting} :
    e ∈ s.candidates p d ↔ e ∈ s.sightings ∧ s.candidate p d e = true :=
  List.mem_filter

theorem mem_competitors {s : State} {p q : Passage} : q ∈ s.competitors p ↔
    q ∈ s.passages ∧ q.number ≠ p.number ∧ (q.phase = .open_ ∨ q.phase = .settling) := by
  simp [State.competitors, Passage.live]

/-! ### The contest (R92) -/

theorem contest_won_iff (s : State) (p : Passage) (e : Sighting) (n : Nat) : s.contest p e = .won n ↔
    n = s.laneScore e.history p.lane (s.windowOf p) ∧
    (∀ q ∈ s.competitors p, s.laneScore e.history q.lane (s.windowOf q) ≤ n) ∧ 0 < n ∧ s.params.attrMin ≤ n := by
  unfold State.contest
  dsimp only
  split
  next hbeaten =>
    simp only [List.any_eq_true, decide_eq_true_eq] at hbeaten
    obtain ⟨q, hq, hhigher⟩ := hbeaten
    refine ⟨fun h => (by cases h), fun ⟨hn, hle, _⟩ => ?_⟩
    exact absurd (hle q hq) (by omega)
  next hunbeaten =>
    simp only [List.any_eq_true, decide_eq_true_eq, not_exists, not_and, not_lt, gt_iff_lt] at hunbeaten
    split
    next hhigh =>
      refine ⟨fun h => ?_, fun ⟨hn, _⟩ => congrArg _ hn.symm⟩
      cases h
      exact ⟨rfl, hunbeaten, hhigh⟩
    next hlow => exact ⟨fun h => (by cases h), fun ⟨hn, _, hhigh⟩ => absurd (hn ▸ hhigh) hlow⟩

/-- What a candidate adds to the winners of a run. -/
def State.won? (s : State) (p : Passage) (e : Sighting) : Option Winner :=
  match s.contest p e with
  | .won score => some (score, e)
  | _ => none

theorem won?_eq_some_iff (s : State) (p : Passage) (e : Sighting) (w : Winner) :
    s.won? p e = some w ↔ e = w.2 ∧ s.contest p e = .won w.1 := by
  obtain ⟨score, x⟩ := w
  unfold State.won?
  cases s.contest p e <;> simp [and_comm]

theorem winners_eq_rank (s : State) (p : Passage) (d : Direction) :
    s.winners p d = rankWinners ((s.candidates p d).filterMap (s.won? p)) := rfl

/-! ### The ranking (R94) -/

/-- What the ranking compares, in its order: score, highest first, then item number, lowest first (R94). -/
def rankKey (w : Winner) : Natᵒᵈ ×ₗ Nat := toLex (OrderDual.toDual w.1, w.2.item.toNat)

theorem rankKey_lt_iff (a b : Winner) : rankKey a < rankKey b ↔
    b.1 < a.1 ∨ (b.1 = a.1 ∧ a.2.item.toNat < b.2.item.toNat) := by
  simp only [rankKey, Prod.Lex.toLex_lt_toLex, OrderDual.toDual_lt_toDual, OrderDual.toDual_inj, eq_comm (a := a.1)]

theorem ranksBefore_iff (a b : Winner) : ranksBefore a b = true ↔ rankKey a < rankKey b := by
  simp [rankKey_lt_iff, ranksBefore, eq_comm (a := a.1)]

theorem insertWinner_eq_orderedInsert (w : Winner) (l : List Winner) :
    insertWinner w l = l.orderedInsert (rankKey ⁻¹'o (· ≤ ·)) w := by
  induction l with
  | nil => rfl
  | cons x xs ih =>
    unfold insertWinner
    rw [List.orderedInsert_cons, ih]
    simp only [ranksBefore_iff, Order.Preimage, ← not_lt, ite_not]

/-- The ranking is the insertion sort by the key. -/
theorem rankWinners_eq_insertionSort (l : List Winner) :
    rankWinners l = l.insertionSort (rankKey ⁻¹'o (· ≤ ·)) := by
  induction l with
  | nil => rfl
  | cons w ws ih => exact (congrArg (insertWinner w) ih).trans (insertWinner_eq_orderedInsert _ _)

theorem rankWinners_perm (l : List Winner) : (rankWinners l).Perm l := by
  rw [rankWinners_eq_insertionSort]
  exact List.perm_insertionSort _ _

theorem rankWinners_pairwise_le (l : List Winner) : (rankWinners l).Pairwise fun a b => rankKey a ≤ rankKey b := by
  rw [rankWinners_eq_insertionSort]
  exact List.pairwise_insertionSort (rankKey ⁻¹'o (· ≤ ·)) l

/-! ### The winners of a run (R92, R94) -/

theorem mem_winners {s : State} {p : Passage} {d : Direction} {w : Winner} :
    w ∈ s.winners p d ↔ w.2 ∈ s.candidates p d ∧ s.contest p w.2 = .won w.1 := by
  rw [winners_eq_rank, (rankWinners_perm _).mem_iff, List.mem_filterMap]
  simp only [won?_eq_some_iff]
  exact ⟨fun ⟨e, he, hw, hwon⟩ => hw ▸ ⟨he, hwon⟩, fun ⟨he, hwon⟩ => ⟨w.2, he, rfl, hwon⟩⟩

/-- No two winners carry one item number, as no two sightings do (R67). -/
theorem winners_items_nodup {s : State} (hs : s.sightingLaw) (p : Passage) (d : Direction) :
    ((s.winners p d).map fun w => w.2.item).Nodup := by
  obtain ⟨-, hsorted, -⟩ := hs
  rw [winners_eq_rank, ((rankWinners_perm _).map _).nodup_iff]
  refine List.pairwise_map.mpr ((hsorted.filter _).filterMap (s.won? p) fun a b hlt v hv w hw => ?_)
  obtain ⟨rfl, -⟩ := (won?_eq_some_iff _ _ _ _).mp hv
  obtain ⟨rfl, -⟩ := (won?_eq_some_iff _ _ _ _).mp hw
  exact fun heq => hlt.ne (congrArg BitVec.toNat heq)

theorem winners_pairwise_lt {s : State} (hs : s.sightingLaw) (p : Passage) (d : Direction) :
    (s.winners p d).Pairwise fun a b => rankKey a < rankKey b := by
  have hdistinct := List.pairwise_map.mp (winners_items_nodup hs p d)
  have hranked := rankWinners_pairwise_le ((s.candidates p d).filterMap (s.won? p))
  refine (hranked.and hdistinct).imp fun {a b} ⟨hle, hne⟩ => hle.lt_of_ne fun hkey => hne ?_
  exact BitVec.eq_of_toNat_eq (congrArg (fun k => (ofLex k).2) hkey)

/-- Settles O16: the candidates by `candidate_iff`, the winners by `mem_winners` and `contest_won_iff`, their order by the key. -/
theorem winnersAreRanked : Obligations.WinnersAreRanked := by
  intro s p d hs
  refine ⟨fun e => ?_, fun w => ?_, (winners_pairwise_lt hs p d).imp fun {a b} => (rankKey_lt_iff a b).mp⟩
  · rw [candidate_iff, grants_iff]
    simp [besideLane_iff, Window.has, State.windowOf]
  · simp only [mem_winners, mem_candidates, contest_won_iff, mem_competitors, and_assoc, and_imp]

end Sys2Proof.Machine
end

section
/-! SUPPORT. Attribution of a closed passage (05): the claims granted to the winners kept, and the record that results. -/

namespace Sys2Proof.Machine

/-! ### Claims one after another (R79, R95) -/

/-- The sightings of a list of item numbers CLAIMED by a passage, the others as they are. -/
def claimItems (n : Nat) (d : Direction) (items : List ItemNo) (l : List Sighting) : List Sighting :=
  l.map fun e => if e.item ∈ items then { e with state := .claimed n d } else e

theorem claimItems_nil (n : Nat) (d : Direction) (l : List Sighting) : claimItems n d [] l = l := by
  simp [claimItems]

theorem claim_eq_claimItems {s : State} {i : ItemNo} {d : Direction} (h : s.claimGranted i d = true) (n : Nat) :
    s.claim i n d = { s with sightings := claimItems n d [i] s.sightings } := by
  simp only [claim_of_granted h, claimItems, List.mem_singleton]

theorem claimItems_cons (n : Nat) (d : Direction) (i : ItemNo) (items : List ItemNo) (l : List Sighting) :
    claimItems n d items (claimItems n d [i] l) = claimItems n d (i :: items) l := by
  simp only [claimItems, List.map_map]
  refine List.map_congr_left fun e _ => ?_
  by_cases hi : e.item = i <;> simp [hi]

/-- A claim on one item number leaves the entry of another as it is (R79). -/
theorem sighting?_claim_of_ne (s : State) {i j : ItemNo} (hne : j ≠ i) (n : Nat) (d : Direction) :
    (s.claim i n d).sighting? j = s.sighting? j := by
  unfold State.claim
  split
  next =>
    unfold State.sighting?
    dsimp only
    induction s.sightings with
    | nil => rfl
    | cons e es ih =>
      rw [List.map_cons, List.find?_cons, List.find?_cons, ih]
      by_cases hi : e.item = i
      · simp [hi, beq_false_of_ne hne.symm]
      · simp [hi]
  next => rfl

theorem claimGranted_congr {s t : State} {i : ItemNo} (h : t.sighting? i = s.sighting? i) (d : Direction) :
    t.claimGranted i d = s.claimGranted i d := by
  unfold State.claimGranted
  rw [h]

/-- Claims on distinct item numbers, each granted at first, are all granted, in their order (R95, R96). -/
theorem claimAll_of_granted (n : Nat) (d : Direction) {l : List Winner} {s : State} (items : List Item)
    (hdistinct : (l.map fun w => w.2.item).Nodup) (hgranted : ∀ w ∈ l, s.claimGranted w.2.item d = true) :
    claimAll n d l s items =
      ({ s with sightings := claimItems n d (l.map fun w => w.2.item) s.sightings }, items ++ l.map itemOf) := by
  induction l generalizing s items with
  | nil => simp [claimAll, claimItems_nil]
  | cons w ws ih =>
    obtain ⟨hfresh, hrest⟩ := List.nodup_cons.mp hdistinct
    obtain ⟨hw, hws⟩ := List.forall_mem_cons.mp hgranted
    have hstill : ∀ v ∈ ws, (s.claim w.2.item n d).claimGranted v.2.item d = true := fun v hv => by
      have hne : v.2.item ≠ w.2.item := fun heq => hfresh (List.mem_map.mpr ⟨v, hv, heq⟩)
      rw [claimGranted_congr (sighting?_claim_of_ne s hne n d), hws v hv]
    unfold claimAll
    rw [if_pos hw, ih _ hrest hstill, claim_eq_claimItems hw, claimItems_cons, List.append_assoc]
    rfl

/-! ### The winners' claims (R89, R95) -/

theorem sighting?_of_mem {s : State} (hs : s.sightingLaw) {e : Sighting} (he : e ∈ s.sightings) :
    s.sighting? e.item = some e := by
  obtain ⟨-, hsorted, -⟩ := hs
  have hfound : (s.sighting? e.item).isSome = true := List.find?_isSome.mpr ⟨e, he, beq_self_eq_true _⟩
  obtain ⟨x, hx⟩ := Option.isSome_iff_exists.mp hfound
  obtain ⟨hmem, hitem⟩ := sighting?_mem hx
  rw [hx, eq_of_item_eq hsorted hmem he hitem]

/-- A winner is a candidate, whose state grants the claim. -/
theorem claimGranted_of_winner {s : State} (hs : s.sightingLaw) {p : Passage} {d : Direction} {w : Winner}
    (hw : w ∈ s.winners p d) : s.claimGranted w.2.item d = true := by
  obtain ⟨hcandidate, -⟩ := mem_winners.mp hw
  obtain ⟨hmem, hcandidate⟩ := mem_candidates.mp hcandidate
  obtain ⟨-, hgrants⟩ := (candidate_iff s p d w.2).mp hcandidate
  rw [claimGranted_of_some (sighting?_of_mem hs hmem), hgrants]

/-! ### The record (R86, R95 to R97) -/

/-- A change that keeps a record's number changes the record of that number only. -/
theorem passage?_modPassage (s : State) (n : Nat) {f : Passage → Passage} (hf : ∀ p, (f p).number = p.number) (q : Nat) :
    (s.modPassage n f).passage? q = (s.passage? q).map fun p => if p.number == n then f p else p := by
  have hnumber : ∀ p : Passage, (if p.number == n then f p else p).number = p.number := fun p => by
    split
    · exact hf p
    · rfl
  simp only [State.passage?, State.modPassage_passages, List.find?_map, Function.comp_def, hnumber]

theorem passage?_modPassage_same {s : State} {n : Nat} {p : Passage} (h : s.passage? n = some p) {f : Passage → Passage}
    (hf : ∀ p, (f p).number = p.number) : (s.modPassage n f).passage? n = some (f p) := by
  obtain ⟨-, hn⟩ := passage?_mem h
  rw [passage?_modPassage s n hf, h, Option.map_some, if_pos (beq_iff_eq.mpr hn)]

theorem passage?_modPassage_of_ne (s : State) {n q : Nat} (hne : q ≠ n) {f : Passage → Passage}
    (hf : ∀ p, (f p).number = p.number) : (s.modPassage n f).passage? q = s.passage? q := by
  rw [passage?_modPassage s n hf]
  cases h : s.passage? q with
  | none => rfl
  | some p =>
    obtain ⟨-, hq⟩ := passage?_mem h
    have hother : ¬(p.number == n) = true := by simpa [hq] using hne
    rw [Option.map_some, if_neg hother]

/-- A record as attribution with these winners leaves it: JUDGING, its settle timer stopped, the first 24 on its item list,
OVERFLOW set where one is held back (R95 to R97). -/
def Passage.attributed (ranked : List Winner) (q : Passage) : Passage :=
  { q with phase := .judging, settle := none, items := (ranked.take 24).map itemOf,
           flags := { q.flags with overflow := q.flags.overflow || decide (24 < ranked.length) } }

/-- Attribution counts the unattributed, claims the first 24 winners and puts them on the record (R93 to R97). -/
theorem attribute_of_passage {s : State} {p : Passage} {d : Direction} (hs : s.sightingLaw)
    (hp : s.passage? p.number = some p) (hd : p.direction = some d) :
    s.attribute p.number =
      (({ s with sightings := claimItems p.number d (((s.winners p d).take 24).map fun w => w.2.item) s.sightings }
        : State).modDevice fun c =>
          { c with unattributed := satAdd Config.max16 c.unattributed (s.unattributedCount p d) }).modPassage
        p.number (Passage.attributed (s.winners p d)) := by
  have hdistinct : (((s.winners p d).take 24).map fun w => w.2.item).Nodup :=
    (winners_items_nodup hs p d).sublist ((List.take_sublist 24 _).map _)
  have hgranted : ∀ w ∈ (s.winners p d).take 24, s.claimGranted w.2.item d = true :=
    fun w hw => claimGranted_of_winner hs (List.mem_of_mem_take hw)
  have hdir : p.direction.getD .unknown = d := by rw [hd, Option.getD_some]
  unfold State.attribute
  rw [hp]
  dsimp only
  rw [hdir, show Config.maxItems = 24 from rfl, claimAll_of_granted (s := s.modDevice _) p.number d [] hdistinct hgranted]
  rfl

/-- Settles O15: `attribute_of_passage`, read field by field. -/
theorem attributionTakesWinners : Obligations.AttributionTakesWinners := by
  intro s p d hs hp hd
  have hnumber : ∀ q : Passage, (q.attributed (s.winners p d)).number = q.number := fun _ => rfl
  dsimp only
  rw [attribute_of_passage hs hp hd]
  exact ⟨passage?_modPassage_same hp hnumber, rfl, fun q hq => passage?_modPassage_of_ne _ hq hnumber⟩

end Sys2Proof.Machine
end

section
/-! SUPPORT. Rules for the passage table and its item records: what a look-up finds after each named update. -/

namespace Sys2Proof.Machine

/-! ### Looking up a passage -/

/-- In a table without a number twice, a record is found by its number (R19). -/
theorem passage?_of_mem {s : State} (hs : (s.passages.map Passage.number).Nodup) {p : Passage} (hp : p ∈ s.passages) :
    s.passage? p.number = some p := by
  have hfound : (s.passage? p.number).isSome = true := List.find?_isSome.mpr ⟨p, hp, beq_self_eq_true _⟩
  obtain ⟨q, hq⟩ := Option.isSome_iff_exists.mp hfound
  obtain ⟨hmem, hnumber⟩ := passage?_mem hq
  rw [hq, List.inj_on_of_nodup_map hs hmem hp hnumber]

theorem passage?_freePassage_same (s : State) (n : Nat) : (s.freePassage n).passage? n = none := by
  simp [State.passage?, State.freePassage]

theorem passage?_freePassage_of_ne (s : State) {n q : Nat} (hne : q ≠ n) :
    (s.freePassage n).passage? q = s.passage? q := by
  unfold State.passage? State.freePassage
  rw [List.find?_filter]
  congr 1
  funext p
  by_cases h : p.number = q <;> simp [h, hne]

/-- A passage appended to the table changes no look-up that found a record. -/
theorem passage?_append {s t : State} {p : Passage} (h : t.passages = s.passages ++ [p]) (n : Nat) :
    t.passage? n = (s.passage? n).or (if p.number = n then some p else none) := by
  unfold State.passage?
  rw [h, List.find?_append]
  by_cases hn : p.number = n <;> simp [hn]

/-! ### Looking up an item -/

theorem item?_of_passage {s : State} {r : ItemRef} {p : Passage} (h : s.passage? r.passage = some p) :
    s.item? r = p.items[r.position]? := by
  rw [State.item?, h, Option.bind_some]

theorem item?_of_no_passage {s : State} {r : ItemRef} (h : s.passage? r.passage = none) : s.item? r = none := by
  rw [State.item?, h, Option.bind_none]

theorem passage?_of_item? {s : State} {r : ItemRef} {it : Item} (h : s.item? r = some it) :
    ∃ p, s.passage? r.passage = some p ∧ p.items[r.position]? = some it :=
  Option.bind_eq_some_iff.mp h

/-- The look-up of items depends on the passages found alone. -/
theorem item?_congr {s t : State} {r : ItemRef} (h : t.passage? r.passage = s.passage? r.passage) :
    t.item? r = s.item? r := by
  rw [State.item?, h]; rfl

/-- A change of one record changes the item records of its passage number only. -/
theorem item?_modPassage (s : State) (n : Nat) {f : Passage → Passage} (hf : ∀ p, (f p).number = p.number) (r : ItemRef) :
    (s.modPassage n f).item? r =
      if r.passage = n then (s.passage? n).bind fun p => (f p).items[r.position]? else s.item? r := by
  unfold State.item?
  rw [passage?_modPassage s n hf]
  split
  next hn =>
    subst hn
    cases h : s.passage? r.passage with
    | none => rfl
    | some p =>
      obtain ⟨-, hp⟩ := passage?_mem h
      rw [Option.map_some, if_pos (beq_iff_eq.mpr hp)]; rfl
  next hn =>
    cases h : s.passage? r.passage with
    | none => rfl
    | some p =>
      obtain ⟨-, hp⟩ := passage?_mem h
      have hother : ¬(p.number == n) = true := by simpa [hp] using hn
      rw [Option.map_some, if_neg hother]

theorem item?_modPassage_of_ne (s : State) {n : Nat} {r : ItemRef} (hne : r.passage ≠ n) {f : Passage → Passage}
    (hf : ∀ p, (f p).number = p.number) : (s.modPassage n f).item? r = s.item? r :=
  item?_congr (passage?_modPassage_of_ne s hne hf)

/-- A change that leaves number and items of a record leaves every item record. -/
theorem item?_modPassage_of_items (s : State) (n : Nat) {f : Passage → Passage} (hf : ∀ p, (f p).number = p.number)
    (hitems : ∀ p, (f p).items = p.items) (r : ItemRef) : (s.modPassage n f).item? r = s.item? r := by
  unfold State.item?
  rw [passage?_modPassage s n hf]
  cases s.passage? r.passage with
  | none => rfl
  | some p =>
    rw [Option.map_some, Option.bind_some, Option.bind_some]
    split
    · rw [hitems]
    · rfl

/-- A record with one of its item records changed. -/
def Passage.modItem (p : Passage) (i : Nat) (f : Item → Item) : Passage := { p with items := p.items.modify i f }

@[simp] theorem Passage.modItem_number (p : Passage) (i : Nat) (f : Item → Item) : (p.modItem i f).number = p.number := rfl

theorem modItem_eq_modPassage (s : State) (r : ItemRef) (f : Item → Item) :
    s.modItem r f = s.modPassage r.passage fun p => p.modItem r.position f := rfl

theorem item?_modItem (s : State) (r : ItemRef) (f : Item → Item) (x : ItemRef) :
    (s.modItem r f).item? x = if x = r then (s.item? r).map f else s.item? x := by
  rw [modItem_eq_modPassage, item?_modPassage s _ fun p => p.modItem_number _ _]
  split
  next hpassage =>
    split
    next h =>
      subst h
      simp only [State.item?, Passage.modItem, List.getElem?_modify_eq, Option.map_bind, Function.comp_def]
      rfl
    next hne =>
      have hpos : r.position ≠ x.position := fun heq => hne (by cases x; cases r; simp_all)
      unfold State.item?
      rw [hpassage]
      simp only [Passage.modItem, List.getElem?_modify_ne _ _ hpos]
  next hpassage => rw [if_neg fun h => hpassage (congrArg _ h)]

theorem item?_freePassage_same (s : State) {n : Nat} {r : ItemRef} (h : r.passage = n) :
    (s.freePassage n).item? r = none :=
  item?_of_no_passage (h ▸ passage?_freePassage_same s n)

theorem item?_freePassage_of_ne (s : State) {n : Nat} {r : ItemRef} (h : r.passage ≠ n) :
    (s.freePassage n).item? r = s.item? r :=
  item?_congr (passage?_freePassage_of_ne s h)

/-- A record appended without items brings no item record. -/
theorem item?_append {s t : State} {p : Passage} (h : t.passages = s.passages ++ [p]) (hp : p.items = []) (r : ItemRef) :
    t.item? r = s.item? r := by
  unfold State.item?
  rw [passage?_append h]
  cases s.passage? r.passage with
  | some q => rfl
  | none =>
    rw [Option.none_or, Option.bind_none]
    split
    · rw [Option.bind_some, hp, List.getElem?_nil]
    · rfl

/-! ### The numbers in the table -/

/-- The passage numbers in the table, in order of opening. -/
def State.numbers (s : State) : List Nat := s.passages.map Passage.number

@[simp] theorem numbers_modPassage (s : State) (n : Nat) {f : Passage → Passage} (hf : ∀ p, (f p).number = p.number) :
    (s.modPassage n f).numbers = s.numbers := by
  simp only [State.numbers, State.modPassage, List.map_map]
  refine List.map_congr_left fun p _ => ?_
  simp only [Function.comp_apply]
  split
  · exact hf p
  · rfl

@[simp] theorem numbers_modItem (s : State) (r : ItemRef) (f : Item → Item) : (s.modItem r f).numbers = s.numbers :=
  numbers_modPassage s _ fun _ => rfl

theorem numbers_freePassage (s : State) (n : Nat) : (s.freePassage n).numbers.Sublist s.numbers :=
  List.Sublist.map _ List.filter_sublist

end Sys2Proof.Machine
end

section
/-! SUPPORT. What the questions depend on: the part of the state that the law of the query slots speaks of, and what keeps
it. -/

namespace Sys2Proof.Machine

/-! ### The part -/

/-- What the questions depend on in a passage record. -/
structure PassageView where
  number : Nat
  phase : Phase
  items : List Item
  undecided : Option Nat

/-- A passage record as the questions see it. -/
def Passage.view (p : Passage) : PassageView := ⟨p.number, p.phase, p.items, p.judging.map Judging.undecided⟩

/-- What a slot asks about: the item's reference and its number. -/
def Question.about (q : Question) : ItemRef × ItemNo := (q.ref, q.item)

/-- The fields that the law of the questions speaks of. -/
structure AskPart where
  table : List PassageView
  slots : Vector (Option (ItemRef × ItemNo)) 4
  waiting : List ItemRef
  linked : Bool

/-- The part of a state that the questions depend on. -/
def State.asking (s : State) : AskPart :=
  ⟨s.passages.map Passage.view, s.slots.map (Option.map Question.about), s.waiting, s.linked⟩

/-- What slot `j` asks about, if it is in flight. -/
def State.asked? (s : State) (j : SlotNo) : Option (ItemRef × ItemNo) := s.slots[j].map Question.about

theorem asked?_eq_asking (s : State) (j : SlotNo) : s.asked? j = s.asking.slots[j] := by
  simp [State.asked?, State.asking]

theorem asked?_congr {s t : State} (h : t.asking = s.asking) (j : SlotNo) : t.asked? j = s.asked? j := by
  rw [asked?_eq_asking, asked?_eq_asking, h]

theorem waiting_congr {s t : State} (h : t.asking = s.asking) : t.waiting = s.waiting := congrArg AskPart.waiting h

theorem linked_congr {s t : State} (h : t.asking = s.asking) : t.linked = s.linked := congrArg AskPart.linked h

theorem numbers_eq_asking (s : State) : s.numbers = s.asking.table.map PassageView.number := by
  simp [State.numbers, State.asking, Function.comp_def, Passage.view]

theorem numbers_congr {s t : State} (h : t.asking = s.asking) : t.numbers = s.numbers := by
  rw [numbers_eq_asking, numbers_eq_asking, h]

theorem item?_eq_asking (s : State) (r : ItemRef) :
    s.item? r = (s.asking.table.find? fun v => v.number == r.passage).bind fun v => v.items[r.position]? := by
  simp only [State.item?, State.passage?, State.asking, List.find?_map, Option.bind_map]
  rfl

theorem item?_of_asking {s t : State} (h : t.asking = s.asking) (r : ItemRef) : t.item? r = s.item? r := by
  rw [item?_eq_asking, item?_eq_asking, h]

/-! ### Frames that keep the part -/

theorem LineFrame.asking {s t : State} (h : LineFrame s t) : t.asking = s.asking := by rw [h]; rfl

theorem RadioFrame.asking {s t : State} (h : RadioFrame s t) : t.asking = s.asking := by rw [h]; rfl

/-! ### Updates of a record that the questions do not see -/

theorem asking_modPassage (s : State) (n : Nat) {f : Passage → Passage} (hf : ∀ p, (f p).view = p.view) :
    (s.modPassage n f).asking = s.asking := by
  have hview : ∀ p : Passage, (if p.number == n then f p else p).view = p.view := fun p => by
    split
    · exact hf p
    · rfl
  simp only [State.asking, State.modPassage, List.map_map, Function.comp_def, hview]

theorem Passage.mark_view (p : Passage) (c : LaneCondition) : (p.mark c).view = p.view := by
  unfold Passage.mark
  split
  · split <;> rfl
  · rfl

theorem asking_markPassages (s : State) : s.markPassages.asking = s.asking := by
  simp only [State.asking, State.markPassages, List.map_map, Function.comp_def, Passage.mark_view]

/-! ### The transmitter -/

theorem mem_pendingSlots {s : State} {j : SlotNo} {q : Question} :
    (j, q) ∈ s.pendingSlots ↔ s.slots[j] = some q ∧ q.asked = false := by
  have hall : j ∈ allSlots := by fin_cases j <;> decide
  unfold State.pendingSlots
  rw [List.mem_filterMap]
  constructor
  · rintro ⟨i, -, hi⟩
    split at hi
    next q' hq' =>
      split at hi
      · cases hi
      · next hasked => cases hi; exact ⟨hq', by simpa using hasked⟩
    next => cases hi
  · rintro ⟨hq, hasked⟩
    exact ⟨j, hall, by rw [hq]; simp [hasked]⟩

theorem earliestQuestion_mem {l : List (SlotNo × Question)} {x : SlotNo × Question} (h : earliestQuestion l = some x) :
    x ∈ l := by
  cases l with
  | nil => cases h
  | cons y ys =>
    cases h
    refine List.foldlRecOn (motive := fun b => b ∈ y :: ys) ys _ (List.mem_cons_self ..) fun b hb z hz => ?_
    split
    · exact List.mem_cons_of_mem _ hz
    · exact hb

/-- A slot whose question is replaced by one about the same item asks what it asked. -/
theorem asking_setSlot {s : State} {j : SlotNo} {q q' : Question} (hq : s.slots[j] = some q) (h : q'.about = q.about) :
    (s.setSlot j (some q')).asking = s.asking := by
  have hslots : (s.slots.set j (some q')).map (Option.map Question.about) = s.slots.map (Option.map Question.about) := by
    refine Vector.ext fun i hi => ?_
    rw [Vector.getElem_map, Vector.getElem_set, Vector.getElem_map]
    split
    next heq =>
      subst heq
      have hq' : s.slots[j.val] = some q := hq
      rw [hq', Option.map_some, Option.map_some, h]
    next => rfl
  unfold State.asking
  rw [State.setSlot_slots, hslots]
  rfl

/-- Sending a frame leaves the questions as they are, but that a PENDING one becomes ASKED (R164). -/
@[simp] theorem asking_arbitrateTx (s : State) : s.arbitrateTx.asking = s.asking := by
  unfold State.arbitrateTx
  split
  · rfl
  · split
    · rfl
    · split
      next j q hq =>
        obtain ⟨hj, -⟩ := mem_pendingSlots.mp (earliestQuestion_mem hq)
        exact asking_setSlot hj rfl
      next => split <;> rfl

section Kept
variable (s : State)

@[simp] theorem asking_queueNotice (b : Body) : (s.queueNotice b).asking = s.asking := by
  unfold State.queueNotice
  split
  · exact asking_arbitrateTx _
  · rfl

@[simp] theorem asking_queueReport (b : Body) : (s.queueReport b).asking = s.asking := by
  unfold State.queueReport
  split
  · exact asking_arbitrateTx _
  · rfl

@[simp] theorem asking_placeReply (b : Body) : (s.placeReply b).asking = s.asking := asking_arbitrateTx _
@[simp] theorem asking_recomputeLines : s.recomputeLines.asking = s.asking := (recomputeLines_frame s).asking
@[simp] theorem asking_choose : s.choose.asking = s.asking := (choose_frame s).asking
@[simp] theorem asking_openSlot (r : Round) : (s.openSlot r).asking = s.asking := (openSlot_frame s r).asking
@[simp] theorem asking_modBeam (k : Lane) (x : Beam) (f : BeamState → BeamState) :
    (s.modBeam k x f).asking = s.asking := rfl
@[simp] theorem asking_modCounts (k : Lane) (f : LaneCounts → LaneCounts) : (s.modCounts k f).asking = s.asking := rfl
@[simp] theorem asking_modDevice (f : DeviceCounters → DeviceCounters) : (s.modDevice f).asking = s.asking := rfl
@[simp] theorem asking_discardFrame : s.discardFrame.asking = s.asking := rfl
@[simp] theorem asking_holdByte (rx : Receiver) : (s.holdByte rx).asking = s.asking := rfl
@[simp] theorem asking_addLoan (i : ItemNo) : (s.addLoan i).asking = s.asking := by rw [addLoan_loans_device]; rfl

@[simp] theorem asking_endEvent (s0 : State) : (s.endEvent s0).asking = s.asking := by
  unfold State.endEvent
  rw [asking_recomputeLines]
  split
  · exact asking_choose s
  · rfl

/-- An alarm of a passage marks its judging state and is no matter of the questions (R118). -/
@[simp] theorem asking_passageAlarm (n : Nat) (reason : Reason) (item : Option ItemNo) :
    (s.passageAlarm n reason item).asking = s.asking := by
  unfold State.passageAlarm
  split
  · rfl
  · next p _ =>
    have hmark : ∀ p : Passage,
        ({ p with judging := p.judging.map fun j => { j with mark := true } } : Passage).view = p.view := fun p => by
      simp [Passage.view, Function.comp_def]
    have hfirst : (s.firstAlarm p reason item).asking = s.asking := by
      unfold State.firstAlarm
      dsimp only
      split
      · exact asking_modPassage s _ hmark
      · rw [asking_queueNotice, asking_modCounts, asking_modPassage s _ hmark]
    dsimp only
    split <;> split
    · rfl
    · exact hfirst
    · rfl
    · exact hfirst

@[simp] theorem asking_mergeRead (r : Read) : (s.mergeRead r).asking = s.asking := by
  have hevict : s.evictIfFull.asking = s.asking := by
    unfold State.evictIfFull
    split
    · rfl
    · split <;> rfl
  unfold State.mergeRead
  dsimp only
  split
  · rfl
  · exact hevict

@[simp] theorem asking_expireAge (i : ItemNo) : (s.expireAge i).asking = s.asking := by
  unfold State.expireAge
  split
  · split <;> rfl
  · rfl

end Kept

end Sys2Proof.Machine
end

section
/-! SUPPORT. The law of the questions (07): each item without verdict has one place, in a slot or in the waiting list; and
what each kind of change does to it. -/

namespace Sys2Proof.Machine

/-! ### The passage table, as far as the questions need it -/

/-- A record as the questions need it: items and judging state only in JUDGING, and the count of items without verdict is
right (R18, R111). -/
def PassageView.tallied (v : PassageView) : Prop :=
  (v.phase ≠ .judging → v.items = [] ∧ v.undecided = none) ∧
  ∀ u ∈ v.undecided, u = v.items.countP fun it => it.ruling.isNone

/-- The passage table, as the questions need it: no number twice, every record tallied. -/
structure State.Table (s : State) : Prop where
  distinct : s.numbers.Nodup
  tallied : ∀ v ∈ s.asking.table, v.tallied

theorem State.Table.of_passage {s : State} (h : s.Table) {p : Passage} (hp : p ∈ s.passages) : p.view.tallied :=
  h.tallied _ (List.mem_map_of_mem hp)

theorem State.Table.of_asking {s t : State} (hs : s.Table) (h : t.asking = s.asking) : t.Table :=
  ⟨(numbers_congr h).symm ▸ hs.distinct, h ▸ hs.tallied⟩

/-- A change of one record keeps the table when it keeps number and tally of that record. -/
theorem State.Table.modPassage {s : State} (hs : s.Table) {n : Nat} {f : Passage → Passage}
    (hf : ∀ p, (f p).number = p.number) (hn : ∀ p ∈ s.passages, p.number = n → p.view.tallied → (f p).view.tallied) :
    (s.modPassage n f).Table := by
  refine ⟨(numbers_modPassage s n hf).symm ▸ hs.distinct, fun v hv => ?_⟩
  obtain ⟨q, hq, rfl⟩ := List.mem_map.mp hv
  obtain ⟨p, hp, rfl⟩ := List.mem_map.mp hq
  have htallied := hs.of_passage hp
  split
  next h => exact hn p hp (beq_iff_eq.mp h) htallied
  next => exact htallied

theorem State.Table.freePassage {s : State} (hs : s.Table) (n : Nat) : (s.freePassage n).Table := by
  refine ⟨hs.distinct.sublist (numbers_freePassage s n), fun v hv => ?_⟩
  obtain ⟨p, hp, rfl⟩ := List.mem_map.mp hv
  exact hs.of_passage (List.mem_of_mem_filter hp)

/-- Only a passage in JUDGING has item records. -/
theorem State.Table.judging_of_item {s : State} (hs : s.Table) {r : ItemRef} {it : Item} (h : s.item? r = some it) :
    ∃ p, s.passage? r.passage = some p ∧ p.phase = .judging ∧ p.items[r.position]? = some it := by
  obtain ⟨p, hp, hit⟩ := passage?_of_item? h
  obtain ⟨hidle, -⟩ := hs.of_passage (passage?_mem hp).1
  refine ⟨p, hp, by_contra fun hphase => ?_, hit⟩
  obtain ⟨hitems, -⟩ := hidle hphase
  have hnone : p.items = [] := hitems
  rw [hnone] at hit
  cases hit

/-- A passage in another state has none. -/
theorem State.Table.no_item {s : State} (hs : s.Table) {p : Passage} (hp : p ∈ s.passages) (hphase : p.phase ≠ .judging)
    {r : ItemRef} (hr : r.passage = p.number) : s.item? r = none := by
  obtain ⟨hidle, -⟩ := hs.of_passage hp
  have hitems : p.items = [] := (hidle hphase).1
  rw [item?_of_passage (hr ▸ passage?_of_mem hs.distinct hp), hitems, List.getElem?_nil]

/-! ### Places -/

/-- The place that an item's query slot field gives it: that slot, or the waiting list where the field is absent (R115). -/
def State.hasPlace (s : State) (r : ItemRef) : Option SlotNo → Prop
  | some j => (s.asked? j).map Prod.fst = some r
  | none => r ∈ s.waiting

theorem State.hasPlace_none (s : State) (r : ItemRef) : s.hasPlace r none ↔ r ∈ s.waiting := Iff.rfl

theorem State.hasPlace_some (s : State) (r : ItemRef) (j : SlotNo) :
    s.hasPlace r (some j) ↔ (s.asked? j).map Prod.fst = some r := Iff.rfl

/-- Each question is about one item without verdict, and each item without verdict has its place, but for the items in
`limbo`: those that an event has taken from their place, or not yet given one (R115, R124, R125). -/
structure State.Placing (s : State) (limbo : ItemRef → Prop) : Prop where
  inSlot : ∀ j r i, s.asked? j = some (r, i) →
    ∃ it, s.item? r = some it ∧ it.ruling = none ∧ it.slot = some j ∧ it.item = i
  waits : ∀ r ∈ s.waiting, ∃ it, s.item? r = some it ∧ it.ruling = none ∧ it.slot = none
  once : s.waiting.Nodup
  placed : ∀ r it, s.item? r = some it → it.ruling = none → ¬limbo r → s.hasPlace r it.slot
  apart : ∀ r, limbo r → r ∉ s.waiting ∧ ∀ it, s.item? r = some it → it.ruling = none ∧ it.slot = none

/-- No item is in limbo: the state between events. -/
def nowhere (_ : ItemRef) : Prop := False

section Changes
variable {s t : State} {L : ItemRef → Prop}

theorem State.hasPlace_congr (hslots : ∀ j, t.asked? j = s.asked? j) (hwaiting : t.waiting = s.waiting) (r : ItemRef)
    (o : Option SlotNo) : t.hasPlace r o ↔ s.hasPlace r o := by
  cases o with
  | none => rw [State.hasPlace_none, State.hasPlace_none, hwaiting]
  | some j => rw [State.hasPlace_some, State.hasPlace_some, hslots]

theorem State.Placing.iff {L' : ItemRef → Prop} (h : s.Placing L) (hL : ∀ r, L r ↔ L' r) : s.Placing L' := by
  obtain rfl : L = L' := funext fun r => propext (hL r)
  exact h

/-- Slots and waiting list as they were, and every item record too but for those in limbo, which stay in limbo. -/
theorem State.Placing.recast (h : s.Placing L) (hslots : ∀ j, t.asked? j = s.asked? j) (hwaiting : t.waiting = s.waiting)
    (hitems : ∀ r, ¬L r → t.item? r = s.item? r)
    (hlimbo : ∀ r it, L r → t.item? r = some it → it.ruling = none ∧ it.slot = none) : t.Placing L where
  inSlot j r i hj := by
    obtain ⟨it, hit, hruling, hslot, hi⟩ := h.inSlot j r i (hslots j ▸ hj)
    have hr : ¬L r := fun hr => by
      obtain ⟨-, hnone⟩ := (h.apart r hr).2 it hit
      simp [hnone] at hslot
    exact ⟨it, (hitems r hr).trans hit, hruling, hslot, hi⟩
  waits r hr := by
    obtain ⟨it, hit, hfree⟩ := h.waits r (hwaiting ▸ hr)
    exact ⟨it, (hitems r fun hL => (h.apart r hL).1 (hwaiting ▸ hr)).trans hit, hfree⟩
  once := hwaiting ▸ h.once
  placed r it hit hruling hr :=
    (State.hasPlace_congr hslots hwaiting r _).mpr (h.placed r it (hitems r hr ▸ hit) hruling hr)
  apart r hr := ⟨hwaiting ▸ (h.apart r hr).1, fun it => hlimbo r it hr⟩

theorem State.Placing.of_asking (hs : s.Placing L) (h : t.asking = s.asking) : t.Placing L :=
  hs.recast (asked?_congr h) (waiting_congr h) (fun r _ => item?_of_asking h r)
    fun r it hr hit => (hs.apart r hr).2 it (item?_of_asking h r ▸ hit)

/-- References that name no item may be counted as in limbo. -/
theorem State.Placing.widen (h : s.Placing nowhere) (hnone : ∀ r, L r → s.item? r = none) : s.Placing L where
  inSlot := h.inSlot
  waits := h.waits
  once := h.once
  placed r it hit hruling _ := h.placed r it hit hruling id
  apart r hr := by
    refine ⟨fun hw => ?_, fun it hit => absurd hit (by simp [hnone r hr])⟩
    obtain ⟨it, hit, -⟩ := h.waits r hw
    simp [hnone r hr] at hit

/-- A verdict for an item in limbo takes it from there (R117). -/
theorem State.Placing.rule (h : s.Placing L) {r : ItemRef} (hr : L r) (hslots : ∀ j, t.asked? j = s.asked? j)
    (hwaiting : t.waiting = s.waiting) (hitems : ∀ x, x ≠ r → t.item? x = s.item? x)
    (hruled : ∀ it, t.item? r = some it → it.ruling ≠ none) : t.Placing fun x => L x ∧ x ≠ r where
  inSlot j x i hj := by
    obtain ⟨it, hit, hruling, hslot, hi⟩ := h.inSlot j x i (hslots j ▸ hj)
    have hx : x ≠ r := fun hx => by
      obtain ⟨-, hnone⟩ := (h.apart r hr).2 it (hx ▸ hit)
      simp [hnone] at hslot
    exact ⟨it, (hitems x hx).trans hit, hruling, hslot, hi⟩
  waits x hx := by
    obtain ⟨it, hit, hfree⟩ := h.waits x (hwaiting ▸ hx)
    exact ⟨it, (hitems x fun heq => (h.apart r hr).1 (heq ▸ hwaiting ▸ hx)).trans hit, hfree⟩
  once := hwaiting ▸ h.once
  placed x it hit hruling hx := by
    have hne : x ≠ r := fun heq => hruled it (heq ▸ hit) hruling
    exact (State.hasPlace_congr hslots hwaiting x _).mpr
      (h.placed x it (hitems x hne ▸ hit) hruling fun hL => hx ⟨hL, hne⟩)
  apart x hx := ⟨hwaiting ▸ (h.apart x hx.1).1, fun it hit => (h.apart x hx.1).2 it (hitems x hx.2 ▸ hit)⟩

/-- A slot that is freed puts its item in limbo (R124). -/
theorem State.Placing.free (h : s.Placing L) {j : SlotNo} {r : ItemRef} {i : ItemNo} (hj : s.asked? j = some (r, i))
    (hslots : ∀ k, t.asked? k = if k = j then none else s.asked? k) (hwaiting : t.waiting = s.waiting)
    (hitems : ∀ x, x ≠ r → t.item? x = s.item? x)
    (hitem : t.item? r = (s.item? r).map fun it => { it with slot := none }) : t.Placing fun x => L x ∨ x = r := by
  obtain ⟨it, hit, hruling, hslot, -⟩ := h.inSlot j r i hj
  have hnot : r ∉ s.waiting := fun hw => by
    obtain ⟨it', hit', -, hnone⟩ := h.waits r hw
    simp_all
  refine ⟨fun k x i' hk => ?_, fun x hx => ?_, hwaiting ▸ h.once, fun x it' hit' hruling' hx => ?_, fun x hx => ?_⟩
  · rw [hslots] at hk
    split at hk
    · cases hk
    next hkj =>
      obtain ⟨it', hit', hruling', hslot', hi'⟩ := h.inSlot k x i' hk
      have hx : x ≠ r := fun heq => hkj (by subst heq; simp_all)
      exact ⟨it', (hitems x hx).trans hit', hruling', hslot', hi'⟩
  · rw [hwaiting] at hx
    obtain ⟨it', hit', hfree⟩ := h.waits x hx
    exact ⟨it', (hitems x fun heq => hnot (heq ▸ hx)).trans hit', hfree⟩
  · obtain ⟨hL, hne⟩ := not_or.mp hx
    have hplace := h.placed x it' (hitems x hne ▸ hit') hruling' hL
    cases hslot' : it'.slot with
    | none => rw [hslot'] at hplace; exact (hwaiting ▸ hplace : x ∈ t.waiting)
    | some k =>
      rw [hslot'] at hplace
      have hk : (s.asked? k).map Prod.fst = some x := hplace
      have hkj : k ≠ j := fun heq => hne (by rw [heq, hj] at hk; simpa using hk.symm)
      rw [State.hasPlace_some, hslots, if_neg hkj, hk]
  · by_cases hne : x = r
    · subst hne
      refine ⟨hwaiting ▸ hnot, fun it' hit' => ?_⟩
      rw [hitem, hit] at hit'
      cases hit'
      exact ⟨hruling, rfl⟩
    · obtain ⟨hw, hfree⟩ := h.apart x (hx.resolve_right hne)
      exact ⟨hwaiting ▸ hw, fun it' hit' => hfree it' (hitems x hne ▸ hit')⟩

/-- References taken from the waiting list are in limbo (R132 to R134). -/
theorem State.Placing.unwait (h : s.Placing L) (hslots : ∀ j, t.asked? j = s.asked? j)
    (hwaiting : t.waiting.Sublist s.waiting) (hitems : ∀ x, t.item? x = s.item? x) :
    t.Placing fun x => L x ∨ (x ∈ s.waiting ∧ x ∉ t.waiting) where
  inSlot j r i hj := hitems r ▸ h.inSlot j r i (hslots j ▸ hj)
  waits r hr := hitems r ▸ h.waits r (hwaiting.mem hr)
  once := h.once.sublist hwaiting
  placed r it hit hruling hr := by
    obtain ⟨hL, hstays⟩ := not_or.mp hr
    have hplace := h.placed r it (hitems r ▸ hit) hruling hL
    cases hslot : it.slot with
    | none =>
      rw [hslot] at hplace
      exact by_contra fun hw => hstays ⟨hplace, hw⟩
    | some j =>
      rw [hslot] at hplace
      rw [State.hasPlace_some, hslots]
      exact hplace
  apart r hr := by
    rcases hr with hL | ⟨hin, hout⟩
    · obtain ⟨hw, hfree⟩ := h.apart r hL
      exact ⟨fun hin => hw (hwaiting.mem hin), fun it hit => hfree it (hitems r ▸ hit)⟩
    · obtain ⟨it, hit, hfree⟩ := h.waits r hin
      refine ⟨hout, fun it' hit' => ?_⟩
      rw [hitems, hit] at hit'
      cases hit'
      exact hfree

/-- An item in limbo takes a FREE slot (R126). -/
theorem State.Placing.take (h : s.Placing L) {r : ItemRef} (hr : L r) {it : Item} (hit : s.item? r = some it)
    {j : SlotNo} (hj : s.asked? j = none)
    (hslots : ∀ k, t.asked? k = if k = j then some (r, it.item) else s.asked? k) (hwaiting : t.waiting = s.waiting)
    (hitems : ∀ x, x ≠ r → t.item? x = s.item? x) (hitem : t.item? r = some { it with slot := some j }) :
    t.Placing fun x => L x ∧ x ≠ r := by
  obtain ⟨hnot, hfree⟩ := h.apart r hr
  obtain ⟨hruling, hnone⟩ := hfree it hit
  refine ⟨fun k x i hk => ?_, fun x hx => ?_, hwaiting ▸ h.once, fun x it' hit' hruling' hx => ?_, fun x hx => ?_⟩
  · rw [hslots] at hk
    split at hk
    next hkj =>
      obtain ⟨rfl, rfl⟩ := Prod.mk.inj (Option.some.inj hk)
      exact ⟨_, hitem, hruling, congrArg some hkj.symm, rfl⟩
    next =>
      obtain ⟨it', hit', hruling', hslot', hi'⟩ := h.inSlot k x i hk
      have hx : x ≠ r := fun heq => by subst heq; simp_all
      exact ⟨it', (hitems x hx).trans hit', hruling', hslot', hi'⟩
  · rw [hwaiting] at hx
    obtain ⟨it', hit', hfree'⟩ := h.waits x hx
    exact ⟨it', (hitems x fun heq => hnot (heq ▸ hx)).trans hit', hfree'⟩
  · by_cases hne : x = r
    · subst hne
      rw [hitem] at hit'
      cases hit'
      rw [State.hasPlace_some, hslots, if_pos rfl, Option.map_some]
    · have hplace := h.placed x it' (hitems x hne ▸ hit') hruling' fun hL => hx ⟨hL, hne⟩
      cases hslot' : it'.slot with
      | none => rw [hslot'] at hplace; exact (hwaiting ▸ hplace : x ∈ t.waiting)
      | some k =>
        rw [hslot'] at hplace
        have hk : (s.asked? k).map Prod.fst = some x := hplace
        have hkj : k ≠ j := fun heq => by rw [heq, hj] at hk; cases hk
        rw [State.hasPlace_some, hslots, if_neg hkj, hk]
  · obtain ⟨hw, hfree'⟩ := h.apart x hx.1
    exact ⟨hwaiting ▸ hw, fun it' hit' => hfree' it' (hitems x hx.2 ▸ hit')⟩

/-- An item in limbo joins the tail of the waiting list (R126). -/
theorem State.Placing.wait (h : s.Placing L) {r : ItemRef} (hr : L r) {it : Item} (hit : s.item? r = some it)
    (hslots : ∀ j, t.asked? j = s.asked? j) (hwaiting : t.waiting = s.waiting ++ [r])
    (hitems : ∀ x, t.item? x = s.item? x) : t.Placing fun x => L x ∧ x ≠ r := by
  obtain ⟨hnot, hfree⟩ := h.apart r hr
  have hmem : ∀ x, x ∈ t.waiting ↔ x ∈ s.waiting ∨ x = r := fun x => by simp [hwaiting]
  refine ⟨fun j x i hj => hitems x ▸ h.inSlot j x i (hslots j ▸ hj), fun x hx => ?_, ?_,
    fun x it' hit' hruling hx => ?_, fun x hx => ?_⟩
  · rw [hitems]
    rcases (hmem x).mp hx with hx | rfl
    · exact h.waits x hx
    · exact ⟨it, hit, hfree it hit⟩
  · rw [hwaiting]
    exact List.nodup_append.mpr ⟨h.once, List.nodup_singleton r, fun x hx y hy => by
      rw [List.mem_singleton.mp hy]
      exact fun heq => hnot (heq ▸ hx)⟩
  · rw [hitems] at hit'
    by_cases hne : x = r
    · subst hne
      rw [(hfree it' hit').2]
      exact (hmem x).mpr (.inr rfl)
    · have hplace := h.placed x it' hit' hruling fun hL => hx ⟨hL, hne⟩
      cases hslot : it'.slot with
      | none => rw [hslot] at hplace; exact (hmem x).mpr (.inl hplace)
      | some k =>
        rw [hslot] at hplace
        rw [State.hasPlace_some, hslots]
        exact hplace
  · obtain ⟨hw, hfree'⟩ := h.apart x hx.1
    exact ⟨fun hin => ((hmem x).mp hin).elim hw hx.2, fun it' hit' => hfree' it' (hitems x ▸ hit')⟩

/-- A record freed whose items all have a verdict takes no place from any other (R22). -/
theorem State.Placing.drop (h : s.Placing L) {n : Nat}
    (hruled : ∀ r it, r.passage = n → s.item? r = some it → it.ruling ≠ none)
    (hslots : ∀ j, t.asked? j = s.asked? j) (hwaiting : t.waiting = s.waiting)
    (hitems : ∀ r, r.passage ≠ n → t.item? r = s.item? r) (hgone : ∀ r, r.passage = n → t.item? r = none) :
    t.Placing L where
  inSlot j r i hj := by
    obtain ⟨it, hit, hruling, hrest⟩ := h.inSlot j r i (hslots j ▸ hj)
    exact ⟨it, (hitems r fun hn => hruled r it hn hit hruling).trans hit, hruling, hrest⟩
  waits r hr := by
    obtain ⟨it, hit, hruling, hslot⟩ := h.waits r (hwaiting ▸ hr)
    exact ⟨it, (hitems r fun hn => hruled r it hn hit hruling).trans hit, hruling, hslot⟩
  once := hwaiting ▸ h.once
  placed r it hit hruling hr := by
    have hn : r.passage ≠ n := fun hn => by simp [hgone r hn] at hit
    exact (State.hasPlace_congr hslots hwaiting r _).mpr (h.placed r it (hitems r hn ▸ hit) hruling hr)
  apart r hr := by
    obtain ⟨hw, hfree⟩ := h.apart r hr
    refine ⟨hwaiting ▸ hw, fun it hit => ?_⟩
    have hn : r.passage ≠ n := fun hn => by simp [hgone r hn] at hit
    exact hfree it (hitems r hn ▸ hit)

end Changes

/-! ### The law between events -/

/-- Items wait only while LINKED with all slots in flight; nothing waits or is in flight while STANDALONE (R132, R133). -/
structure State.Served (s : State) : Prop where
  full : s.waiting ≠ [] → ∀ j, s.asked? j ≠ none
  standalone : s.linked = false → s.waiting = [] ∧ ∀ j, s.asked? j = none

theorem State.Served.of_asking {s t : State} (hs : s.Served) (h : t.asking = s.asking) : t.Served where
  full hw j := asked?_congr h j ▸ hs.full (waiting_congr h ▸ hw) j
  standalone hl :=
    have hs := hs.standalone (linked_congr h ▸ hl)
    ⟨waiting_congr h ▸ hs.1, fun j => asked?_congr h j ▸ hs.2 j⟩

/-- What every event keeps of the questions. -/
structure State.AskLaw (s : State) : Prop where
  table : s.Table
  placing : s.Placing nowhere
  served : s.Served

theorem State.AskLaw.of_asking {s t : State} (hs : s.AskLaw) (h : t.asking = s.asking) : t.AskLaw :=
  ⟨hs.table.of_asking h, hs.placing.of_asking h, hs.served.of_asking h⟩

theorem freeSlot?_eq_none_iff (s : State) : s.freeSlot? = none ↔ ∀ j, s.asked? j ≠ none := by
  unfold State.freeSlot?
  rw [List.find?_eq_none]
  have hall : ∀ j : SlotNo, j ∈ allSlots := by decide
  simp [hall, State.asked?]

/-- The law of the statements gives the law kept (R115, R124, R125, R132, R133). -/
theorem askLaw_of_queryLaw {s : State} (hp : s.passageLaw) (hq : s.queryLaw) : s.AskLaw := by
  obtain ⟨-, hdistinct, -, -, -, hlawful, -⟩ := hp
  obtain ⟨hslots, hwaits, honce, hplaced, hfull, halone⟩ := hq
  have htable : s.Table := by
    refine ⟨hdistinct, fun v hv => ?_⟩
    obtain ⟨p, hp, rfl⟩ := List.mem_map.mp hv
    obtain ⟨-, -, -, -, -, -, -, -, -, hidle, hjudging⟩ := hlawful p hp
    refine ⟨fun h => ?_, fun u hu => ?_⟩
    · obtain ⟨hitems, hnone⟩ := hidle h
      exact ⟨hitems, by simp [Passage.view, hnone]⟩
    · by_cases h : p.phase = .judging
      · exact Option.some.inj (hu.symm.trans (hjudging h).2)
      · have hu' : p.judging.map Judging.undecided = some u := hu
        rw [(hidle h).2] at hu'
        cases hu'
  have hawaits {r : ItemRef} {o : Option SlotNo} (h : s.awaits r o) :
      ∃ it, s.item? r = some it ∧ it.ruling = none ∧ it.slot = o := by
    obtain ⟨-, hit⟩ := h
    obtain ⟨it, hit, heq⟩ := Option.map_eq_some_iff.mp hit
    obtain ⟨hruling, hslot⟩ := Prod.mk.inj heq
    exact ⟨it, hit, hruling, hslot⟩
  refine ⟨htable, ⟨fun j r i hj => ?_, fun r hr => hawaits (hwaits r hr), honce, fun r it hit hruling _ => ?_,
    fun _ h => h.elim⟩, fun hw => (freeSlot?_eq_none_iff s).mp (hfull hw).2, fun hl => ⟨?_, fun j => ?_⟩⟩
  · obtain ⟨q, hq, habout⟩ := Option.map_eq_some_iff.mp hj
    obtain ⟨rfl, rfl⟩ := Prod.mk.inj habout
    obtain ⟨hfree, hitem⟩ := hslots j q hq
    obtain ⟨it, hit, hruling, hslot⟩ := hawaits hfree
    rw [hit] at hitem
    exact ⟨it, hit, hruling, hslot, Option.some.inj hitem⟩
  · obtain ⟨p, hp, hphase, hitem⟩ := htable.judging_of_item hit
    obtain ⟨hmem, hnumber⟩ := passage?_mem hp
    obtain ⟨hpos, rfl⟩ := List.getElem?_eq_some_iff.mp hitem
    have hholds := hplaced p hmem hphase ⟨r.position, hpos⟩ hruling
    have hr : (⟨p.number, r.position⟩ : ItemRef) = r := by cases r; cases hnumber; rfl
    change s.holdsPlace ⟨p.number, r.position⟩ p.items[r.position].slot = true at hholds
    rw [hr] at hholds
    cases hslot : p.items[r.position].slot with
    | none => rw [hslot] at hholds; exact List.contains_iff_mem.mp hholds
    | some j =>
      rw [hslot] at hholds
      have href : s.slots[j].map Question.ref = some r := beq_iff_eq.mp hholds
      rw [State.hasPlace_some, State.asked?, Option.map_map]
      exact href
  · exact by_contra fun hw => by simp [(hfull hw).1] at hl
  · rw [State.asked?, halone hl j]
    rfl

/-- And is given by it. -/
theorem queryLaw_of_askLaw {s : State} (h : s.AskLaw) : s.queryLaw := by
  have hawaits {r : ItemRef} {it : Item} (hit : s.item? r = some it) (hruling : it.ruling = none) :
      s.awaits r it.slot := by
    obtain ⟨p, hp, hphase, -⟩ := h.table.judging_of_item hit
    exact ⟨by rw [hp, Option.map_some, hphase], by rw [hit, Option.map_some, hruling]⟩
  refine ⟨fun j q hq => ?_, fun r hr => ?_, h.placing.once, fun p hp hphase i hruling => ?_, fun hw => ⟨?_, ?_⟩,
    fun hl j => ?_⟩
  · have hj : s.asked? j = some (q.ref, q.item) := congrArg (Option.map Question.about) hq
    obtain ⟨it, hit, hruling, hslot, hitem⟩ := h.placing.inSlot j _ _ hj
    exact ⟨hslot ▸ hawaits hit hruling, by rw [hit, Option.map_some, hitem]⟩
  · obtain ⟨it, hit, hruling, hslot⟩ := h.placing.waits r hr
    exact hslot ▸ hawaits hit hruling
  · have hit : s.item? ⟨p.number, i.val⟩ = some p.items[i] := by
      rw [item?_of_passage (r := ⟨p.number, i.val⟩) (passage?_of_mem h.table.distinct hp)]
      exact List.getElem?_eq_getElem i.isLt
    have hplace := h.placing.placed _ _ hit hruling id
    cases hslot : p.items[i].slot with
    | none => rw [hslot] at hplace; exact List.contains_iff_mem.mpr hplace
    | some j =>
      rw [hslot] at hplace
      rw [State.hasPlace_some, State.asked?, Option.map_map] at hplace
      exact beq_iff_eq.mpr hplace
  · by_contra hl
    exact hw (h.served.standalone (by simpa using hl)).1
  · exact (freeSlot?_eq_none_iff s).mpr (h.served.full hw)
  · have hnone := (h.served.standalone hl).2 j
    exact Option.map_eq_none_iff.mp hnone

end Sys2Proof.Machine
end

section
/-! SUPPORT. What the operations of the check unit do to items, slots and waiting list (06, 07), and that they keep the law
of the questions. -/

namespace Sys2Proof.Machine

/-! ### Counting items without verdict -/

theorem countP_modify_of_same {α : Type} {p : α → Bool} {f : α → α} (hf : ∀ a, p (f a) = p a) (l : List α) (i : Nat) :
    (l.modify i f).countP p = l.countP p := by
  induction l generalizing i with
  | nil => rw [List.modify_nil]
  | cons a l ih => cases i <;> simp [List.modify_cons, List.countP_cons, hf, ih]

/-- One element of which `p` no longer holds lowers the count by one. -/
theorem countP_modify_of_lost {α : Type} {p : α → Bool} {f : α → α} {l : List α} {i : Nat} {a : α} (h : l[i]? = some a)
    (ha : p a = true) (hfa : p (f a) = false) : (l.modify i f).countP p = l.countP p - 1 := by
  induction l generalizing i with
  | nil => cases h
  | cons x l ih =>
    cases i with
    | zero =>
      cases h
      simp [List.modify_cons, ha, hfa]
    | succ i =>
      have hl : l[i]? = some a := h
      have hpos : 0 < l.countP p := List.countP_pos_iff.mpr ⟨a, List.mem_of_getElem? hl, ha⟩
      simp only [List.modify_succ_cons, List.countP_cons, ih hl]
      omega

/-! ### Item records in their table -/

theorem State.Table.modItem {s : State} (hs : s.Table) (r : ItemRef) {f : Item → Item}
    (hf : ∀ it, (f it).ruling = it.ruling) : (s.modItem r f).Table := by
  rw [modItem_eq_modPassage]
  refine hs.modPassage (fun _ => rfl) fun p hp hn ⟨hidle, hcount⟩ => ⟨fun h => ?_, fun u hu => ?_⟩
  · obtain ⟨hitems, hnone⟩ := hidle h
    have hitems : p.items = [] := hitems
    exact ⟨by simp [Passage.view, Passage.modItem, hitems], hnone⟩
  · refine (hcount u hu).trans (countP_modify_of_same (fun it => ?_) _ _).symm
    rw [hf]

/-! ### Verdicts (R117) -/

/-- A record with one item counted off those without verdict. -/
def Passage.countOff (p : Passage) : Passage :=
  { p with judging := p.judging.map fun j => { j with undecided := j.undecided - 1 } }

/-- A record with the verdict of one of its items written, and counted off. -/
def Passage.decide (p : Passage) (i : Nat) (r : Ruling) : Passage :=
  (p.modItem i fun it => { it with ruling := some r }).countOff

@[simp] theorem Passage.decide_number (p : Passage) (i : Nat) (r : Ruling) : (p.decide i r).number = p.number := rfl

theorem modPassage_modPassage (s : State) (n : Nat) {f : Passage → Passage} (hf : ∀ p, (f p).number = p.number)
    (g : Passage → Passage) : (s.modPassage n f).modPassage n g = s.modPassage n fun p => g (f p) := by
  unfold State.modPassage
  simp only [List.map_map]
  congr 1
  refine List.map_congr_left fun p _ => ?_
  simp only [Function.comp_apply]
  by_cases h : p.number = n <;> simp [h, hf]

/-- The two updates by which a verdict is written, as one. -/
theorem modPassage_decide (s : State) (r : ItemRef) (z : Ruling) :
    (s.modPassage r.passage fun p => p.decide r.position z) =
      (s.modItem r fun i => { i with ruling := some z }).modPassage r.passage Passage.countOff :=
  (modPassage_modPassage s r.passage (fun p => p.modItem_number r.position fun i => { i with ruling := some z })
    Passage.countOff).symm

/-- A verdict for an item without one is written and counted off; an ALARM has its effects besides (R117). -/
theorem giveVerdict_of_unruled {s : State} {r : ItemRef} {it : Item} (hit : s.item? r = some it) (hr : it.ruling = none)
    (v : Verdict) (reason : Reason) :
    s.giveVerdict r v reason =
      let t := s.modPassage r.passage fun p => p.decide r.position ⟨v, reason⟩
      if v = .alarm then t.passageAlarm r.passage reason (some it.item) else t := by
  rw [modPassage_decide]
  unfold State.giveVerdict
  rw [hit]
  simp only [hr, Option.isSome_none, Bool.false_eq_true, if_false]
  rfl

theorem giveVerdict_of_ruled {s : State} {r : ItemRef} {it : Item} (hit : s.item? r = some it) (hr : it.ruling ≠ none)
    (v : Verdict) (reason : Reason) : s.giveVerdict r v reason = s := by
  unfold State.giveVerdict
  rw [hit]
  dsimp only
  rw [if_pos (Option.isSome_iff_ne_none.mpr hr)]

theorem giveVerdict_of_no_item {s : State} {r : ItemRef} (h : s.item? r = none) (v : Verdict) (reason : Reason) :
    s.giveVerdict r v reason = s := by
  unfold State.giveVerdict
  rw [h]

section Verdict
variable {s : State} {r : ItemRef} {it : Item} (v : Verdict) (reason : Reason)

theorem asking_giveVerdict (hit : s.item? r = some it) (hr : it.ruling = none) :
    (s.giveVerdict r v reason).asking = (s.modPassage r.passage fun p => p.decide r.position ⟨v, reason⟩).asking := by
  rw [giveVerdict_of_unruled hit hr]
  dsimp only
  split
  · exact asking_passageAlarm ..
  · rfl

theorem item?_giveVerdict (hit : s.item? r = some it) (hr : it.ruling = none) (x : ItemRef) :
    (s.giveVerdict r v reason).item? x =
      if x = r then some { it with ruling := some ⟨v, reason⟩ } else s.item? x := by
  rw [item?_of_asking (asking_giveVerdict v reason hit hr), modPassage_decide]
  refine (item?_modPassage_of_items _ _ (f := Passage.countOff) (fun _ => rfl) (fun _ => rfl) x).trans ?_
  rw [item?_modItem, hit, Option.map_some]

theorem table_giveVerdict_of_unruled (hs : s.Table) (hit : s.item? r = some it) (hr : it.ruling = none) :
    (s.giveVerdict r v reason).Table := by
  refine State.Table.of_asking ?_ (asking_giveVerdict v reason hit hr)
  refine hs.modPassage (fun _ => rfl) fun p hp hn ⟨hidle, hcount⟩ => ?_
  obtain ⟨q, hq, hphase, hitem⟩ := hs.judging_of_item hit
  obtain rfl : p = q := Option.some.inj ((passage?_of_mem hs.distinct hp).symm.trans (hn ▸ hq))
  refine ⟨fun h => absurd hphase h, fun u hu => ?_⟩
  obtain ⟨j, hj, rfl⟩ := Option.map_eq_some_iff.mp hu
  obtain ⟨g, hg, rfl⟩ := Option.map_eq_some_iff.mp hj
  have hcount' : g.undecided = p.items.countP fun it => it.ruling.isNone :=
    hcount g.undecided (congrArg (Option.map Judging.undecided) (show p.judging = some g from hg))
  have hlost := countP_modify_of_lost (p := fun it : Item => it.ruling.isNone)
    (f := fun it => { it with ruling := some ⟨v, reason⟩ }) hitem (by simp [hr]) rfl
  exact (congrArg (· - 1) hcount').trans hlost.symm

end Verdict

/-- Slots, waiting list and link as they were: what a change of the passage table leaves. -/
structure SamePlaces (s t : State) : Prop where
  slots : ∀ j, t.asked? j = s.asked? j
  waiting : t.waiting = s.waiting
  linked : t.linked = s.linked

theorem SamePlaces.of_asking {s t : State} (h : t.asking = s.asking) : SamePlaces s t :=
  ⟨asked?_congr h, waiting_congr h, linked_congr h⟩

theorem SamePlaces.trans {s t u : State} (h : SamePlaces s t) (k : SamePlaces t u) : SamePlaces s u :=
  ⟨fun j => (k.slots j).trans (h.slots j), k.waiting.trans h.waiting, k.linked.trans h.linked⟩

theorem samePlaces_modPassage (s : State) (n : Nat) (f : Passage → Passage) : SamePlaces s (s.modPassage n f) :=
  ⟨fun _ => rfl, rfl, rfl⟩

theorem State.Served.of_same {s t : State} (hs : s.Served) (h : SamePlaces s t) : t.Served where
  full hw j := h.slots j ▸ hs.full (h.waiting ▸ hw) j
  standalone hl :=
    have hs := hs.standalone (h.linked ▸ hl)
    ⟨h.waiting ▸ hs.1, fun j => h.slots j ▸ hs.2 j⟩

theorem samePlaces_giveVerdict (s : State) (r : ItemRef) (v : Verdict) (reason : Reason) :
    SamePlaces s (s.giveVerdict r v reason) := by
  cases hit : s.item? r with
  | none => rw [giveVerdict_of_no_item hit]; exact .of_asking rfl
  | some it =>
    by_cases hr : it.ruling = none
    · exact (samePlaces_modPassage s _ _).trans (.of_asking (asking_giveVerdict v reason hit hr))
    · rw [giveVerdict_of_ruled hit hr]; exact .of_asking rfl

theorem State.Table.giveVerdict {s : State} (hs : s.Table) (r : ItemRef) (v : Verdict) (reason : Reason) :
    (s.giveVerdict r v reason).Table := by
  cases hit : s.item? r with
  | none => rwa [giveVerdict_of_no_item hit]
  | some it =>
    by_cases hr : it.ruling = none
    · exact table_giveVerdict_of_unruled v reason hs hit hr
    · rwa [giveVerdict_of_ruled hit hr]

/-- A verdict takes its item from limbo (R117). -/
theorem State.Placing.giveVerdict {s : State} {L : ItemRef → Prop} (h : s.Placing L) {r : ItemRef} (hr : L r)
    (v : Verdict) (reason : Reason) : (s.giveVerdict r v reason).Placing fun x => L x ∧ x ≠ r := by
  have hplaces := samePlaces_giveVerdict s r v reason
  cases hit : s.item? r with
  | none =>
    rw [giveVerdict_of_no_item hit]
    exact h.rule hr (fun _ => rfl) rfl (fun _ _ => rfl) fun it hit' => by simp [hit] at hit'
  | some it =>
    have hitems := item?_giveVerdict v reason hit ((h.apart r hr).2 it hit).1
    refine h.rule hr hplaces.slots hplaces.waiting (fun x hx => (hitems x).trans (if_neg hx)) fun it' hit' => ?_
    rw [hitems, if_pos rfl] at hit'
    cases hit'
    exact nofun

theorem giveFallback_eq (s : State) (r : ItemRef) (reason : Reason) :
    s.giveFallback r reason = s.giveVerdict r (s.fallbackOf r) reason := by
  unfold State.giveFallback State.fallbackOf
  cases hit : s.item? r with
  | none => exact (giveVerdict_of_no_item hit _ _).symm
  | some it => rfl

/-! ### Slots (R124, R126) -/

theorem mem_allSlots (j : SlotNo) : j ∈ allSlots := by fin_cases j <;> decide

theorem asked?_setSlot (s : State) (j : SlotNo) (q : Option Question) (k : SlotNo) :
    (s.setSlot j q).asked? k = if k = j then q.map Question.about else s.asked? k := by
  unfold State.asked?
  rw [State.setSlot_slots, Fin.getElem_fin, Vector.getElem_set]
  by_cases h : k = j
  · simp [h]
  · have hval : j.val ≠ k.val := fun heq => h (Fin.ext heq.symm)
    rw [if_neg hval, if_neg h]
    rfl

theorem freeSlot_of_flight {s : State} {j : SlotNo} {q : Question} (h : s.slots[j] = some q) :
    s.freeSlot j = (s.setSlot j none).modItem q.ref fun i => { i with slot := none } := by
  unfold State.freeSlot
  rw [h]

/-- A slot in flight that is freed, and what that changes (R124). -/
theorem freeSlot_spec {s : State} {j : SlotNo} {r : ItemRef} {i : ItemNo} (h : s.asked? j = some (r, i)) :
    (∀ k, (s.freeSlot j).asked? k = if k = j then none else s.asked? k) ∧
    (s.freeSlot j).waiting = s.waiting ∧ (s.freeSlot j).linked = s.linked ∧
    ∀ x, (s.freeSlot j).item? x = if x = r then (s.item? r).map fun it => { it with slot := none } else s.item? x := by
  obtain ⟨q, hq, habout⟩ := Option.map_eq_some_iff.mp h
  obtain ⟨rfl, rfl⟩ := Prod.mk.inj habout
  rw [freeSlot_of_flight hq]
  exact ⟨fun k => asked?_setSlot s j none k, rfl, rfl, fun x => item?_modItem (s.setSlot j none) q.ref _ x⟩

theorem State.Table.freeSlot {s : State} (hs : s.Table) (j : SlotNo) : (s.freeSlot j).Table := by
  unfold State.freeSlot
  split
  · exact State.Table.modItem (s := s.setSlot j none) ⟨hs.distinct, hs.tallied⟩ _ fun _ => rfl
  · exact hs

theorem State.Placing.freeSlot {s : State} {L : ItemRef → Prop} (h : s.Placing L) {j : SlotNo} {r : ItemRef} {i : ItemNo}
    (hj : s.asked? j = some (r, i)) : (s.freeSlot j).Placing fun x => L x ∨ x = r := by
  obtain ⟨hslots, hwaiting, -, hitems⟩ := freeSlot_spec hj
  exact h.free hj hslots hwaiting (fun x hx => (hitems x).trans (if_neg hx)) ((hitems r).trans (if_pos rfl))

/-- The question that an item's taking of a slot puts into it (R126). -/
def State.questionFor (s : State) (r : ItemRef) (j : SlotNo) (p : Passage) (it : Item) : Question :=
  ⟨false, r, it.item, s.nextOrder, after s.gateTime s.params.queryTimeout, queryBody j it p.lane p.number⟩

/-- A question put into a slot, before the transmitter looks for one to send. -/
def State.putQuestion (s : State) (j : SlotNo) (q : Question) : State :=
  ({ s.setSlot j (some q) with nextOrder := s.nextOrder + 1 } : State).modItem q.ref fun i => { i with slot := some j }

theorem takeSlot_of_item {s : State} {r : ItemRef} {p : Passage} {it : Item} (hp : s.passage? r.passage = some p)
    (hit : s.item? r = some it) (j : SlotNo) :
    s.takeSlot r j = (s.putQuestion j (s.questionFor r j p it)).arbitrateTx := by
  unfold State.takeSlot
  rw [hp, hit]
  rfl

theorem takeSlot_of_no_item {s : State} {r : ItemRef} (hit : s.item? r = none) (j : SlotNo) : s.takeSlot r j = s := by
  unfold State.takeSlot
  rw [hit]
  split
  next heq => cases heq
  next => rfl

theorem item?_putQuestion (s : State) (j : SlotNo) (q : Question) (x : ItemRef) :
    (s.putQuestion j q).item? x =
      if x = q.ref then (s.item? q.ref).map fun i => { i with slot := some j } else s.item? x :=
  item?_modItem ({ s.setSlot j (some q) with nextOrder := s.nextOrder + 1 } : State) q.ref _ x

theorem asked?_putQuestion (s : State) (j : SlotNo) (q : Question) (k : SlotNo) :
    (s.putQuestion j q).asked? k = if k = j then some q.about else s.asked? k :=
  asked?_setSlot s j (some q) k

/-- An item that takes a slot, and what that changes (R126). -/
theorem takeSlot_spec {s : State} {r : ItemRef} {it : Item} (h : s.item? r = some it) (j : SlotNo) :
    (∀ k, (s.takeSlot r j).asked? k = if k = j then some (r, it.item) else s.asked? k) ∧
    (s.takeSlot r j).waiting = s.waiting ∧ (s.takeSlot r j).linked = s.linked ∧
    ∀ x, (s.takeSlot r j).item? x = if x = r then some { it with slot := some j } else s.item? x := by
  obtain ⟨p, hp, -⟩ := passage?_of_item? h
  rw [takeSlot_of_item hp h]
  have hasking := asking_arbitrateTx (s.putQuestion j (s.questionFor r j p it))
  refine ⟨fun k => ?_, (waiting_congr hasking).trans rfl, (linked_congr hasking).trans rfl, fun x => ?_⟩
  · rw [asked?_congr hasking, asked?_putQuestion]
    rfl
  · rw [item?_of_asking hasking, item?_putQuestion]
    change (if x = r then (s.item? r).map _ else s.item? x) = _
    rw [h, Option.map_some]

theorem State.Table.takeSlot {s : State} (hs : s.Table) (r : ItemRef) (j : SlotNo) : (s.takeSlot r j).Table := by
  cases hit : s.item? r with
  | none => rwa [takeSlot_of_no_item hit]
  | some it =>
    obtain ⟨p, hp, -⟩ := passage?_of_item? hit
    rw [takeSlot_of_item hp hit]
    refine State.Table.of_asking ?_ (asking_arbitrateTx _)
    have hput : ({ s.setSlot j (some (s.questionFor r j p it)) with nextOrder := s.nextOrder + 1 } : State).Table :=
      ⟨hs.distinct, hs.tallied⟩
    exact hput.modItem r (f := fun i => { i with slot := some j }) fun _ => rfl

theorem State.Placing.takeSlot {s : State} {L : ItemRef → Prop} (h : s.Placing L) {r : ItemRef} (hr : L r) {it : Item}
    (hit : s.item? r = some it) {j : SlotNo} (hj : s.asked? j = none) :
    (s.takeSlot r j).Placing fun x => L x ∧ x ≠ r := by
  obtain ⟨hslots, hwaiting, -, hitems⟩ := takeSlot_spec hit j
  exact h.take hr hit hj hslots hwaiting (fun x hx => (hitems x).trans (if_neg hx)) ((hitems r).trans (if_pos rfl))

theorem asked?_of_freeSlot? {s : State} {j : SlotNo} (h : s.freeSlot? = some j) : s.asked? j = none := by
  have hj := List.find?_some h
  simpa [State.asked?] using hj

/-! ### Questions asked (R126) -/

/-- An item handed to the query mechanism while LINKED finds a place, and the waiting list still waits for full slots only. -/
theorem askAbout_keeps {s : State} {L : ItemRef → Prop} (ht : s.Table) (h : s.Placing L) (hs : s.Served)
    (hlinked : s.linked = true) {r : ItemRef} (hr : L r) {it : Item} (hit : s.item? r = some it) :
    (s.askAbout r).Table ∧ ((s.askAbout r).Placing fun x => L x ∧ x ≠ r) ∧ (s.askAbout r).Served := by
  unfold State.askAbout
  split
  next j hj =>
    have hfree := asked?_of_freeSlot? hj
    obtain ⟨-, hwaiting, hlink, -⟩ := takeSlot_spec hit j
    refine ⟨ht.takeSlot r j, h.takeSlot hr hit hfree, fun hw => ?_, fun hl => ?_⟩
    · exact absurd hfree (hs.full (hwaiting ▸ hw) j)
    · rw [hlink, hlinked] at hl
      cases hl
  next hnone =>
    refine ⟨⟨ht.distinct, ht.tallied⟩, h.wait hr hit (fun _ => rfl) rfl fun _ => rfl, fun _ => ?_, fun hl => ?_⟩
    · exact (freeSlot?_eq_none_iff s).mp hnone
    · have hl : s.linked = false := hl
      rw [hlinked] at hl
      cases hl

/-! ### Completion (R121) -/

/-- A passage complete has no item left without verdict, so its record leaves no question behind (R22, R121). -/
theorem completeIfDone_keeps {s : State} {L : ItemRef → Prop} (ht : s.Table) (h : s.Placing L) (n : Nat) :
    (s.completeIfDone n).Table ∧ (s.completeIfDone n).Placing L ∧ SamePlaces s (s.completeIfDone n) := by
  unfold State.completeIfDone
  split
  · exact ⟨ht, h, .of_asking rfl⟩
  next p hp =>
    split
    next hdone =>
      have hq : (s.queueReport (reportBody p)).asking = s.asking := asking_queueReport s _
      obtain ⟨hmem, hnumber⟩ := passage?_mem hp
      obtain ⟨-, hcount⟩ := ht.of_passage hmem
      have hzero : p.items.countP (fun it => it.ruling.isNone) = 0 := (hcount 0 hdone.2).symm
      have hruled : ∀ r it, r.passage = n → s.item? r = some it → it.ruling ≠ none := fun r it hr hit => by
        rw [item?_of_passage (hr ▸ hp)] at hit
        have hnot := List.countP_eq_zero.mp hzero it (List.mem_of_getElem? hit)
        simpa using hnot
      refine ⟨(ht.of_asking hq).freePassage n, (h.of_asking hq).drop (n := n) ?_ (fun _ => rfl) rfl
        (fun r hr => item?_freePassage_of_ne _ hr) (fun r hr => item?_freePassage_same _ hr),
        (SamePlaces.of_asking hq).trans ⟨fun _ => rfl, rfl, rfl⟩⟩
      exact fun r it hr hit => hruled r it hr (item?_of_asking hq r ▸ hit)
    next => exact ⟨ht, h, .of_asking rfl⟩

/-! ### Slots handed on (R132) -/

/-- How many slots are FREE. -/
def State.freeCount (s : State) : Nat := allSlots.countP fun j => (s.asked? j).isNone

theorem freeCount_eq_zero {s : State} (h : s.freeCount = 0) (j : SlotNo) : s.asked? j ≠ none := by
  have hnot := List.countP_eq_zero.mp h j (mem_allSlots j)
  simpa using hnot

theorem freeCount_takeSlot {s : State} {r : ItemRef} {it : Item} (hit : s.item? r = some it) {j : SlotNo}
    (hj : s.asked? j = none) : (s.takeSlot r j).freeCount + 1 = s.freeCount := by
  obtain ⟨hslots, -⟩ := takeSlot_spec hit j
  simp only [State.freeCount, hslots, allSlots]
  fin_cases j <;> simp_all [List.countP_cons] <;> omega

theorem freeCount_le_four (s : State) : s.freeCount ≤ 4 := List.countP_le_length

/-- What handing on leaves of every item record: its verdict. -/
theorem ruling_handOn (fuel : Nat) (s : State) (x : ItemRef) :
    ((State.handOn fuel s).item? x).map Item.ruling = (s.item? x).map Item.ruling := by
  induction fuel generalizing s with
  | zero => rfl
  | succ fuel ih =>
    unfold State.handOn
    split
    next r rest j hw hj =>
      split
      · rw [ih]
        cases hit : ({ s with waiting := rest } : State).item? r with
        | none => rw [takeSlot_of_no_item hit]; rfl
        | some it =>
          obtain ⟨-, -, -, hitems⟩ := takeSlot_spec hit j
          rw [hitems]
          split
          next hx => subst hx; exact (congrArg (Option.map Item.ruling) hit).symm
          next => rfl
      · rfl
    · rfl

/-- Slots handed on until nothing waits or none is FREE, the items keep their places (R132). -/
theorem handOn_keeps (fuel : Nat) {s : State} (ht : s.Table) (h : s.Placing nowhere)
    (hs : s.linked = false → s.waiting = [] ∧ ∀ j, s.asked? j = none) (hfuel : s.freeCount ≤ fuel) :
    (State.handOn fuel s).AskLaw := by
  induction fuel generalizing s with
  | zero => exact ⟨ht, h, fun _ => freeCount_eq_zero (Nat.le_zero.mp hfuel), hs⟩
  | succ fuel ih =>
    unfold State.handOn
    split
    next r rest j hw hj =>
      split
      next hlinked =>
        have hfree := asked?_of_freeSlot? hj
        obtain ⟨it, hit, -⟩ := h.waits r (hw ▸ List.mem_cons_self ..)
        have hit' : ({ s with waiting := rest } : State).item? r = some it := hit
        have hrest := List.nodup_cons.mp (hw ▸ h.once)
        have hlimbo : ({ s with waiting := rest } : State).Placing fun x => x = r :=
          (h.unwait (t := { s with waiting := rest }) (fun _ => rfl) (hw ▸ List.sublist_cons_self r rest)
            fun _ => rfl).iff fun x => by
              simp only [nowhere, false_or, hw, List.mem_cons]
              exact ⟨fun ⟨hin, hout⟩ => hin.resolve_right hout, fun hx => ⟨.inl hx, hx ▸ hrest.1⟩⟩
        obtain ⟨-, hwaiting, hlink, -⟩ := takeSlot_spec hit' j
        refine ih (State.Table.takeSlot (s := { s with waiting := rest }) ⟨ht.distinct, ht.tallied⟩ r j)
          ((hlimbo.takeSlot rfl hit' hfree).iff fun x => by simp [nowhere]) (fun hl => ?_) ?_
        · rw [hlink] at hl
          exact absurd (hlinked.symm.trans hl) nofun
        · have hcount := freeCount_takeSlot hit' (j := j) hfree
          have hsame : ({ s with waiting := rest } : State).freeCount = s.freeCount := rfl
          omega
      next hlinked =>
        exact absurd (hs (by simpa using hlinked)).1 (by simp [hw])
    next hnot =>
      refine ⟨ht, h, fun hw => (freeSlot?_eq_none_iff s).mp ?_, hs⟩
      obtain ⟨r, rest, hcons⟩ := List.exists_cons_of_ne_nil hw
      cases hj : s.freeSlot? with
      | none => rfl
      | some j => exact absurd hj (hnot r rest j hcons)

theorem handSlotsOn_keeps {s : State} (ht : s.Table) (h : s.Placing nowhere)
    (hs : s.linked = false → s.waiting = [] ∧ ∀ j, s.asked? j = none) : s.handSlotsOn.AskLaw :=
  handOn_keeps 4 ht h hs (freeCount_le_four s)

end Sys2Proof.Machine
end

section
/-! SUPPORT. The events that move items between slots, waiting list and verdicts, and that they keep the law of the questions:
judging, answers and expiries, STANDALONE, forced completion (06, 07). -/

namespace Sys2Proof.Machine

/-! ### One item judged, all items judged (R111 to R115) -/

/-- A query is decided on only while LINKED (R113). -/
theorem linked_of_judgeOutward_none {s : State} {it : Item} {c : ItemClass} (h : s.judgeOutward it c = none) :
    s.linked = true := by
  unfold State.judgeOutward at h
  repeat' split at h
  all_goals simp_all

/-- An item in limbo that is judged has a verdict or a place. -/
theorem judgeItem_keeps {s : State} {L : ItemRef → Prop} (ht : s.Table) (h : s.Placing L) (hs : s.Served)
    (dir : Direction) {r : ItemRef} (hr : L r) :
    (s.judgeItem dir r).Table ∧ ((s.judgeItem dir r).Placing fun x => L x ∧ x ≠ r) ∧ (s.judgeItem dir r).Served := by
  have hverdict (v : Verdict) (z : Reason) : (s.giveVerdict r v z).Table ∧
      ((s.giveVerdict r v z).Placing fun x => L x ∧ x ≠ r) ∧ (s.giveVerdict r v z).Served :=
    ⟨ht.giveVerdict r v z, h.giveVerdict hr v z, hs.of_same (samePlaces_giveVerdict s r v z)⟩
  unfold State.judgeItem
  split
  next hnone =>
    exact ⟨ht, h.rule hr (fun _ => rfl) rfl (fun _ _ => rfl) fun it hit => by simp [hnone] at hit, hs⟩
  next it hit =>
    split
    · split
      · exact hverdict _ _
      next hask => exact askAbout_keeps ht h hs (linked_of_judgeOutward_none hask) hr hit
    · exact hverdict _ _

theorem judgeItems_keeps (n : Nat) (dir : Direction) {l : List Nat} (hl : l.Nodup) {s : State} {L : ItemRef → Prop}
    (ht : s.Table) (h : s.Placing L) (hs : s.Served) (hL : ∀ i ∈ l, L ⟨n, i⟩) :
    (judgeItems n dir l s).Table ∧ ((judgeItems n dir l s).Placing fun x => L x ∧ ∀ i ∈ l, x ≠ ⟨n, i⟩) ∧
      (judgeItems n dir l s).Served := by
  induction l generalizing s L with
  | nil => exact ⟨ht, h.iff fun x => by simp, hs⟩
  | cons i l ih =>
    obtain ⟨hi, hl⟩ := List.nodup_cons.mp hl
    obtain ⟨ht', h', hs'⟩ := judgeItem_keeps ht h hs dir (hL i (List.mem_cons_self ..))
    obtain ⟨ht'', h'', hs''⟩ := ih hl ht' h' hs' fun k hk =>
      ⟨hL k (List.mem_cons_of_mem _ hk), fun heq => hi (by cases heq; exact hk)⟩
    exact ⟨ht'', h''.iff fun x => by simp [and_assoc], hs''⟩

/-- The references to the items of a record. -/
def Passage.refs (p : Passage) (x : ItemRef) : Prop := x.passage = p.number ∧ x.position < p.items.length

/-- A record set up for judging: nothing decided, each item with the class entry fields that govern it (R111). -/
def State.setUp (s : State) (q : Passage) : Passage :=
  { q with judging := some ⟨false, q.items.length⟩,
           flags := { q.flags with countOnly := q.flags.countOnly || s.params.countOnly[q.lane] },
           items := q.items.map fun it => { it with classFields := some (s.classOf it) } }

/-- The judging event up to its last step: the record set up, OVERFLOW, the items one by one (R111). -/
theorem judge_of_passage {s : State} {n : Nat} {p : Passage} (hp : s.passage? n = some p) :
    s.judge n =
      let t := s.modPassage n s.setUp
      let u := if (p.direction.getD .unknown).outward && p.flags.overflow then t.passageAlarm n .overflow none else t
      judgeItems n (p.direction.getD .unknown) (List.range p.items.length) u := by
  unfold State.judge
  rw [hp]
  rfl

/-- The judging event leaves no item of its passage in limbo (R111, R115). -/
theorem judge_keeps {s : State} {p : Passage} (ht : s.Table) (hp : s.passage? p.number = some p)
    (hphase : p.phase = .judging) (h : s.Placing p.refs) (hs : s.Served) : (s.judge p.number).AskLaw := by
  have hnumber : ∀ q, (s.setUp q).number = q.number := fun _ => rfl
  have hsame : SamePlaces s (s.modPassage p.number s.setUp) := samePlaces_modPassage ..
  have hfresh : ∀ it ∈ p.items, it.ruling = none ∧ it.slot = none := fun it hit => by
    obtain ⟨i, hi, rfl⟩ := List.mem_iff_getElem.mp hit
    refine (h.apart ⟨p.number, i⟩ ⟨rfl, hi⟩).2 _ ?_
    exact (item?_of_passage (r := ⟨p.number, i⟩) hp).trans (List.getElem?_eq_getElem hi)
  have hitem : ∀ x, x.passage = p.number → (s.modPassage p.number s.setUp).item? x =
      p.items[x.position]?.map fun it => { it with classFields := some (s.classOf it) } := fun x hx => by
    rw [item?_modPassage s _ hnumber, if_pos hx, hp, Option.bind_some]
    exact List.getElem?_map ..
  have htable : (s.modPassage p.number s.setUp).Table := by
    refine ht.modPassage hnumber fun q hq hn _ => ?_
    obtain rfl : q = p := Option.some.inj ((passage?_of_mem ht.distinct hq).symm.trans (hn ▸ hp))
    refine ⟨fun hnot => absurd hphase hnot, fun u hu => ?_⟩
    obtain rfl : q.items.length = u := Option.some.inj hu
    change q.items.length = (q.items.map fun it => { it with classFields := some (s.classOf it) }).countP _
    rw [List.countP_map]
    exact (List.countP_eq_length.mpr fun it hit => by simp [(hfresh it hit).1]).symm
  have hplacing : (s.modPassage p.number s.setUp).Placing p.refs := by
    refine h.recast hsame.slots hsame.waiting (fun x hx => ?_) fun x it hx hit => ?_
    · by_cases hn : x.passage = p.number
      · have hlen : p.items.length ≤ x.position := not_lt.mp fun hlt => hx ⟨hn, hlt⟩
        rw [hitem x hn, item?_of_passage (hn ▸ hp), List.getElem?_eq_none hlen]
        rfl
      · exact item?_modPassage_of_ne s hn hnumber
    · rw [hitem x hx.1] at hit
      obtain ⟨it', hit', rfl⟩ := Option.map_eq_some_iff.mp hit
      exact hfresh it' (List.mem_of_getElem? hit')
  have hoverflow {u : State} (hu : u.asking = (s.modPassage p.number s.setUp).asking) :
      (judgeItems p.number (p.direction.getD .unknown) (List.range p.items.length) u).AskLaw := by
    obtain ⟨ht', h', hs'⟩ := judgeItems_keeps p.number (p.direction.getD .unknown) List.nodup_range
      (htable.of_asking hu) (hplacing.of_asking hu) ((hs.of_same hsame).of_asking hu)
      fun i hi => ⟨rfl, List.mem_range.mp hi⟩
    refine ⟨ht', h'.iff fun x => ⟨fun ⟨⟨hn, hlen⟩, hall⟩ => ?_, False.elim⟩, hs'⟩
    exact hall x.position (List.mem_range.mpr hlen) (by cases x; cases hn; rfl)
  rw [judge_of_passage hp]
  dsimp only
  split
  · exact hoverflow (asking_passageAlarm ..)
  · exact hoverflow rfl

/-! ### Attribution (R86 to R97) -/

/-- Claims change the sighting table alone (R79). -/
theorem claimAll_sightings (n : Nat) (dir : Direction) (l : List Winner) (s : State) (items : List Item) :
    (claimAll n dir l s items).1 = { s with sightings := (claimAll n dir l s items).1.sightings } := by
  induction l generalizing s items with
  | nil => rfl
  | cons w l ih =>
    unfold claimAll
    split
    · rw [ih]
      unfold State.claim
      split <;> rfl
    · exact ih s items

/-- The item records of the claims granted are those of winners (R96). -/
theorem claimAll_items (n : Nat) (dir : Direction) (l : List Winner) (s : State) (items : List Item) :
    ∀ it ∈ (claimAll n dir l s items).2, it ∈ items ∨ ∃ w, it = itemOf w := by
  induction l generalizing s items with
  | nil => exact fun it hit => .inl hit
  | cons w l ih =>
    unfold claimAll
    split
    · intro it hit
      rcases ih _ _ it hit with hin | hw
      · rcases List.mem_append.mp hin with hold | hnew
        · exact .inl hold
        · exact .inr ⟨w, List.mem_singleton.mp hnew⟩
      · exact .inr hw
    · exact ih s items

/-- A record as attribution leaves it, with its items and whether there were too many (R94, R97). -/
def Passage.listed (q : Passage) (items : List Item) (overflow : Bool) : Passage :=
  { q with phase := .judging, settle := none, items := items,
           flags := { q.flags with overflow := q.flags.overflow || overflow } }

/-- Attribution of a passage: it becomes JUDGING with new item records, none of which has a verdict or a place (R86, R96);
but for the table only sightings and a counter change. -/
theorem attribute_spec {s : State} {p : Passage} (hp : s.passage? p.number = some p) :
    ∃ items overflow sightings device, (∀ it ∈ items, it.ruling = none ∧ it.slot = none) ∧
      s.attribute p.number = ({ s with sightings := sightings, device := device } : State).modPassage p.number
        fun q => q.listed items overflow := by
  generalize hu : (s.modDevice fun d =>
    { d with unattributed := satAdd Config.max16 d.unattributed (s.unattributedCount p (p.direction.getD .unknown)) }) = u
  have hstate := claimAll_sightings p.number (p.direction.getD .unknown)
    ((s.winners p (p.direction.getD .unknown)).take Config.maxItems) u []
  have hitems := claimAll_items p.number (p.direction.getD .unknown)
    ((s.winners p (p.direction.getD .unknown)).take Config.maxItems) u []
  unfold State.attribute
  rw [hp]
  dsimp only
  rw [hu]
  generalize claimAll p.number _ _ u [] = run at hstate hitems
  refine ⟨run.2, decide (Config.maxItems < (s.winners p (p.direction.getD .unknown)).length), run.1.sightings, u.device,
    fun it hit => ?_, (congrArg (fun t => State.modPassage t _ _) hstate).trans ?_⟩
  · rcases hitems it hit with hnil | ⟨w, rfl⟩
    · cases hnil
    · exact ⟨rfl, rfl⟩
  · subst hu
    rfl

theorem attribute_of_no_passage {s : State} {n : Nat} (h : s.passage? n = none) : s.attribute n = s := by
  unfold State.attribute
  rw [h]

/-- Attribution and judging of a passage that is not yet in JUDGING keep the law (R21, R97, R111). -/
theorem judged_keeps {s : State} (hs : s.AskLaw) {p : Passage} (hp : s.passage? p.number = some p)
    (hphase : p.phase ≠ .judging) : ((s.attribute p.number).judge p.number).AskLaw := by
  obtain ⟨hmem, -⟩ := passage?_mem hp
  obtain ⟨items, overflow, sightings, device, hfresh, heq⟩ := attribute_spec hp
  obtain ⟨hidle, -⟩ := hs.table.of_passage hmem
  obtain ⟨-, hnone⟩ := hidle hphase
  rw [heq]
  generalize hu : ({ s with sightings := sightings, device := device } : State) = u
  have hasking : u.asking = s.asking := by subst hu; rfl
  have hpu : u.passage? p.number = some p := by subst hu; exact hp
  have hnumber : ∀ q : Passage, (q.listed items overflow).number = q.number := fun _ => rfl
  have hlaw := hs.of_asking hasking
  have hfound : (u.modPassage p.number fun q => q.listed items overflow).passage? (p.listed items overflow).number =
      some (p.listed items overflow) := passage?_modPassage_same hpu hnumber
  refine judge_keeps (p := p.listed items overflow) (hlaw.table.modPassage hnumber fun q hq hn _ => ?_) hfound rfl ?_
    (hlaw.served.of_same (samePlaces_modPassage ..))
  · obtain rfl : q = p :=
      Option.some.inj ((passage?_of_mem hlaw.table.distinct hq).symm.trans (hn ▸ hpu))
    refine ⟨fun hnot => absurd rfl hnot, fun c hc => ?_⟩
    have hc : q.judging.map Judging.undecided = some c := hc
    have hq : q.judging.map Judging.undecided = none := hnone
    rw [hq] at hc
    cases hc
  · have hwide : u.Placing (p.listed items overflow).refs := hlaw.placing.widen fun x hx =>
      hlaw.table.no_item (passage?_mem hpu).1 hphase hx.1
    have hitem : ∀ x, x.passage = p.number →
        (u.modPassage p.number fun q => q.listed items overflow).item? x = items[x.position]? := fun x hx => by
      rw [item?_modPassage u _ hnumber, if_pos hx, hpu, Option.bind_some]
      rfl
    refine hwide.recast (fun _ => rfl) rfl (fun x hx => ?_) fun x it hx hit => ?_
    · by_cases hn : x.passage = p.number
      · have hlen : items.length ≤ x.position := not_lt.mp fun hlt => hx ⟨hn, hlt⟩
        rw [hitem x hn, List.getElem?_eq_none hlen, hlaw.table.no_item (passage?_mem hpu).1 hphase hn]
      · exact item?_modPassage_of_ne u hn hnumber
    · rw [hitem x hx.1] at hit
      exact hfresh it (List.mem_of_getElem? hit)

theorem State.AskLaw.completeIfDone {s : State} (hs : s.AskLaw) (n : Nat) : (s.completeIfDone n).AskLaw := by
  obtain ⟨ht, h, hsame⟩ := completeIfDone_keeps hs.table hs.placing n
  exact ⟨ht, h, hs.served.of_same hsame⟩

theorem settleNow_keeps {s : State} (hs : s.AskLaw) {p : Passage} (hp : s.passage? p.number = some p)
    (hphase : p.phase ≠ .judging) : (s.settleNow p.number).AskLaw :=
  (judged_keeps hs hp hphase).completeIfDone _

/-! ### A question that ends (R128, R131, R133) -/

/-- A question ended by a verdict, its slot FREE, its passage complete if it was the last (R121, R124). -/
theorem endQuestion_keeps {s : State} (ht : s.Table) (h : s.Placing nowhere) {j : SlotNo} {r : ItemRef} {i : ItemNo}
    (hj : s.asked? j = some (r, i)) (v : Verdict) (reason : Reason) :
    let t := (((s.freeSlot j).giveVerdict r v reason).completeIfDone r.passage)
    t.Table ∧ t.Placing nowhere ∧ (∀ k, t.asked? k = if k = j then none else s.asked? k) ∧
      t.waiting = s.waiting ∧ t.linked = s.linked := by
  have hlimbo := h.freeSlot hj
  obtain ⟨hslots, hwaiting, hlinked, -⟩ := freeSlot_spec hj
  have hruled := (hlimbo.giveVerdict (.inr rfl) v reason).iff (L' := nowhere) fun x => by simp [nowhere]
  have hsame := samePlaces_giveVerdict (s.freeSlot j) r v reason
  obtain ⟨ht', h', hsame'⟩ := completeIfDone_keeps ((ht.freeSlot j).giveVerdict r v reason) hruled r.passage
  have hall := hsame.trans hsame'
  exact ⟨ht', h', fun k => (hall.slots k).trans (hslots k), hall.waiting.trans hwaiting, hall.linked.trans hlinked⟩

theorem resolveSlot_keeps {s : State} (hs : s.AskLaw) {j : SlotNo} {q : Question} (hj : s.slots[j] = some q)
    (v : Verdict) (reason : Reason) : (s.resolveSlot j q v reason).AskLaw := by
  have hasked : s.asked? j = some (q.ref, q.item) := congrArg (Option.map Question.about) hj
  obtain ⟨ht, h, hslots, hwaiting, hlinked⟩ := endQuestion_keeps hs.table hs.placing hasked v reason
  refine handSlotsOn_keeps ht h fun hl => ?_
  obtain ⟨hempty, hfree⟩ := hs.served.standalone (hlinked ▸ hl)
  refine ⟨hwaiting.trans hempty, fun k => ?_⟩
  rw [hslots, hfree k, ite_self]

/-! ### STANDALONE (R133) -/

theorem insertByOrder_perm (x : SlotNo × Question) (l : List (SlotNo × Question)) :
    (insertByOrder x l).Perm (x :: l) := by
  induction l with
  | nil => exact .refl _
  | cons y l ih =>
    unfold insertByOrder
    split
    · exact .refl _
    · exact (ih.cons y).trans (.swap x y l)

/-- The slots in flight, by slot number. -/
def State.inFlight (s : State) : List (SlotNo × Question) :=
  allSlots.filterMap fun j => s.slots[j].map fun q => (j, q)

theorem slotsInOrder_perm (s : State) : s.slotsInOrder.Perm s.inFlight := by
  have hfold : ∀ (l acc : List (SlotNo × Question)),
      (l.foldl (fun l x => insertByOrder x l) acc).Perm (acc ++ l) := fun l => by
    induction l with
    | nil => exact fun acc => by simp
    | cons x l ih =>
      intro acc
      refine (ih _).trans (((insertByOrder_perm x acc).append_right l).trans ?_)
      exact List.perm_middle.symm
  exact hfold s.inFlight []

theorem mem_inFlight {s : State} {j : SlotNo} {q : Question} : (j, q) ∈ s.inFlight ↔ s.slots[j] = some q := by
  unfold State.inFlight
  rw [List.mem_filterMap]
  constructor
  · rintro ⟨k, -, hk⟩
    obtain ⟨q', hq', heq⟩ := Option.map_eq_some_iff.mp hk
    cases heq
    exact hq'
  · exact fun h => ⟨j, mem_allSlots j, by rw [h]; rfl⟩

theorem mem_slotsInOrder {s : State} {j : SlotNo} {q : Question} : (j, q) ∈ s.slotsInOrder ↔ s.slots[j] = some q :=
  (slotsInOrder_perm s).mem_iff.trans mem_inFlight

/-- No slot comes twice. -/
theorem slotsInOrder_nodup (s : State) : (s.slotsInOrder.map Prod.fst).Nodup := by
  rw [((slotsInOrder_perm s).map Prod.fst).nodup_iff]
  have hsub : (s.inFlight.map Prod.fst).Sublist allSlots := by
    unfold State.inFlight
    rw [List.map_filterMap]
    have hfun : (fun j => (s.slots[j].map fun q => (j, q)).map Prod.fst) =
        Option.guard fun j : SlotNo => s.slots[j].isSome := by
      funext j
      cases hq : s.slots[j] <;> simp [Option.guard, hq]
    rw [hfun, List.filterMap_eq_filter]
    exact List.filter_sublist
  exact hsub.nodup (by decide)

/-- Questions ended one after another, each with its fallback: their slots are FREE, nothing else moves (R133 step 1). -/
theorem resolveSlots_keeps {l : List (SlotNo × Question)} (hl : (l.map Prod.fst).Nodup) {s : State} (ht : s.Table)
    (h : s.Placing nowhere) (hslots : ∀ x ∈ l, s.asked? x.1 = some x.2.about) :
    (resolveSlots l s).Table ∧ (resolveSlots l s).Placing nowhere ∧
      (∀ k ∈ l.map Prod.fst, (resolveSlots l s).asked? k = none) ∧
      (∀ k ∉ l.map Prod.fst, (resolveSlots l s).asked? k = s.asked? k) ∧ (resolveSlots l s).waiting = s.waiting := by
  induction l generalizing s with
  | nil => exact ⟨ht, h, nofun, fun _ _ => rfl, rfl⟩
  | cons x l ih =>
    obtain ⟨j, q⟩ := x
    obtain ⟨hj, hl⟩ : j ∉ l.map Prod.fst ∧ (l.map Prod.fst).Nodup := List.nodup_cons.mp hl
    rw [resolveSlots, giveFallback_eq]
    generalize (s.freeSlot j).fallbackOf q.ref = v
    obtain ⟨ht', h', hslots', hwaiting', -⟩ :=
      endQuestion_keeps ht h (hslots (j, q) (List.mem_cons_self ..)) v .standalone
    dsimp only at ht' h' hslots' hwaiting'
    obtain ⟨ht'', h'', hfree, hothers, hwaiting''⟩ := ih hl ht' h' fun y hy => by
      have hne : y.1 ≠ j := fun heq => hj (by rw [← heq]; exact List.mem_map_of_mem hy)
      rw [hslots', if_neg hne, hslots y (List.mem_cons_of_mem _ hy)]
    refine ⟨ht'', h'', fun k hk => ?_, fun k hk => ?_, hwaiting''.trans hwaiting'⟩
    · rcases List.mem_cons.mp hk with heq | hk
      · rw [show k = j from heq, hothers j hj, hslots', if_pos rfl]
      · exact hfree k hk
    · obtain ⟨hne, hk⟩ := not_or.mp (mt List.mem_cons.mpr hk)
      rw [hothers k hk, hslots', if_neg hne]

/-- The head of the waiting list ended by a verdict, its passage complete if it was the last (R121, R133). -/
theorem endWaiting_keeps {s : State} (ht : s.Table) (h : s.Placing nowhere) {r : ItemRef} {l : List ItemRef}
    (hw : s.waiting = r :: l) (v : Verdict) (reason : Reason) :
    let t := (({ s with waiting := l } : State).giveVerdict r v reason).completeIfDone r.passage
    t.Table ∧ t.Placing nowhere ∧ (∀ k, t.asked? k = s.asked? k) ∧ t.waiting = l := by
  have hfresh := List.nodup_cons.mp (hw ▸ h.once)
  have hlimbo : ({ s with waiting := l } : State).Placing fun x => x = r :=
    (h.unwait (t := { s with waiting := l }) (fun _ => rfl) (hw ▸ List.sublist_cons_self r l) fun _ => rfl).iff
      fun x => by
        simp only [nowhere, false_or, hw, List.mem_cons]
        exact ⟨fun ⟨hin, hout⟩ => hin.resolve_right hout, fun hx => ⟨.inl hx, hx ▸ hfresh.1⟩⟩
  have ht' : ({ s with waiting := l } : State).Table := ⟨ht.distinct, ht.tallied⟩
  have hsame := samePlaces_giveVerdict { s with waiting := l } r v reason
  have hruled := (hlimbo.giveVerdict rfl v reason).iff (L' := nowhere) fun x => by simp [nowhere]
  obtain ⟨ht'', h'', hsame'⟩ := completeIfDone_keeps (ht'.giveVerdict r v reason) hruled r.passage
  have hall := hsame.trans hsame'
  exact ⟨ht'', h'', fun k => hall.slots k, hall.waiting⟩

/-- Waiting items given their fallbacks from the head: nothing waits any more (R133 step 2). -/
theorem resolveWaiting_keeps {l : List ItemRef} {s : State} (hw : s.waiting = l) (ht : s.Table) (h : s.Placing nowhere) :
    (resolveWaiting l s).Table ∧ (resolveWaiting l s).Placing nowhere ∧
      (∀ k, (resolveWaiting l s).asked? k = s.asked? k) ∧ (resolveWaiting l s).waiting = [] := by
  induction l generalizing s with
  | nil => exact ⟨ht, h, fun _ => rfl, hw⟩
  | cons r l ih =>
    rw [resolveWaiting, giveFallback_eq]
    generalize ({ s with waiting := l } : State).fallbackOf r = v
    obtain ⟨ht', h', hslots, hwaiting⟩ := endWaiting_keeps ht h hw v .standalone
    obtain ⟨ht'', h'', hslots', hwaiting'⟩ := ih hwaiting ht' h'
    exact ⟨ht'', h'', fun k => (hslots' k).trans (hslots k), hwaiting'⟩

/-- Becoming STANDALONE leaves nothing in flight and nothing waiting (R133). -/
theorem resolveStandalone_keeps {s : State} (ht : s.Table) (h : s.Placing nowhere) :
    s.resolveStandalone.AskLaw ∧ s.resolveStandalone.waiting = [] ∧ ∀ k, s.resolveStandalone.asked? k = none := by
  obtain ⟨ht', h', hfree', hothers', -⟩ := resolveSlots_keeps (slotsInOrder_nodup s) ht h fun x hx =>
    congrArg (Option.map Question.about) (mem_slotsInOrder.mp hx)
  obtain ⟨ht'', h'', hslots'', hwaiting''⟩ := resolveWaiting_keeps rfl ht' h'
  have hfree : ∀ k, s.resolveStandalone.asked? k = none := fun k => by
    refine (hslots'' k).trans ?_
    by_cases hk : k ∈ s.slotsInOrder.map Prod.fst
    · exact hfree' k hk
    · refine (hothers' k hk).trans (Option.map_eq_none_iff.mpr ?_)
      exact Option.eq_none_iff_forall_not_mem.mpr fun q hq =>
        hk (List.mem_map_of_mem (f := Prod.fst) (mem_slotsInOrder.mpr hq))
  exact ⟨⟨ht'', h'', fun hw => absurd hwaiting'' hw, fun _ => ⟨hwaiting'', hfree⟩⟩, hwaiting'', hfree⟩

end Sys2Proof.Machine
end

section
/-! SUPPORT. Forced completion, opening and closing of passages keep the law of the questions (01, R134). -/

namespace Sys2Proof.Machine

/-! ### Withdrawn questions (R134) -/

/-- A record whose items all have a verdict. -/
def State.Settled (s : State) (n : Nat) : Prop := ∀ r it, r.passage = n → s.item? r = some it → it.ruling ≠ none

/-- An item of a forced passage given its fallback, unless it has a verdict (R134 step 2). -/
def State.forceItem (s : State) (r : ItemRef) : State :=
  match s.item? r with
  | some it =>
    if it.ruling.isSome then s
    else
      (match it.slot with
        | some j => s.freeSlot j
        | none => s).giveFallback r .forced
  | none => s

theorem forceItems_cons (n i : Nat) (l : List Nat) (s : State) :
    forceItems n (i :: l) s = forceItems n l (s.forceItem ⟨n, i⟩) := by
  rw [forceItems, State.forceItem]
  cases s.item? ⟨n, i⟩ with
  | none => rfl
  | some it =>
    dsimp only
    split <;> rfl

/-- `t` differs from `s` in that the items of `D` are decided and have left slots and limbo. -/
structure Decides (L D : ItemRef → Prop) (s t : State) : Prop where
  table : t.Table
  placing : t.Placing fun x => L x ∧ ¬D x
  waiting : t.waiting = s.waiting
  linked : t.linked = s.linked
  slots : ∀ k, t.asked? k = s.asked? k ∨ t.asked? k = none
  items : ∀ r it, t.item? r = some it → it.ruling = none → ¬D r ∧ s.item? r = some it

theorem Decides.trans {L D D' : ItemRef → Prop} {s t u : State} (h : Decides L D s t)
    (k : Decides (fun x => L x ∧ ¬D x) D' t u) : Decides L (fun x => D x ∨ D' x) s u where
  table := k.table
  placing := k.placing.iff fun x => by rw [and_assoc, ← not_or]
  waiting := k.waiting.trans h.waiting
  linked := k.linked.trans h.linked
  slots j := by
    rcases k.slots j with heq | hnone
    · rw [heq]
      exact h.slots j
    · exact .inr hnone
  items r it hit hr := by
    obtain ⟨hnot', hold⟩ := k.items r it hit hr
    obtain ⟨hnot, hold⟩ := h.items r it hold hr
    exact ⟨not_or.mpr ⟨hnot, hnot'⟩, hold⟩

/-- An item that has a verdict, or is not there, needs none. -/
theorem decides_of_ruled {s : State} {L : ItemRef → Prop} (ht : s.Table) (h : s.Placing L) {r : ItemRef}
    (hr : ∀ it, s.item? r = some it → it.ruling ≠ none) : Decides L (· = r) s s := by
  refine ⟨ht, ?_, rfl, rfl, fun _ => .inl rfl, fun x it hit hx => ⟨fun heq => hr it (heq ▸ hit) hx, hit⟩⟩
  by_cases hL : L r
  · exact h.rule hL (fun _ => rfl) rfl (fun _ _ => rfl) hr
  · exact h.iff fun x => ⟨fun hx => ⟨hx, fun heq => hL (heq ▸ hx)⟩, And.left⟩

/-- An item in limbo is decided by its verdict. -/
theorem decides_of_limbo {s : State} {L : ItemRef → Prop} (ht : s.Table) (h : s.Placing L) {r : ItemRef} (hL : L r)
    {it : Item} (hit : s.item? r = some it) (v : Verdict) (reason : Reason) :
    Decides L (· = r) s (s.giveVerdict r v reason) := by
  have hsame := samePlaces_giveVerdict s r v reason
  have hitems := item?_giveVerdict v reason hit ((h.apart r hL).2 it hit).1
  refine ⟨ht.giveVerdict r v reason, h.giveVerdict hL v reason, hsame.waiting, hsame.linked,
    fun k => .inl (hsame.slots k), fun x it' hit' hx => ?_⟩
  rw [hitems] at hit'
  split at hit'
  next => cases hit'; cases hx
  next hne => exact ⟨hne, hit'⟩

theorem decides_freeSlot {s : State} {L : ItemRef → Prop} (ht : s.Table) (h : s.Placing L) {j : SlotNo} {r : ItemRef}
    {i : ItemNo} (hj : s.asked? j = some (r, i)) (v : Verdict) (reason : Reason) :
    Decides L (· = r) s ((s.freeSlot j).giveVerdict r v reason) := by
  obtain ⟨it, hit, hruling, hslot, -⟩ := h.inSlot j r i hj
  obtain ⟨hslots, hwaiting, hlinked, hitems⟩ := freeSlot_spec hj
  have hit' : (s.freeSlot j).item? r = some { it with slot := none } := by rw [hitems, if_pos rfl, hit, Option.map_some]
  have hend := decides_of_limbo (ht.freeSlot j) (h.freeSlot hj) (.inr rfl) hit' v reason
  refine ⟨hend.table, hend.placing.iff fun x => ?_, hend.waiting.trans hwaiting, hend.linked.trans hlinked,
    fun k => ?_, fun x it'' hx hr => ?_⟩
  · exact ⟨fun ⟨hx, hne⟩ => ⟨hx.resolve_right hne, hne⟩, fun ⟨hx, hne⟩ => ⟨.inl hx, hne⟩⟩
  · rcases hend.slots k with heq | hnone
    · rw [heq, hslots]
      split
      · exact .inr rfl
      · exact .inl rfl
    · exact .inr hnone
  · obtain ⟨hne, hold⟩ := hend.items x it'' hx hr
    exact ⟨hne, ((hitems x).trans (if_neg hne)).symm.trans hold⟩

theorem forceItem_decides {s : State} {L : ItemRef → Prop} (ht : s.Table) (h : s.Placing L) {r : ItemRef}
    (hwait : r ∉ s.waiting) : Decides L (· = r) s (s.forceItem r) := by
  unfold State.forceItem
  split
  next it hit =>
    split
    next hruled =>
      refine decides_of_ruled ht h fun it' hit' => ?_
      rw [hit] at hit'
      cases hit'
      exact Option.isSome_iff_ne_none.mp hruled
    next hnot =>
      have hr : it.ruling = none := by simpa using hnot
      rw [giveFallback_eq]
      generalize State.fallbackOf _ _ = v
      have hplace := h.placed r it hit hr
      cases hslot : it.slot with
      | none =>
        rw [hslot] at hplace
        exact decides_of_limbo ht h (by_contra fun hL => hwait (hplace hL)) hit v .forced
      | some j =>
        rw [hslot] at hplace
        have hL : ¬L r := fun hL => by
          obtain ⟨-, hnone⟩ := (h.apart r hL).2 it hit
          rw [hslot] at hnone
          cases hnone
        obtain ⟨⟨r', i⟩, hj, rfl⟩ := Option.map_eq_some_iff.mp (hplace hL)
        exact decides_freeSlot ht h hj v .forced
  next hnone => exact decides_of_ruled ht h fun it hit => by simp [hnone] at hit

/-- The items of a forced passage are decided one after another (R134). -/
theorem forceItems_decides (n : Nat) (l : List Nat) {s : State} {L : ItemRef → Prop} (ht : s.Table) (h : s.Placing L)
    (hwait : ∀ r ∈ s.waiting, r.passage ≠ n) :
    Decides L (fun r => r.passage = n ∧ r.position ∈ l) s (forceItems n l s) := by
  induction l generalizing s L with
  | nil =>
    exact ⟨ht, h.iff fun r => by simp, rfl, rfl, fun _ => .inl rfl, fun r it hit _ => ⟨by simp, hit⟩⟩
  | cons i l ih =>
    have hfirst := forceItem_decides ht h (r := ⟨n, i⟩) fun hw => hwait _ hw rfl
    have hall := hfirst.trans (ih hfirst.table hfirst.placing (hfirst.waiting ▸ hwait))
    have heq : (fun r : ItemRef => r = ⟨n, i⟩ ∨ (r.passage = n ∧ r.position ∈ l)) =
        fun r : ItemRef => r.passage = n ∧ r.position ∈ i :: l := by
      funext r
      cases r
      simp only [ItemRef.mk.injEq, List.mem_cons, eq_iff_iff]
      tauto
    rw [forceItems_cons, ← heq]
    exact hall

/-- The questions of a passage withdrawn: all its items have a verdict, and the other items their places (R134). -/
theorem withdrawQuestions_keeps {s : State} (hs : s.AskLaw) (n : Nat) :
    (s.withdrawQuestions n).AskLaw ∧ (s.withdrawQuestions n).Settled n := by
  let s1 : State := { s with waiting := s.waiting.filter fun r => r.passage != n }
  have hcount : ∀ r it, r.passage = n → s.item? r = some it →
      r.position ∈ List.range (((s.passage? n).map fun p => p.items.length).getD 0) := fun r it hn hit => by
    obtain ⟨p, hp, hit⟩ := passage?_of_item? hit
    rw [hn] at hp
    rw [hp, Option.map_some, Option.getD_some, List.mem_range]
    exact (List.getElem?_eq_some_iff.mp hit).1
  have hlimbo : s1.Placing fun r => r ∈ s.waiting ∧ r.passage = n :=
    (hs.placing.unwait (t := s1) (fun _ => rfl) List.filter_sublist fun _ => rfl).iff fun r => by
      simp only [nowhere, false_or, s1, List.mem_filter, bne_iff_ne, ne_eq]
      exact ⟨fun ⟨hin, hout⟩ => ⟨hin, not_not.mp fun hne => hout ⟨hin, hne⟩⟩, fun ⟨hin, hn⟩ => ⟨hin, fun hr => hr.2 hn⟩⟩
  have htable : s1.Table := ⟨hs.table.distinct, hs.table.tallied⟩
  let count := ((s.passage? n).map fun p => p.items.length).getD 0
  have hend := forceItems_decides n (List.range count) htable hlimbo fun r hr => by simpa using (List.mem_filter.mp hr).2
  have hplacing := hend.placing.iff (L' := nowhere) fun r => ⟨fun ⟨⟨hin, hn⟩, hnot⟩ => ?_, False.elim⟩
  rotate_left
  · obtain ⟨it, hit, -⟩ := hs.placing.waits r hin
    exact hnot ⟨hn, hcount r it hn hit⟩
  refine ⟨handSlotsOn_keeps hend.table hplacing fun hl => ?_, fun r it hn hit hr => ?_⟩
  · obtain ⟨hempty, hfree⟩ := hs.served.standalone (hend.linked ▸ hl : s1.linked = false)
    refine ⟨hend.waiting.trans (by simp [s1, hempty]), fun k => ?_⟩
    rcases hend.slots k with heq | hnone
    · exact heq.trans (hfree k)
    · exact hnone
  · have hruling : ((s.withdrawQuestions n).item? r).map Item.ruling =
        ((forceItems n (List.range count) s1).item? r).map Item.ruling := ruling_handOn 4 _ r
    rw [hit, Option.map_some, hr] at hruling
    obtain ⟨it', hit', hr'⟩ := Option.map_eq_some_iff.mp hruling.symm
    obtain ⟨hnot, hold⟩ := hend.items r it' hit' hr'
    exact hnot ⟨hn, hcount r it' hn hold⟩

/-! ### Forced completion (R23) -/

/-- A record freed whose items all have a verdict. -/
theorem freePassage_keeps {s : State} (hs : s.AskLaw) {n : Nat} (hn : s.Settled n) : (s.freePassage n).AskLaw where
  table := hs.table.freePassage n
  placing := hs.placing.drop (n := n) hn (fun _ => rfl) rfl (fun _ hr => item?_freePassage_of_ne _ hr)
    fun _ hr => item?_freePassage_same _ hr
  served := hs.served.of_same ⟨fun _ => rfl, rfl, rfl⟩

/-- A forced completion from the withdrawal of questions on (R98, R120, R134). -/
theorem forcedEnd_keeps {s : State} (hs : s.AskLaw) (n : Nat) :
    let t := ((s.withdrawQuestions n).modPassage n fun q => { q with flags := { q.flags with forced := true } }).modDevice
      fun d => { d with forcedCompletions := bump d.forcedCompletions }
    (match t.passage? n with
      | some q => (t.queueReport (reportBody q)).freePassage n
      | none => t).AskLaw := by
  obtain ⟨hlaw, hsettled⟩ := withdrawQuestions_keeps hs n
  dsimp only
  generalize ht : State.modDevice _ _ = t
  have hasking : t.asking = (s.withdrawQuestions n).asking := by
    subst ht
    exact asking_modPassage _ _ fun _ => rfl
  split
  next q _ =>
    have hq : (t.queueReport (reportBody q)).asking = (s.withdrawQuestions n).asking :=
      (asking_queueReport t _).trans hasking
    exact freePassage_keeps (hlaw.of_asking hq) fun r it hr hit => hsettled r it hr (item?_of_asking hq r ▸ hit)
  next => exact hlaw.of_asking hasking

theorem forceCompletion_keeps {s : State} (hs : s.AskLaw) {p : Passage} (hp : p ∈ s.passages) :
    (s.forceCompletion p).AskLaw := by
  unfold State.forceCompletion
  refine forcedEnd_keeps ?_ p.number
  split
  next hphase => exact judged_keeps hs (passage?_of_mem hs.table.distinct hp) (by simp [hphase])
  next => exact hs

theorem forcedChoice_mem {s : State} {p : Passage} (h : s.forcedChoice = some p) : p ∈ s.passages := by
  have hfold : ∀ (xs : List Passage) (x : Passage),
      xs.foldl (fun best y => if before y.opened best.opened then y else best) x ∈ x :: xs := fun xs x =>
    List.foldlRecOn (motive := fun b => b ∈ x :: xs) xs _ (List.mem_cons_self ..) fun b hb y hy => by
      split
      · exact List.mem_cons_of_mem _ hy
      · exact hb
  unfold State.forcedChoice at h
  split at h
  · cases h
  next x xs heq =>
    cases h
    exact List.mem_of_mem_filter (heq ▸ hfold xs x)

theorem makeRoom_keeps {s : State} (hs : s.AskLaw) : s.makeRoom.AskLaw := by
  unfold State.makeRoom
  split
  · exact hs
  · split
    next p hp => exact forceCompletion_keeps hs (forcedChoice_mem hp)
    next => exact hs

end Sys2Proof.Machine
end

section
/-! SUPPORT. Opening and closing of passages, lane trackers and the merge of a read keep the law of the questions (01). -/

namespace Sys2Proof.Machine

/-! ### The numbers in the table -/

section Numbers
variable (s : State)

@[simp] theorem numbers_giveVerdict (r : ItemRef) (v : Verdict) (reason : Reason) :
    (s.giveVerdict r v reason).numbers = s.numbers := by
  cases hit : s.item? r with
  | none => rw [giveVerdict_of_no_item hit]
  | some it =>
    by_cases hr : it.ruling = none
    · rw [numbers_congr (asking_giveVerdict v reason hit hr)]
      exact numbers_modPassage s _ fun p => p.decide_number _ _
    · rw [giveVerdict_of_ruled hit hr]

@[simp] theorem numbers_giveFallback (r : ItemRef) (reason : Reason) :
    (s.giveFallback r reason).numbers = s.numbers := by
  rw [giveFallback_eq, numbers_giveVerdict]

@[simp] theorem numbers_freeSlot (j : SlotNo) : (s.freeSlot j).numbers = s.numbers := by
  unfold State.freeSlot
  split
  · exact numbers_modItem (s.setSlot j none) _ _
  · rfl

@[simp] theorem numbers_takeSlot (r : ItemRef) (j : SlotNo) : (s.takeSlot r j).numbers = s.numbers := by
  cases hit : s.item? r with
  | none => rw [takeSlot_of_no_item hit]
  | some it =>
    obtain ⟨p, hp, -⟩ := passage?_of_item? hit
    rw [takeSlot_of_item hp hit, numbers_congr (asking_arbitrateTx _)]
    exact numbers_modItem ({ s.setSlot j _ with nextOrder := _ } : State) _ _

@[simp] theorem numbers_judgeItem (d : Direction) (r : ItemRef) : (s.judgeItem d r).numbers = s.numbers := by
  have hask : (s.askAbout r).numbers = s.numbers := by
    unfold State.askAbout
    split
    · exact numbers_takeSlot s r _
    · rfl
  unfold State.judgeItem
  split
  · rfl
  · split
    · split
      · exact numbers_giveVerdict ..
      · exact hask
    · exact numbers_giveVerdict ..

@[simp] theorem numbers_judgeItems (n : Nat) (d : Direction) (l : List Nat) :
    (judgeItems n d l s).numbers = s.numbers := by
  induction l generalizing s with
  | nil => rfl
  | cons i l ih => exact (ih _).trans (numbers_judgeItem s d _)

@[simp] theorem numbers_judge (n : Nat) : (s.judge n).numbers = s.numbers := by
  cases hp : s.passage? n with
  | none => unfold State.judge; rw [hp]
  | some p =>
    have hup : (s.modPassage n s.setUp).numbers = s.numbers := numbers_modPassage s n fun _ => rfl
    rw [judge_of_passage hp]
    dsimp only
    rw [numbers_judgeItems]
    split
    · rw [numbers_congr (asking_passageAlarm ..), hup]
    · exact hup

/-- Attribution keeps the numbers in the table and the number to be given next. -/
theorem attribute_numbering (n : Nat) :
    (s.attribute n).numbers = s.numbers ∧ (s.attribute n).nextPassage = s.nextPassage := by
  cases hp : s.passage? n with
  | none => rw [attribute_of_no_passage hp]; exact ⟨rfl, rfl⟩
  | some p =>
    obtain rfl : p.number = n := (passage?_mem hp).2
    obtain ⟨items, overflow, sightings, device, -, heq⟩ := attribute_spec hp
    rw [heq]
    refine ⟨?_, rfl⟩
    exact numbers_modPassage ({ s with sightings := sightings, device := device } : State) _ (f := fun q =>
      { q with phase := .judging, settle := none, items := items,
               flags := { q.flags with overflow := q.flags.overflow || overflow } }) fun _ => rfl

@[simp] theorem numbers_handOn (fuel : Nat) : (State.handOn fuel s).numbers = s.numbers := by
  induction fuel generalizing s with
  | zero => rfl
  | succ fuel ih =>
    unfold State.handOn
    split
    · split
      · exact (ih _).trans (numbers_takeSlot _ _ _)
      · rfl
    · rfl

@[simp] theorem numbers_forceItems (n : Nat) (l : List Nat) : (forceItems n l s).numbers = s.numbers := by
  induction l generalizing s with
  | nil => rfl
  | cons i l ih =>
    rw [forceItems_cons, ih]
    unfold State.forceItem
    split
    · split
      · rfl
      · rw [numbers_giveFallback]
        split
        · exact numbers_freeSlot ..
        · rfl
    · rfl

@[simp] theorem numbers_withdrawQuestions (n : Nat) : (s.withdrawQuestions n).numbers = s.numbers :=
  (numbers_handOn _ 4).trans (numbers_forceItems _ n _)

end Numbers

/-- Making room brings no number into the table and leaves the number to be given next (R19, R23). -/
theorem makeRoom_numbering (s : State) : s.makeRoom.numbers.Sublist s.numbers ∧ s.makeRoom.nextPassage = s.nextPassage := by
  have hforce (p : Passage) :
      (s.forceCompletion p).numbers.Sublist s.numbers ∧ (s.forceCompletion p).nextPassage = s.nextPassage := by
    unfold State.forceCompletion
    dsimp only
    generalize hs1 : (if p.phase = .settling then (s.attribute p.number).judge p.number else s) = s1
    have h1 : s1.numbers = s.numbers ∧ s1.nextPassage = s.nextPassage := by
      subst hs1
      obtain ⟨hnumbers, hnext⟩ := attribute_numbering s p.number
      split
      · exact ⟨(numbers_judge _ _).trans hnumbers, (judge_frame _ _).nextPassage.trans hnext⟩
      · exact ⟨rfl, rfl⟩
    have h2 : (s1.withdrawQuestions p.number).numbers = s.numbers ∧
        (s1.withdrawQuestions p.number).nextPassage = s.nextPassage :=
      ⟨(numbers_withdrawQuestions _ _).trans h1.1, (withdrawQuestions_frame _ _).nextPassage.trans h1.2⟩
    generalize hs4 : State.modDevice _ _ = s4
    have hasking : s4.asking = (s1.withdrawQuestions p.number).asking := by
      subst hs4
      exact asking_modPassage _ _ fun _ => rfl
    have h4 : s4.numbers = s.numbers ∧ s4.nextPassage = s.nextPassage :=
      ⟨(numbers_congr hasking).trans h2.1, by subst hs4; exact h2.2⟩
    split
    next q _ =>
      have hreport := numbers_congr (asking_queueReport s4 (reportBody q))
      exact ⟨(numbers_freePassage _ _).trans (by rw [hreport, h4.1]),
        (queueReport_frame s4 _).nextPassage.trans h4.2⟩
    next => exact ⟨by rw [h4.1], h4.2⟩
  unfold State.makeRoom
  split
  · exact ⟨.refl _, rfl⟩
  · split
    · exact hforce _
    · exact ⟨.refl _, rfl⟩

/-! ### A number for a new passage (R19) -/

theorem nextNumber_range {n : Nat} (h : Within 1 65535 n) : Within 1 65535 (nextNumber n) := by
  unfold Within at *
  unfold nextNumber
  split <;> omega

/-- The number `k` places after `n` in the cyclic order of 1..65535. -/
theorem nextNumber_iterate {n : Nat} (h : Within 1 65535 n) (k : Nat) :
    nextNumber^[k] n = (n - 1 + k) % 65535 + 1 := by
  induction k with
  | zero => unfold Within at h; simp only [Function.iterate_zero, id_eq, Nat.add_zero]; omega
  | succ k ih =>
    rw [Function.iterate_succ_apply', ih]
    unfold nextNumber
    split <;> omega

/-- The search ends at the first number not in use, if it is among those tried (R19, log entry 30). -/
theorem freeNumber_not_mem {used : List Nat} {fuel n : Nat} (h : ∃ k < fuel, nextNumber^[k] n ∉ used) :
    freeNumber used fuel n ∉ used := by
  induction fuel generalizing n with
  | zero => obtain ⟨k, hk, -⟩ := h; cases hk
  | succ fuel ih =>
    obtain ⟨k, hk, hfree⟩ := h
    unfold freeNumber
    split
    next hin =>
      cases k with
      | zero => exact absurd (List.contains_iff_mem.mp hin) hfree
      | succ k => exact ih ⟨k, by omega, by rwa [Function.iterate_succ_apply] at hfree⟩
    next hout => simpa using hout

/-- Among one more numbers than are in use, one is not (R19). -/
theorem freeNumber_fresh {used : List Nat} {n : Nat} (hn : Within 1 65535 n) (hlen : used.length < 65535) :
    freeNumber used (used.length + 1) n ∉ used := by
  refine freeNumber_not_mem (by_contra fun hall => ?_)
  have hall : ∀ k < used.length + 1, nextNumber^[k] n ∈ used := by simpa using hall
  have hdistinct : ((List.range (used.length + 1)).map fun k => nextNumber^[k] n).Nodup := by
    refine List.Nodup.map_on (fun a ha b hb hab => ?_) List.nodup_range
    rw [List.mem_range] at ha hb
    simp only [nextNumber_iterate hn] at hab
    omega
  have hsub : ((List.range (used.length + 1)).map fun k => nextNumber^[k] n) ⊆ used := fun x hx => by
    obtain ⟨k, hk, rfl⟩ := List.mem_map.mp hx
    exact hall k (List.mem_range.mp hk)
  have hle := (hdistinct.subperm hsub).length_le
  simp at hle

theorem freeNumber_range {used : List Nat} {fuel n : Nat} (h : Within 1 65535 n) :
    Within 1 65535 (freeNumber used fuel n) := by
  induction fuel generalizing n with
  | zero => exact h
  | succ fuel ih =>
    unfold freeNumber
    split
    · exact ih (nextNumber_range h)
    · exact h

/-! ### Opening (R9, R16, R19) -/

/-- What opening needs of the table: a number to be given next, and fewer records than numbers. -/
def State.Numbered (s : State) (spare : Nat) : Prop := Within 1 65535 s.nextPassage ∧ s.passages.length + spare < 65535

theorem openPassage_keeps {s : State} (hs : s.AskLaw) {spare : Nat} (hn : s.Numbered (spare + 1)) (k : Lane)
    (first : Option Beam) (persons : Nat) (opened : Time) (presence : Option Time) :
    (s.openPassage k first persons opened presence).AskLaw ∧
      (s.openPassage k first persons opened presence).Numbered spare := by
  have hroom := makeRoom_keeps hs
  obtain ⟨hsub, hnext⟩ := makeRoom_numbering s
  have hlen : s.makeRoom.passages.length ≤ s.passages.length := by simpa [State.numbers] using hsub.length_le
  obtain ⟨hrange, hspare⟩ := hn
  have hrange' : Within 1 65535 s.makeRoom.nextPassage := hnext ▸ hrange
  unfold State.openPassage
  dsimp only
  generalize hnum : freeNumber _ _ _ = n
  have hfresh : n ∉ s.makeRoom.numbers := by
    have h := freeNumber_fresh (used := s.makeRoom.numbers) hrange' (by simp [State.numbers]; omega)
    rw [← hnum]
    simpa [State.numbers] using h
  have hn : Within 1 65535 n := hnum ▸ freeNumber_range hrange'
  generalize hp : Passage.mark _ _ = p
  have hview : p.view = ⟨n, .open_, [], none⟩ := by rw [← hp, Passage.mark_view]; rfl
  have hnumber : p.number = n := congrArg PassageView.number hview
  have hitems : p.items = [] := congrArg PassageView.items hview
  refine ⟨⟨⟨?_, fun v hv => ?_⟩, ?_, hroom.served.of_same ⟨fun _ => rfl, rfl, rfl⟩⟩, nextNumber_range hn, ?_⟩
  · simp only [State.numbers, List.map_append, List.map_cons, List.map_nil, hnumber]
    exact List.nodup_append.mpr ⟨hroom.table.distinct, List.nodup_singleton n, fun a ha b hb => by
      rw [List.mem_singleton.mp hb]
      exact fun heq => hfresh (heq ▸ ha)⟩
  · obtain ⟨q, hq, rfl⟩ := List.mem_map.mp hv
    rcases List.mem_append.mp hq with hq | hq
    · exact hroom.table.of_passage hq
    · rw [List.mem_singleton.mp hq, hview]
      exact ⟨fun _ => ⟨rfl, rfl⟩, nofun⟩
  · exact hroom.placing.recast (fun _ => rfl) rfl (fun r _ => item?_append rfl hitems r) fun _ _ h => h.elim
  · simp only [List.length_append, List.length_singleton]
    omega

/-! ### Closing (R10, R12, R14, R17) -/

theorem openPassage?_mem {s : State} {k : Lane} {p : Passage} (h : s.openPassage? k = some p) :
    p ∈ s.passages ∧ p.phase = .open_ := by
  have hp := List.find?_some h
  simp only [Bool.and_eq_true, beq_iff_eq] at hp
  exact ⟨List.mem_of_find?_eq_some h, hp.2⟩

/-- A record as closing leaves it (R12, R14, R17). -/
def Passage.closedBy (q : Passage) (d : Direction) (stamp : Time) (timer : Option Time) : Passage :=
  { q with phase := .settling, direction := some d, closed := some stamp, presence := none, settle := timer }

/-- An OPEN passage closed: it has no items until it is attributed, so no question moves before it is judged (R21). -/
theorem closePassage_keeps {s : State} (hs : s.AskLaw) {p : Passage} (hp : p ∈ s.passages) (hphase : p.phase = .open_)
    (d : Direction) (stamp : Time) : (s.closePassage p d stamp).AskLaw := by
  have hclosed (timer : Option Time) :
      ((s.modPassage p.number fun q => q.closedBy d stamp timer).modCounts p.lane fun c => c.addClosed d p.persons).AskLaw := by
    refine State.AskLaw.of_asking (s := s.modPassage p.number fun q => q.closedBy d stamp timer)
      ⟨?_, ?_, hs.served.of_same (samePlaces_modPassage ..)⟩ rfl
    · refine hs.table.modPassage (fun _ => rfl) fun q hq hn ⟨hidle, hcount⟩ => ⟨fun _ => hidle fun hj => ?_, hcount⟩
      obtain rfl : q = p := Option.some.inj
        ((passage?_of_mem hs.table.distinct hq).symm.trans (hn ▸ passage?_of_mem hs.table.distinct hp))
      exact absurd (hphase.symm.trans hj) nofun
    · exact hs.placing.recast (fun _ => rfl) rfl
        (fun r _ => item?_modPassage_of_items s p.number (f := fun q => q.closedBy d stamp timer) (fun _ => rfl)
          (fun _ => rfl) r) fun _ _ h => h.elim
  unfold State.closePassage
  dsimp only
  split
  · have hfound : (s.modPassage p.number fun q => q.closedBy d stamp none).passage? p.number =
        some (p.closedBy d stamp none) :=
      passage?_modPassage_same (passage?_of_mem hs.table.distinct hp) fun _ => rfl
    exact settleNow_keeps (p := p.closedBy d stamp none) (hclosed none) hfound nofun
  · exact hclosed _

theorem closeOpen_keeps {s : State} (hs : s.AskLaw) (k : Lane) (d : Direction) (stamp : Time) :
    (s.closeOpen k d stamp).AskLaw := by
  unfold State.closeOpen
  split
  next p hp =>
    obtain ⟨hmem, hphase⟩ := openPassage?_mem hp
    exact closePassage_keeps hs hmem hphase d stamp
  next => exact hs

/-! ### The lane tracker (R9 to R15) -/

theorem trackBreak_keeps {s : State} (hs : s.AskLaw) (hn : s.Numbered 1) (k : Lane) (x : Beam) (stamp : Time) :
    (s.trackBreak k x stamp).AskLaw := by
  have hset (t : Option Tracker) : (s.setTracker k t).AskLaw := hs.of_asking rfl
  unfold State.trackBreak
  split
  · exact (openPassage_keeps (spare := 0) (hset _) hn k _ _ _ _).1
  · split
    · exact hs
    · exact hset _
  · split
    · dsimp only
      split
      · split
        · exact (hset _).of_asking (asking_modPassage _ _ fun _ => rfl)
        · exact hset _
      · exact hset _
    · exact hs
  · exact hs

theorem trackClear_keeps {s : State} (hs : s.AskLaw) (k : Lane) (x : Beam) (stamp : Time) :
    (s.trackClear k x stamp).AskLaw := by
  have hset (t : Option Tracker) : (s.setTracker k t).AskLaw := hs.of_asking rfl
  unfold State.trackClear
  split
  · split
    · exact closeOpen_keeps (hset _) k _ _
    · exact hs
  · split <;> exact hset _
  · split
    · exact hs
    · dsimp only
      split
      next p hp =>
        obtain ⟨hmem, hphase⟩ := openPassage?_mem hp
        exact closePassage_keeps (hset _) hmem hphase _ _
      next => exact hset _
  · split
    · exact hset _
    · exact hs
  · exact hs

theorem trackFault_keeps {s : State} (hs : s.AskLaw) (k : Lane) (stamp : Time) : (s.trackFault k stamp).AskLaw := by
  have hset (t : Option Tracker) : (s.setTracker k t).AskLaw := hs.of_asking rfl
  unfold State.trackFault
  split
  · exact hs
  · exact closeOpen_keeps (hset _) k _ _
  · exact hs

theorem trackRecovery_keeps {s : State} (hs : s.AskLaw) (k : Lane) (stamp : Time) :
    (s.trackRecovery k stamp).AskLaw := by
  have hset (t : Option Tracker) : (s.setTracker k t).AskLaw := hs.of_asking rfl
  unfold State.trackRecovery
  split
  · split
    · exact hs
    · dsimp only
      split
      next p hp =>
        obtain ⟨hmem, hphase⟩ := openPassage?_mem hp
        split
        · exact closePassage_keeps (hset _) hmem hphase _ _
        · exact hset _
      next => exact hset _
  · exact hs

theorem issueClear_keeps {s : State} (hs : s.AskLaw) (k : Lane) (x : Beam) (stamp : Time) :
    (s.issueClear k x stamp).AskLaw := by
  have hclear : ((s.modBeam k x fun b => { b with stuck := none }).trackClear k x stamp).AskLaw :=
    trackClear_keeps (hs.of_asking (asking_modBeam ..)) k x stamp
  unfold State.issueClear
  dsimp only
  split
  · exact trackRecovery_keeps (hclear.of_asking (by simp)) k stamp
  · exact hclear

/-! ### The merge of a read (R16, R69) -/

theorem qualifyingRead_keeps {s : State} (hs : s.AskLaw) {spare : Nat} (hn : s.Numbered (spare + 1)) (k : Lane)
    (time : Time) : (s.qualifyingRead k time).AskLaw ∧ (s.qualifyingRead k time).Numbered spare := by
  have hless : s.Numbered spare := ⟨hn.1, by have := hn.2; omega⟩
  unfold State.qualifyingRead
  dsimp only
  split
  · exact openPassage_keeps hs hn k _ _ _ _
  next p _ =>
    split
    · refine ⟨hs.of_asking (asking_modPassage _ _ fun _ => rfl), hless.1, ?_⟩
      simpa [State.modPassage] using hless.2
    · exact ⟨hs, hless⟩

theorem readReported_keeps {s : State} (hs : s.AskLaw) (hn : s.Numbered 4) (r : Read) (strength : Nat)
    (st : SightState) : (s.readReported r strength st).AskLaw := by
  have hfold : ∀ (l : List Lane) (t : State), t.AskLaw → t.Numbered l.length → (l.foldl (fun t k =>
      if s.trackers[k] == some .fault && Config.presenceStrength ≤ strength && st.mayQualify then t.qualifyingRead k r.time
      else t) t).AskLaw := fun l => by
    induction l with
    | nil => exact fun t ht _ => ht
    | cons k l ih =>
      intro t ht htn
      have hless : t.Numbered l.length := ⟨htn.1, by have := htn.2; simp at this; omega⟩
      rw [List.foldl_cons]
      split
      · obtain ⟨ht', htn'⟩ := qualifyingRead_keeps ht htn k r.time
        exact ih _ ht' htn'
      · exact ih t ht hless
  refine hfold (lanesBeside r.antenna) s hs ⟨hn.1, ?_⟩
  have hlanes : (lanesBeside r.antenna).length ≤ 4 := List.length_filter_le _ allLanes
  have := hn.2
  omega

end Sys2Proof.Machine
end

section
/-! SUPPORT. Every command and every step keeps the law of the questions (07). -/

namespace Sys2Proof.Machine

/-! ### Messages (10) -/

section Kept
variable (s : State)

/-- A SET changes parameters and what hangs on them, and no question (R182). -/
theorem asking_storePair (pair : Nat × Int) : (s.storePair pair).asking = s.asking := by
  have hfold (u : State) (old : Nat) (l : List Lane) (t : State) : (l.foldl (fun t k =>
      if u.laneInService k && !decide (k.val < old) then t.laneEnters k
      else if !u.laneInService k && decide (k.val < old) then t.laneLeaves k
      else t) t).asking = t.asking := by
    induction l generalizing t with
    | nil => rfl
    | cons k l ih =>
      refine (ih _).trans ?_
      dsimp only
      split
      · rfl
      · split <;> rfl
  have hlanes (u : State) (old : Nat) : (u.lanesChanged old).asking = u.asking := by
    unfold State.lanesChanged
    exact (asking_choose _).trans ((withdrawBeyondLanes_frame _).asking.trans (hfold u old allLanes u))
  have hsilence (u : State) : u.silenceSet.asking = u.asking := by
    unfold State.silenceSet
    split
    · rfl
    · split <;> rfl
  unfold State.storePair
  dsimp only
  split
  · split
    · rfl
    · exact hlanes _ _
  · exact (restartBackground_frame _).asking
  · rfl
  · exact hsilence _
  · rfl

/-- A command taken, other than an ANSWER, leaves the questions as they are. -/
theorem asking_takeCommand (k : Kind) (fields : List Byte) : (takeCommand k fields s).state.asking = s.asking := by
  have hloans (l : List ItemNo) : ∀ t : State, (l.foldl State.addLoan t).asking = t.asking := by
    induction l with
    | nil => exact fun _ => rfl
    | cons i l ih => exact fun t => (ih _).trans (asking_addLoan t i)
  cases k with
  | set =>
    unfold takeCommand takeSet
    dsimp only
    split
    · rfl
    · split
      · rfl
      · rw [asking_endEvent]
        exact List.foldlRecOn (motive := fun t => t.asking = s.asking) _ _ rfl fun t ht pair _ =>
          (asking_storePair t pair).trans ht
  | get => unfold takeCommand takeGet; dsimp only; split <;> rfl
  | classWrite =>
    unfold takeCommand takeClassWrite
    dsimp only
    split
    · split <;> rfl
    · rfl
  | classRead => unfold takeCommand takeClassRead; dsimp only; split <;> rfl
  | rateWrite => unfold takeCommand takeRateWrite; dsimp only; split <;> rfl
  | rateRead => unfold takeCommand takeRateRead; dsimp only; split <;> rfl
  | routeSet =>
    unfold takeCommand takeRouteSet
    dsimp only
    split
    · split <;> rfl
    · rfl
  | routeRead => unfold takeCommand takeRouteRead; dsimp only; split <;> rfl
  | patternSet => unfold takeCommand takePatternSet; dsimp only; split <;> rfl
  | acknowledge => unfold takeCommand takeAcknowledge; dsimp only; split <;> rfl
  | lineTest => unfold takeCommand takeLineTest; dsimp only; split <;> rfl
  | loanAdd => exact hloans _ s
  | countsClear =>
    unfold takeCommand takeCountsClear
    dsimp only
    split
    · rfl
    · split <;> rfl
  | statusReq | ownerSet | ownerRead | loanDrop | loanClear | answer | countsRead | statsRead | statsClear
  | restart => rfl

/-! ### Events that leave the questions as they are -/

theorem asking_countSlot (r : Round) (o : SlotOutcome) (amp : BitVec 12) :
    (s.countSlot r o amp).asking = s.asking := by
  cases o with
  | single t =>
    unfold State.countSlot State.takeSingle
    dsimp only
    split <;> rfl
  | empty | collision | noise | corrupt => rfl

theorem asking_slotReport (rep : SlotReport) : (slotReport rep s).asking = s.asking := by
  by_cases he : s.engine = .frame
  · cases hr : s.round with
    | none => unfold slotReport; rw [he, hr]
    | some r =>
      rw [slotReport_of_frame rep he hr]
      split
      · rw [asking_openSlot, asking_countSlot]
      · rw [(closeFrame_frame _ _).asking, asking_countSlot]
  · rw [slotReport_of_not_frame s rep he]

theorem asking_holdTimerExpiry : (holdTimerExpiry s).asking = s.asking := by
  unfold holdTimerExpiry
  split
  · split <;> rfl
  · rfl

theorem asking_roundTimerExpiry : (roundTimerExpiry s).asking = s.asking := by
  unfold roundTimerExpiry
  split
  · split <;> rfl
  · rfl

theorem asking_fieldFault : (fieldFault s).asking = s.asking := by
  unfold fieldFault
  split
  · split <;> rfl
  · rfl

theorem asking_fieldSettleExpiry : (fieldSettleExpiry s).asking = s.asking := by
  unfold fieldSettleExpiry
  split
  · split
    · dsimp only
      rw [asking_recomputeLines, asking_openSlot]
      split
      · exact (asking_queueNotice _ _).trans (asking_markPassages _)
      · rfl
    · rfl
  · rfl

theorem asking_roundEnded (a : Antenna) (label : GrantLabel) (cause : Option EndCause) :
    (s.roundEnded a label cause).asking = s.asking := by
  unfold State.roundEnded
  split
  · split
    · rfl
    · exact (asking_queueNotice _ _).trans (asking_markPassages _)
  · split <;> rfl
  · rfl

theorem asking_fieldOffAck : (fieldOffAck s).asking = s.asking := by
  by_cases he : s.engine = .closing
  · cases hr : s.round with
    | none => rw [fieldOffAck_of_no_round he hr, asking_recomputeLines, asking_choose]; rfl
    | some r => rw [fieldOffAck_of_round he hr, asking_recomputeLines, asking_choose, asking_roundEnded]; rfl
  · rw [fieldOffAck_of_not_closing _ he]

theorem asking_backgroundTimerExpiry : (backgroundTimerExpiry s).asking = s.asking := by
  unfold backgroundTimerExpiry
  split
  · exact asking_choose _
  · rfl

theorem asking_retryTimerExpiry (a : Antenna) : (retryTimerExpiry a s).asking = s.asking := by
  unfold retryTimerExpiry
  split
  · exact asking_choose _
  · rfl

theorem asking_keyRawChange (pressed : Bool) : (keyRawChange pressed s).asking = s.asking := by
  unfold keyRawChange
  split
  · rfl
  · split <;> rfl

theorem asking_keyFilterExpiry : (keyFilterExpiry s).asking = s.asking := by
  unfold keyFilterExpiry
  split
  · split
    · dsimp only
      split <;> rfl
    · rfl
  · rfl

theorem asking_alarmTimerExpiry (k : Lane) : (alarmTimerExpiry k s).asking = s.asking := by
  unfold alarmTimerExpiry
  split
  · dsimp only
    split <;> rfl
  · rfl

theorem asking_pulseTimerExpiry (l : OutLine) : (pulseTimerExpiry l s).asking = s.asking := by
  unfold pulseTimerExpiry
  split <;> rfl

theorem asking_testTimerExpiry (l : OutLine) : (testTimerExpiry l s).asking = s.asking := by
  unfold testTimerExpiry
  split <;> rfl

theorem asking_gapTimerExpiry : (gapTimerExpiry s).asking = s.asking := by
  unfold gapTimerExpiry
  split <;> rfl

end Kept

/-! ### Events that move questions -/

/-- With no record in the table nothing is asked (R27, R123). -/
theorem askLaw_of_empty {s : State} (hp : s.passages = []) (hs : ∀ j, s.asked? j = none) (hw : s.waiting = []) :
    s.AskLaw := by
  have hitem : ∀ r, s.item? r = none := fun r => by simp [State.item?, State.passage?, hp]
  refine ⟨⟨by simp [State.numbers, hp], fun v hv => by simp [State.asking, hp] at hv⟩,
    ⟨fun j r i hj => by simp [hs j] at hj, fun r hr => by simp [hw] at hr, hw ▸ List.nodup_nil,
      fun r it hit => by simp [hitem] at hit, fun _ h => h.elim⟩, fun h => absurd hw h, fun _ => ⟨hw, hs⟩⟩

theorem powerUp_askLaw (s : State) (cause : RestartCause) (a b : Bool) : (s.powerUp cause a b).AskLaw :=
  askLaw_of_empty rfl (fun j => by fin_cases j <;> rfl) rfl

theorem restartNow_askLaw (s : State) : s.restartNow.AskLaw :=
  askLaw_of_empty rfl (fun j => by fin_cases j <;> rfl) rfl

theorem matchedSlot_eq_some {s : State} {slot : Nat} {item : ItemNo} {j : SlotNo} {q : Question}
    (h : s.matchedSlot slot item = some (j, q)) : j.val = slot ∧ s.slots[j] = some q ∧ q.item = item := by
  unfold State.matchedSlot at h
  split at h
  next hlt =>
    split at h
    next q' hq =>
      split at h
      next hitem => cases h; exact ⟨rfl, hq, hitem⟩
      next => cases h
    next => cases h
  next => cases h

theorem deliverAnswer_askLaw {s : State} (hs : s.AskLaw) (fields : List Byte) : (s.deliverAnswer fields).AskLaw := by
  refine State.AskLaw.of_asking ?_ (asking_recomputeLines _)
  unfold State.takeAnswer
  split
  next => exact hs.of_asking rfl
  next j q hj =>
    obtain ⟨-, hq, -⟩ := matchedSlot_eq_some hj
    split
    · refine resolveSlot_keeps (hs.of_asking (asking_addLoan _ _)) ?_ _ _
      rw [addLoan_loans_device]
      exact hq
    · exact resolveSlot_keeps hs hq _ _
    · exact resolveSlot_keeps hs hq _ _
    · exact hs.of_asking rfl

theorem takeFrame_askLaw {s : State} (hs : s.AskLaw) (body : Body) : (s.takeFrame body).AskLaw := by
  unfold State.takeFrame
  split
  · exact hs
  · split
    · exact hs.of_asking (asking_placeReply _ _)
    · split
      · split
        · exact deliverAnswer_askLaw hs _
        · exact hs.of_asking ((asking_placeReply _ _).trans (asking_takeCommand _ _ _))
      · exact hs.of_asking (asking_placeReply _ _)

theorem takeFrames_askLaw (fuel : Nat) {s : State} (hs : s.AskLaw) : (takeFrames fuel s).AskLaw := by
  induction fuel generalizing s with
  | zero => exact hs
  | succ fuel ih =>
    unfold takeFrames
    split
    · exact hs
    next body rest _ =>
      have htaken : ({ s with buffers := rest } : State).AskLaw := hs.of_asking rfl
      split
      · exact ih (takeFrame_askLaw htaken body)
      · exact hs

/-- A good frame makes the link LINKED, which allows waiting and what is in flight (R159). -/
theorem arrive_askLaw {s : State} (hs : s.AskLaw) (body : Body) : (s.arrive body).AskLaw := by
  have hlinked {t : State} (ht : t.asking = s.asking) (silence : Option Time) :
      ({ t with linked := true, silence := silence } : State).AskLaw := by
    have ht := hs.of_asking ht
    exact ⟨⟨ht.table.distinct, ht.table.tallied⟩,
      ht.placing.recast (fun _ => rfl) rfl (fun _ _ => rfl) fun _ _ h => h.elim, ht.served.full, nofun⟩
  have hbuffered : (if s.buffers.length < Config.maxBuffers then { s with buffers := s.buffers ++ [body] }
      else s.modDevice fun d => { d with overruns := bump d.overruns }).asking = s.asking := by
    split <;> rfl
  unfold State.arrive
  dsimp only
  split
  · exact hlinked hbuffered _
  · exact (hlinked hbuffered _).of_asking (asking_recomputeLines _)

theorem receive_askLaw {s : State} (hs : s.AskLaw) (body : Body) : (s.receive body).AskLaw :=
  takeFrames_askLaw _ (arrive_askLaw hs body)

theorem byteReceived_askLaw {s : State} (hs : s.AskLaw) (b : Byte) (stopBit : Bool) :
    (byteReceived b stopBit s).AskLaw := by
  have hhold (rx : Receiver) : (s.holdByte rx).AskLaw := hs.of_asking (asking_holdByte _ _)
  have hdiscard : s.discardFrame.AskLaw := hs.of_asking (asking_discardFrame _)
  have hhunt : ({ s with rx := .hunt, gap := none } : State).AskLaw := hs.of_asking rfl
  unfold byteReceived
  split
  · split
    · exact hhold _
    · exact hs
  · split
    · exact hhold _
    · exact hdiscard
  · split
    · dsimp only
      split
      · exact hhold _
      · exact hdiscard
    · exact hdiscard
  · split
    · split <;> exact hhold _
    · exact hdiscard
  · split
    · exact hhold _
    · exact hdiscard
  · split
    · unfold State.completeFrame
      split
      · exact receive_askLaw hhunt _
      · exact hdiscard
    · exact hdiscard

theorem frameLeftLine_askLaw {s : State} (hs : s.AskLaw) : (frameLeftLine s).AskLaw := by
  unfold frameLeftLine
  split
  · exact hs
  · refine takeFrames_askLaw _ (State.AskLaw.of_asking ?_ (asking_arbitrateTx _))
    split
    · exact restartNow_askLaw _
    · exact hs.of_asking rfl

theorem beamFilterExpiry_askLaw {s : State} (hs : s.AskLaw) (hn : s.Numbered 1) (k : Lane) (x : Beam) :
    (beamFilterExpiry k x s).AskLaw := by
  have hmod (f : BeamState → BeamState) : (s.modBeam k x f).AskLaw := hs.of_asking (asking_modBeam ..)
  unfold beamFilterExpiry
  split
  · split
    · dsimp only
      split
      · refine State.AskLaw.of_asking ?_ (asking_endEvent _ _)
        split
        · exact trackBreak_keeps ((hmod _).of_asking (asking_modBeam ..)) hn k x _
        · exact issueClear_keeps (hmod _) k x _
      · exact hmod _
    · exact hs
  · exact hs

theorem stuckTimerExpiry_askLaw {s : State} (hs : s.AskLaw) (k : Lane) (x : Beam) : (stuckTimerExpiry k x s).AskLaw := by
  unfold stuckTimerExpiry
  split
  · split
    · refine State.AskLaw.of_asking ?_ (asking_endEvent _ _)
      exact trackFault_keeps (hs.of_asking ((asking_queueNotice _ _).trans (asking_modBeam ..))) k _
    · exact hs
  · exact hs

theorem presenceTimerExpiry_askLaw {s : State} (hs : s.AskLaw) (n : Nat) : (presenceTimerExpiry n s).AskLaw := by
  unfold presenceTimerExpiry
  split
  next p hp =>
    split
    · split
      next h =>
        refine State.AskLaw.of_asking ?_ (asking_endEvent _ _)
        exact closePassage_keeps hs (passage?_mem hp).1 h.1 _ _
      next => exact hs
    · exact hs
  next => exact hs

theorem settleTimerExpiry_askLaw {s : State} (hs : s.AskLaw) (n : Nat) : (settleTimerExpiry n s).AskLaw := by
  unfold settleTimerExpiry
  split
  next p hp =>
    obtain rfl : p.number = n := (passage?_mem hp).2
    split
    next h =>
      refine State.AskLaw.of_asking ?_ (asking_endEvent _ _)
      exact settleNow_keeps hs hp (by simp [h.1])
    next => exact hs
  next => exact hs

theorem mergeRead_nextPassage (s : State) (r : Read) : (s.mergeRead r).nextPassage = s.nextPassage := by
  unfold State.mergeRead State.evictIfFull
  dsimp only
  split
  · rfl
  · split
    · rfl
    · split <;> rfl

theorem readMerge_askLaw {s : State} (hs : s.AskLaw) (hn : s.Numbered 4) : (readMerge s).AskLaw := by
  unfold readMerge
  split
  · exact hs
  next r rest _ =>
    dsimp only
    generalize hs1 : ({ s with intake := rest } : State).readRemoved = s1
    have hasking : s1.asking = s.asking := by
      subst hs1
      exact (readRemoved_frame { s with intake := rest }).asking
    have hn1 : s1.Numbered 4 := by
      have hframe := hs1 ▸ readRemoved_frame { s with intake := rest }
      exact ⟨hframe.nextPassage ▸ hn.1, hframe.passages ▸ hn.2⟩
    have hn2 : (s1.mergeRead r).Numbered 4 := ⟨mergeRead_nextPassage s1 r ▸ hn1.1, mergeRead_passages s1 r ▸ hn1.2⟩
    refine State.AskLaw.of_asking ?_ ((asking_endEvent _ _).trans (asking_expireAge _ _))
    exact readReported_keeps ((hs.of_asking hasking).of_asking (asking_mergeRead _ _)) hn2 r _ _

theorem slotTimerExpiry_askLaw {s : State} (hs : s.AskLaw) (j : SlotNo) : (slotTimerExpiry j s).AskLaw := by
  unfold slotTimerExpiry
  split
  next q hq =>
    split
    · refine State.AskLaw.of_asking ?_ (asking_recomputeLines _)
      exact resolveSlot_keeps (hs.of_asking (asking_modDevice ..)) hq _ _
    · exact hs
  next => exact hs

theorem silenceTimerExpiry_askLaw {s : State} (hs : s.AskLaw) : (silenceTimerExpiry s).AskLaw := by
  unfold silenceTimerExpiry
  split
  · have htable : ({ s with linked := false, silence := none } : State).Table := ⟨hs.table.distinct, hs.table.tallied⟩
    have hplacing : ({ s with linked := false, silence := none } : State).Placing nowhere :=
      hs.placing.recast (fun _ => rfl) rfl (fun _ _ => rfl) fun _ _ h => h.elim
    exact (resolveStandalone_keeps htable hplacing).1.of_asking (asking_recomputeLines _)
  · exact hs

/-! ### Every command, every step -/

theorem exec_askLaw (i : Instr) {s t : State} (hs : s.AskLaw) (hn : s.Numbered 4) (hx : exec i s = .next t) :
    t.AskLaw := by
  have hless : s.Numbered 1 := ⟨hn.1, by have := hn.2; omega⟩
  have hsame {u : State} (hu : u.asking = s.asking) : u.AskLaw := hs.of_asking hu
  cases i <;> obtain rfl := Host.Outcome.next.inj hx
  case powerOn => exact powerUp_askLaw _ _ _ _
  case resetPin => exact powerUp_askLaw _ _ _ _
  case beamRawChange => exact hsame rfl
  case beamFilterExpiry => exact beamFilterExpiry_askLaw hs hless _ _
  case stuckTimerExpiry => exact stuckTimerExpiry_askLaw hs _ _
  case keyRawChange => exact hsame (asking_keyRawChange s _)
  case keyFilterExpiry => exact hsame (asking_keyFilterExpiry s)
  case presenceTimerExpiry => exact presenceTimerExpiry_askLaw hs _
  case settleTimerExpiry => exact settleTimerExpiry_askLaw hs _
  case fieldSettleExpiry => exact hsame (asking_fieldSettleExpiry s)
  case slotReport => exact hsame (asking_slotReport s _)
  case holdTimerExpiry => exact hsame (asking_holdTimerExpiry s)
  case roundTimerExpiry => exact hsame (asking_roundTimerExpiry s)
  case fieldFault => exact hsame (asking_fieldFault s)
  case fieldOffAck => exact hsame (asking_fieldOffAck s)
  case backgroundTimerExpiry => exact hsame (asking_backgroundTimerExpiry s)
  case retryTimerExpiry => exact hsame (asking_retryTimerExpiry s _)
  case readMerge => exact readMerge_askLaw hs hn
  case ageExpiry => exact hsame (asking_expireAge s _)
  case loanLifeEnd => exact hsame rfl
  case slotTimerExpiry => exact slotTimerExpiry_askLaw hs _
  case alarmTimerExpiry => exact hsame (asking_alarmTimerExpiry s _)
  case pulseTimerExpiry => exact hsame (asking_pulseTimerExpiry s _)
  case testTimerExpiry => exact hsame (asking_testTimerExpiry s _)
  case byteReceived => exact byteReceived_askLaw hs _ _
  case gapTimerExpiry => exact hsame (asking_gapTimerExpiry s)
  case silenceTimerExpiry => exact silenceTimerExpiry_askLaw hs
  case frameLeftLine => exact frameLeftLine_askLaw hs
  all_goals exact receive_askLaw hs _

theorem step_askLaw {s t : State} (hs : s.AskLaw) (hn : s.Numbered 4) (hx : step s = .next t) : t.AskLaw := by
  unfold step at hx
  split at hx
  next c rest _ => exact exec_askLaw c (s := { s with pending := rest }) (hs.of_asking rfl) hn hx
  next =>
    split at hx
    · exact exec_askLaw _ hs hn hx
    · obtain rfl := Host.Outcome.next.inj hx
      exact hs.of_asking rfl

/-- Settles O58: the law kept is the law stated, with what it needs of the passage table. -/
theorem everyStepKeepsQuestions : Obligations.EveryStepKeepsQuestions := by
  intro s t hpassages hquestions hx
  have hnumbered : s.Numbered 4 := by
    obtain ⟨hlen, -, hlow, hhigh, -⟩ := hpassages
    exact ⟨⟨hlow, hhigh⟩, by have hmax : Config.maxPassages = 16 := rfl; omega⟩
  exact queryLaw_of_askLaw (step_askLaw (askLaw_of_queryLaw hpassages hquestions) hnumbered hx)

end Sys2Proof.Machine
end

section
/-! SUPPORT. Class matching and the steps of judging (06, sections 6.2 and 6.4). -/

namespace Sys2Proof.Machine

/-! ### The class table (R101, R102) -/

/-- The upper half of an item number, which a class entry is compared with (R101). -/
theorem extractLsb'_upper (x : ItemNo) : x.extractLsb' 32 32 = BitVec.ofNat 32 (x.toNat / 2 ^ 32) := by
  rw [BitVec.extractLsb', Nat.shiftRight_eq_div_pow]

theorem covers_iff (e : ClassEntry) (it : Item) : e.covers it = true ↔
    e.enabled = true ∧ it.owner &&& e.ownerMask = e.ownerValue &&& e.ownerMask ∧
      BitVec.ofNat 32 (it.item.toNat / 2 ^ 32) &&& e.prefixMask = e.prefixValue &&& e.prefixMask ∧
      e.classSet.getLsbD it.cls.toNat = true := by
  rw [← extractLsb'_upper]
  simp only [ClassEntry.covers, Bool.and_eq_true, ownerMatches_iff, beq_iff_eq, and_assoc]

/-- The entry that governs an item is the lowest-numbered one that matches it (R101, R102). -/
theorem classOf_of_lowest {s : State} {it : Item} {i : Fin 8} (hi : s.classes[i].covers it = true)
    (hlow : ∀ j : Fin 8, j < i → s.classes[j].covers it = false) : s.classOf it = s.classes[i].fields := by
  have hfound : (s.classes.toList.find? fun e => e.covers it) = some s.classes[i] :=
    List.find?_eq_some_iff_getElem.mpr ⟨hi, i.val, by simp, by simp, fun j hj => by
      simpa using hlow ⟨j, by omega⟩ hj⟩
  rw [State.classOf, hfound]

theorem classOf_of_none {s : State} {it : Item} (h : ∀ i : Fin 8, s.classes[i].covers it = false) :
    s.classOf it = unmatchedClass := by
  have hnone : (s.classes.toList.find? fun e => e.covers it) = none := List.find?_eq_none.mpr fun e he => by
    obtain ⟨i, hi, rfl⟩ := List.mem_iff_getElem.mp he
    simpa using h ⟨i, by simpa using hi⟩
  rw [State.classOf, hnone]

/-! ### The seven steps (R113, R114) -/

theorem onLoan_iff (s : State) (i : ItemNo) : s.onLoan i = true ↔ ∃ l ∈ s.loans, l.item = i := by
  simp [State.onLoan]

/-- The steps that follow the first three: of an item whose class asks for a check and whose tag does not say ISSUED. -/
theorem judgeOutward_of_check {s : State} {it : Item} {c : ItemClass} (hc : c.action = .check) (hi : it.issued = false) :
    s.judgeOutward it c =
      if s.onLoan it.item && !c.guarded then some ⟨.pass, .onLoanList⟩
      else if c.noQuery then some ⟨.alarm, .notIssued⟩
      else if !s.linked then some ⟨if c.fallbackPass then .pass else .alarm, .standalone⟩
      else none := by
  simp [State.judgeOutward, hc, hi]

/-! ### One item (R112, R113, R115) -/

theorem judgeItem_inward {s : State} {r : ItemRef} {it : Item} (hit : s.item? r = some it) {d : Direction}
    (hd : d.outward = false) : s.judgeItem d r = s.giveVerdict r .notJudged .direction := by
  unfold State.judgeItem
  rw [hit]
  dsimp only
  rw [if_neg (by simp [hd])]

theorem judgeItem_outward {s : State} {r : ItemRef} {it : Item} (hit : s.item? r = some it) {d : Direction}
    (hd : d.outward = true) {c : ItemClass} (hc : it.classFields = some c) :
    (∀ z : Ruling, s.judgeOutward it c = some z → s.judgeItem d r = s.giveVerdict r z.verdict z.reason) ∧
    (s.judgeOutward it c = none → s.judgeItem d r = s.askAbout r) := by
  unfold State.judgeItem
  rw [hit]
  dsimp only
  rw [if_pos hd, hc]
  exact ⟨fun z hz => by simp only [Option.getD_some, hz], fun hz => by simp only [Option.getD_some, hz]⟩

/-- Settles O38: the class table entry by entry, the seven steps in their order, and one item's judging by its direction. -/
theorem itemsAreJudgedInSteps : Obligations.ItemsAreJudgedInSteps := by
  intro s it
  refine ⟨fun i => covers_iff _ it, fun i hi hlow => classOf_of_lowest hi hlow, classOf_of_none,
    fun c => ⟨fun hc => by simp [State.judgeOutward, hc], fun hc => by simp [State.judgeOutward, hc],
      fun hc hi => by simp [State.judgeOutward, hc, hi], fun hc hi => ?_⟩, fun r d hit => ⟨fun hd => ?_, ?_⟩⟩
  · rw [judgeOutward_of_check hc hi, ← onLoan_iff]
    refine ⟨fun ⟨hloan, hguard⟩ => by simp [hloan, hguard], fun hnot => ?_⟩
    have hstep : ¬(s.onLoan it.item && !c.guarded) = true := by simpa using hnot
    rw [if_neg hstep]
    exact ⟨fun hq => by simp [hq], fun hq hl => by simp [hq, hl], fun hq hl => by simp [hq, hl]⟩
  · exact judgeItem_inward hit ((not_outward_iff d).mpr hd)
  · intro c hc hd
    obtain ⟨hdecided, hasked⟩ := judgeItem_outward hit ((outward_iff d).mpr hd) hc
    exact ⟨fun v z h => hdecided ⟨v, z⟩ h, hasked⟩

end Sys2Proof.Machine
end

section
/-! SUPPORT. Alarms of a passage and the expiry of an alarm timer (06, section 6.5; 08). -/

namespace Sys2Proof.Machine

/-! ### Alarms of a passage (R118, R119, R138, R139) -/

/-- A lane made SOUNDING for ALARM_TIME (R138, R139). -/
theorem triggerLane_eq (s : State) (k : Lane) : s.triggerLane k =
    { s with alarms := s.alarms.set k ⟨.sounding, some (s.gateTime + BitVec.ofNat 32
      ((if s.params.alarmTime = 0 then 256 else s.params.alarmTime) * 100))⟩ } := by
  have hload : s.params.alarmLoad = (if s.params.alarmTime = 0 then 256 else s.params.alarmTime) * 100 := by
    unfold Params.alarmLoad
    split <;> rfl
  unfold State.triggerLane State.setAlarm after
  rw [hload]

/-- A later alarm of a passage sounds its lane and no more (R118). -/
theorem passageAlarm_of_marked {s : State} {p : Passage} {j : Judging} (hp : s.passage? p.number = some p)
    (hj : p.judging = some j) (hm : j.mark = true) (reason : Reason) (item : Option ItemNo) :
    s.passageAlarm p.number reason item = if p.flags.countOnly then s else s.triggerLane p.lane := by
  unfold State.passageAlarm
  rw [hp]
  simp [hj, hm]

/-- The first alarm of a passage is marked and counted besides, and has its notice (R118, R119). -/
theorem passageAlarm_of_unmarked {s : State} {p : Passage} {j : Judging} (hp : s.passage? p.number = some p)
    (hj : p.judging = some j) (hm : j.mark = false) (reason : Reason) (item : Option ItemNo) :
    s.passageAlarm p.number reason item =
      if p.flags.countOnly then s.firstAlarm p reason item else (s.firstAlarm p reason item).triggerLane p.lane := by
  unfold State.passageAlarm
  rw [hp]
  simp [hj, hm]

/-- A change of the record of one number, written as the statements write it. -/
theorem modPassage_eq (s : State) (n : Nat) (f : Passage → Passage) :
    s.modPassage n f = { s with passages := s.passages.map fun p => if p.number = n then f p else p } := by
  simp only [State.modPassage, beq_iff_eq]

/-- Mark, count and, unless the passage is COUNT_ONLY, the notice (R118, R119). -/
theorem firstAlarm_eq (s : State) (p : Passage) (reason : Reason) (item : Option ItemNo) :
    s.firstAlarm p reason item =
      let first : State := { s with
        passages := s.passages.map (fun (q : Passage) => if q.number = p.number then
          { q with judging := q.judging.map fun x => { x with mark := true } } else q),
        counts := modAt s.counts p.lane (fun c => { c with withAlarm := min (c.withAlarm + 1) 4294967295 }) }
      if p.flags.countOnly then first else first.queueNotice (alarmNoticeBody p.lane p.number reason item) := by
  unfold State.firstAlarm
  rw [modPassage_eq]
  rfl

/-! ### The alarm timer's expiry (R140, R147) -/

/-- A line followed is active exactly when it is driven (R147). -/
theorem follow_active (l : LineState) (driven : Bool) (now : Time) (keeps : Resume → Bool) :
    (l.follow driven now keeps).active = driven := by
  cases hl : l.active <;> cases driven
  · rw [follow_of_agrees _ _ _ _ hl, hl]
  · unfold LineState.follow
    rw [hl]
    dsimp only
    split
    · split <;> rfl
    · rfl
  · rw [follow_of_left _ _ _ hl]
  · rw [follow_of_agrees _ _ _ _ hl, hl]

/-- And its test goes on. -/
theorem follow_test (l : LineState) (driven : Bool) (now : Time) (keeps : Resume → Bool) :
    (l.follow driven now keeps).test = l.test := by
  unfold LineState.follow
  split
  · split
    · split <;> rfl
    · rfl
  · rfl
  · rfl

/-- Whether a line is driven depends on no line but for its own test. -/
theorem lineDriven_of_lines (s : State) (lines : Vector LineState 6) (l : OutLine)
    (h : lines[l].test = s.lines[l].test) : ({ s with lines := lines } : State).lineDriven l = s.lineDriven l := by
  unfold State.lineDriven
  rw [h]
  rfl

theorem lineDriven_recomputeLines (s : State) (l : OutLine) : s.recomputeLines.lineDriven l = s.lineDriven l := by
  refine lineDriven_of_lines s _ l ?_
  exact (congrArg LineState.test (recomputeLines_line s l)).trans (follow_test ..)

/-- Lines computed afresh agree with their sources (R147). -/
theorem recomputeLines_agrees (s : State) (l : OutLine) :
    s.recomputeLines.lines[l].active = s.recomputeLines.lineDriven l := by
  rw [lineDriven_recomputeLines, recomputeLines_line, follow_active]

/-- A note of the phase changes neither activity nor test. -/
theorem noteLapse_frame (old new : LineState) (k : Lane) :
    (old.noteLapse new k).active = new.active ∧ (old.noteLapse new k).test = new.test := by
  unfold LineState.noteLapse
  split <;> exact ⟨rfl, rfl⟩

/-- Of a line that stays active nothing is noted. -/
theorem noteLapse_of_active (old new : LineState) (k : Lane) (h : new.active = true) : old.noteLapse new k = new := by
  simp [LineState.noteLapse, h]

/-- Of a line that becomes inactive its phase is noted if it is PULSED (R138). -/
theorem noteLapse_of_left (old new : LineState) (k : Lane) (h : old.active = true) (hnew : new.active = false) :
    old.noteLapse new k =
      if old.pulsed = true then { new with resume := some ⟨k, old.level, old.pulse⟩ } else new := by
  simp [LineState.noteLapse, h, hnew]

/-- What an alarm timer's expiry leaves in a line: what follows its activity, with a note of the phase where ALARM_LATCH is 0. -/
theorem alarmTimerExpiry_line {s : State} {k : Lane} (h : fires s.alarms[k].timer s.gateTime = true) :
    let u := s.setAlarm k ⟨if s.params.alarmLatch then .latched else .quiet, none⟩
    alarmTimerExpiry k s = { u with lines := (alarmTimerExpiry k s).lines } ∧ ∀ l : OutLine,
      (alarmTimerExpiry k s).lines[l] =
        let new := s.lines[l].follow (u.lineDriven l) s.gateTime (u.retriggered l)
        if s.params.alarmLatch then new else s.lines[l].noteLapse new k := by
  unfold alarmTimerExpiry
  rw [if_pos h]
  dsimp only
  cases s.params.alarmLatch with
  | true => exact ⟨rfl, fun l => recomputeLines_line _ l⟩
  | false =>
    refine ⟨rfl, fun l => (perLine_getElem _ l).trans ?_⟩
    exact congrArg (s.lines[l].noteLapse · k) (recomputeLines_line (s.setAlarm k _) l)

/-- Settles O39: the alarm by whether the passage is marked; the expiry by what it leaves in each line. -/
theorem alarmsSoundAndEnd : Obligations.AlarmsSoundAndEnd := by
  refine ⟨fun s p j reason item hp hj => ⟨fun hm => ?_, fun hm => ?_⟩, fun s k h => ?_⟩
  · rw [passageAlarm_of_marked hp hj hm, triggerLane_eq]
  · rw [passageAlarm_of_unmarked hp hj hm, firstAlarm_eq, triggerLane_eq]
    cases p.flags.countOnly with
    | true => rfl
    | false =>
      have hframe := queueNotice_frame { s with
        passages := s.passages.map (fun (q : Passage) => if q.number = p.number then
          { q with judging := q.judging.map fun x => { x with mark := true } } else q),
        counts := modAt s.counts p.lane (fun c => { c with withAlarm := min (c.withAlarm + 1) 4294967295 }) }
        (alarmNoticeBody p.lane p.number reason item)
      simp only [Bool.false_eq_true, if_false, hframe.gateTime, hframe.params]
  · obtain ⟨hframe, hline⟩ := alarmTimerExpiry_line h
    dsimp only at hframe hline
    generalize hu : s.setAlarm k ⟨if s.params.alarmLatch then .latched else .quiet, none⟩ = u at hframe hline
    have hactive : ∀ l : OutLine, (alarmTimerExpiry k s).lines[l].active = u.lineDriven l := fun l => by
      rw [hline]
      split
      · exact follow_active ..
      · rw [(noteLapse_frame ..).1, follow_active]
    have htest : ∀ l : OutLine, (alarmTimerExpiry k s).lines[l].test = u.lines[l].test := fun l => by
      subst hu
      rw [hline]
      split
      · exact follow_test ..
      · rw [(noteLapse_frame ..).2, follow_test]
        rfl
    refine ⟨alarmTimerExpiry k s, rfl, by subst hu; exact hframe, fun l => ⟨?_, fun hs ht => ?_, fun ht hs => ?_⟩⟩
    · rw [hactive, hframe, lineDriven_of_lines u _ l (htest l)]
    · have hagrees : s.lines[l].active = u.lineDriven l := by rw [hs, ← hactive, ht]
      rw [hline, follow_of_agrees _ _ _ _ hagrees, noteLapse_of_active _ _ _ hs, ite_self]
    · have hdriven : u.lineDriven l = false := by rw [← hactive, ht]
      rw [hline, hdriven, follow_of_left _ _ _ hs, noteLapse_of_left s.lines[l] _ _ hs rfl]
      generalize s.lines[l] = x
      cases s.params.alarmLatch <;> cases hp : x.pulsed <;> simp [hp]

end Sys2Proof.Machine
end

section
/-! SUPPORT. Messages that arrive when nothing holds them back, and the loan list (06, section 6.3; 09; 10). -/

namespace Sys2Proof.Machine

/-! ### Fields written and read again (R171) -/

@[simp] theorem length_toBytes (n x : Nat) : (toBytes n x).length = n := by
  induction n with
  | zero => rfl
  | succ n ih => simp [toBytes, ih]

theorem foldl_toBytes (n x start : Nat) :
    (toBytes n x).foldl (fun m b => m * 256 + b.toNat) start = start * 256 ^ n + x % 256 ^ n := by
  induction n generalizing start with
  | zero => simp [toBytes, Nat.mod_one]
  | succ n ih =>
    have hsplit : x % 256 ^ (n + 1) = 256 ^ n * (x / 256 ^ n % 256) + x % 256 ^ n := by
      rw [pow_succ, Nat.mod_mul, Nat.add_comm]
    simp only [toBytes, List.foldl_cons, ih, BitVec.toNat_ofNat, hsplit]
    ring

/-- A number of `n` bytes is spelled by the bytes written for it. -/
theorem beNat_toBytes (n x : Nat) : beNat (toBytes n x) = x % 256 ^ n := by
  rw [beNat, foldl_toBytes, Nat.zero_mul, Nat.zero_add]

theorem beNat_itemBytes (i : ItemNo) : BitVec.ofNat 64 (beNat (toBytes 8 i.toNat)) = i := by
  rw [beNat_toBytes, show 256 ^ 8 = 2 ^ 64 by decide, Nat.mod_eq_of_lt i.isLt, BitVec.ofNat_toNat, BitVec.setWidth_eq]

/-- The fields of a LOAN_ADD or LOAN_DROP that carries these numbers. -/
def loanFields (items : List ItemNo) : List Byte := items.flatMap fun i => toBytes 8 i.toNat

theorem length_loanFields (items : List ItemNo) : (loanFields items).length = 8 * items.length := by
  induction items with
  | nil => rfl
  | cons i rest ih =>
    simp only [loanFields, List.flatMap_cons, List.length_append, length_toBytes, List.length_cons] at ih ⊢
    omega

/-- A message's item numbers are those it was written from (R175). -/
theorem itemNumbers_loanFields (items : List ItemNo) : itemNumbers (loanFields items) = items := by
  unfold itemNumbers
  rw [length_loanFields, Nat.mul_div_cancel_left _ (by decide : 0 < 8)]
  induction items with
  | nil => rfl
  | cons i rest ih =>
    have hlen : (toBytes 8 i.toNat).length = 8 := length_toBytes 8 _
    simp only [loanFields, List.flatMap_cons, List.length_cons, pieces, List.map_cons, List.take_left' hlen,
      List.drop_left' hlen, beNat_itemBytes]
    exact congrArg (i :: ·) ih

/-! ### A message that nothing holds back (R158, R161, R164) -/

/-- One waiting frame that nothing holds back is taken. -/
theorem takeWaiting_of_one {t : State} {body : Body} (hb : t.buffers = [body]) (hr : t.reply = none)
    (hp : t.restartPending = false) : t.takeWaiting = { t with buffers := [] }.takeFrame body := by
  simp [State.takeWaiting, takeFrames, hb, hr, hp]

/-- A frame that arrives when nothing holds it back is taken at once. -/
theorem receive_of_ready {s : State} (h : s.ready) (body : Body) : s.receive body = s.heard.takeFrame body := by
  obtain ⟨hbuffers, hreply, hrestart⟩ := h
  have hheard : s.heard.buffers = [] ∧ s.heard.reply = none ∧ s.heard.restartPending = false := by
    unfold State.heard
    split <;> exact ⟨hbuffers, hreply, hrestart⟩
  have harrive : s.arrive body = { s.heard with buffers := [body] } := by
    unfold State.arrive State.heard State.silenceRestarted
    simp only [hbuffers]
    cases s.linked <;> rfl
  unfold State.receive
  rw [harrive]
  generalize s.heard = t at hheard
  obtain ⟨hb, hr, hp⟩ := hheard
  rw [takeWaiting_of_one (t := { t with buffers := [body] }) rfl hr hp, ← hb]

/-- Being heard changes nothing but link, silence timer and lines. -/
theorem heard_eq (s : State) :
    s.heard = { s with linked := true, silence := s.silenceRestarted, lines := s.heard.lines } := by
  unfold State.heard
  split <;> rfl

/-- A command of an allowed length that draws a REPLY. -/
theorem takeFrame_of_command {s : State} {k : Kind} {fields : List Byte} (hkind : kindOf k.code = some k)
    (hlen : k.lengthOk fields.length = true) (hk : k ≠ .answer) :
    s.takeFrame (k.code :: fields) =
      (takeCommand k fields s).state.placeReply
        (replyBody k.code (takeCommand k fields s).result (takeCommand k fields s).data) := by
  unfold State.takeFrame
  simp only [hkind, hlen, if_true, if_neg hk]

/-- A REPLY placed in an empty slot (R161, R164). -/
theorem placeReply_of_empty {s : State} (h : s.reply = none) (kind : Byte) (result : Result) (data : List Byte) :
    s.placeReply (replyBody kind result data) = s.answered kind result data := by
  unfold State.placeReply State.answered State.arbitrateTx
  dsimp only
  cases hs : s.sending with
  | some f => rfl
  | none => rw [h]

/-! ### The loan list (R106 to R108) -/

theorem addLoan_of_held {s : State} {i : ItemNo} (h : ∃ l ∈ s.loans, l.item = i) :
    s.addLoan i = { s with loans := dropLoan s.loans i ++
      [⟨i, s.gateTime, s.gateTime + BitVec.ofNat 32 (s.params.loanLife * 60000)⟩] } := by
  unfold State.addLoan
  rw [if_pos ((onLoan_iff s i).mpr h)]
  rfl

theorem addLoan_of_room {s : State} {i : ItemNo} (h : ¬∃ l ∈ s.loans, l.item = i) (hroom : s.loans.length < 512) :
    s.addLoan i = { s with loans := s.loans ++
      [⟨i, s.gateTime, s.gateTime + BitVec.ofNat 32 (s.params.loanLife * 60000)⟩] } := by
  unfold State.addLoan
  rw [if_neg (mt (onLoan_iff s i).mp h)]
  exact if_pos hroom

theorem addLoan_of_full {s : State} {i : ItemNo} (h : ¬∃ l ∈ s.loans, l.item = i) (hfull : 512 ≤ s.loans.length) :
    s.addLoan i = { s with
      loans := s.loans.drop 1 ++ [⟨i, s.gateTime, s.gateTime + BitVec.ofNat 32 (s.params.loanLife * 60000)⟩],
      device := { s.device with loanEvictions := min (s.device.loanEvictions + 1) 65535 } } := by
  unfold State.addLoan
  rw [if_neg (mt (onLoan_iff s i).mp h)]
  exact if_neg (Nat.not_lt.mpr hfull)

/-- Adding loans leaves the reply slot as it was. -/
theorem reply_foldl_addLoan (items : List ItemNo) (s : State) : (items.foldl State.addLoan s).reply = s.reply := by
  induction items generalizing s with
  | nil => rfl
  | cons i rest ih => rw [List.foldl_cons, ih, addLoan_loans_device]

/-- Numbers dropped one after another are all gone, and nothing else is (R107). -/
theorem foldl_dropLoan (items : List ItemNo) (l : List Loan) :
    items.foldl dropLoan l = l.filter fun x => !items.contains x.item := by
  induction items generalizing l with
  | nil => simp
  | cons i rest ih =>
    rw [List.foldl_cons, ih, dropLoan, List.filter_filter]
    refine List.filter_congr fun x _ => ?_
    rw [List.contains_cons, Bool.not_or, Bool.and_comm]
    rfl

/-- With one entry for each number, a life end reached removes the entry it is of (R108). -/
theorem loanLifeEnd_of_mem {s : State} {l : Loan} (hl : l ∈ s.loans) (hn : (s.loans.map Loan.item).Nodup)
    (hdue : due s.gateTime l.lifeEnd = true) :
    loanLifeEnd l.item s = { s with loans := s.loans.filter fun x => x.item != l.item } := by
  have hsame : ∀ x ∈ s.loans, (!(x.item == l.item && due s.gateTime x.lifeEnd)) = (x.item != l.item) := fun x hx => by
    by_cases hitem : x.item = l.item
    · rw [List.inj_on_of_nodup_map hn hx hl hitem, hdue]
      simp
    · rw [beq_false_of_ne hitem, bne_iff_ne.mpr hitem]
      rfl
  unfold loanLifeEnd
  rw [List.filter_congr hsame]

/-- A message that is heard and taken as a command in a state with an empty reply slot is answered. -/
theorem receive_of_command {s : State} (h : s.ready) {k : Kind} {fields : List Byte} (hkind : kindOf k.code = some k)
    (hlen : k.lengthOk fields.length = true) (hk : k ≠ .answer)
    (hreply : (takeCommand k fields s.heard).state.reply = s.heard.reply) :
    s.receive (k.code :: fields) = (takeCommand k fields s.heard).state.answered k.code
      (takeCommand k fields s.heard).result (takeCommand k fields s.heard).data := by
  have hempty : s.heard.reply = none := by
    rw [heard_eq]
    exact h.2.1
  rw [receive_of_ready h, takeFrame_of_command hkind hlen hk, placeReply_of_empty (hreply.trans hempty)]

theorem lengthOk_loanFields {items : List ItemNo} (hlow : 1 ≤ items.length) (hhigh : items.length ≤ 16) :
    Kind.loanAdd.lengthOk (loanFields items).length = true ∧ Kind.loanDrop.lengthOk (loanFields items).length = true := by
  rw [length_loanFields]
  simp only [Kind.lengthOk, Bool.and_eq_true, decide_eq_true_eq, beq_iff_eq]
  omega

/-- Settles O40: the cases of one number added, then each message by what it does to the list, then the life end. -/
theorem loanListChanges : Obligations.LoanListChanges := by
  refine ⟨fun s i => ⟨addLoan_of_held, fun h => ⟨addLoan_of_room h, addLoan_of_full h⟩⟩,
    fun s items h hlow hhigh => ?_, fun s h => ?_, fun s l hl hn hdue => congrArg _ (loanLifeEnd_of_mem hl hn hdue)⟩
  · obtain ⟨hadd, hdrop⟩ := lengthOk_loanFields hlow hhigh
    constructor
    · refine congrArg Host.Outcome.next ?_
      refine (receive_of_command h rfl hadd (by decide) ?_).trans ?_
      · exact reply_foldl_addLoan _ _
      · simp only [takeCommand, takeLoanAdd, itemNumbers_loanFields]
        rfl
    · refine congrArg Host.Outcome.next ((receive_of_command h rfl hdrop (by decide) rfl).trans ?_)
      have hloans : s.heard.loans = s.loans := by rw [heard_eq]
      simp only [takeCommand, takeLoanDrop, itemNumbers_loanFields, foldl_dropLoan, hloans]
      rfl
  · have hcount : toBytes 2 0 = [0, 0] := by decide
    have htaken := receive_of_command (k := .loanClear) (fields := []) h rfl rfl (by decide) rfl
    refine congrArg Host.Outcome.next (htaken.trans ?_)
    exact congrArg (State.answered { s.heard with loans := [] } 0x2A .ok) hcount

end Sys2Proof.Machine
end

section
/-! SUPPORT. What the transmitter's queues do, and one verdict with everything that follows from it (06, section 6.5; 09,
section 9.5). -/

namespace Sys2Proof.Machine

/-! ### Queues of the transmitter (R164 to R166) -/

/-- Nothing waits for a transmitter that is FREE (R164). -/
def State.TxIdle (s : State) : Prop :=
  s.sending = none → s.reply = none ∧ s.pendingSlots = [] ∧ s.notices = [] ∧ s.reports = []

theorem txIdle_of_linkLaw {s : State} (h : s.linkLaw) : s.TxIdle := by
  obtain ⟨-, -, -, hidle, -⟩ := h
  exact hidle

theorem arbitrateTx_of_busy {s : State} {f : Sending} (h : s.sending = some f) : s.arbitrateTx = s := by
  unfold State.arbitrateTx
  rw [h]


/-- A FREE transmitter with no reply and no question to send sends the first notice (R164). -/
theorem arbitrateTx_of_notice {s : State} (h : s.sending = none) (hreply : s.reply = none) (hq : s.pendingSlots = [])
    {b : Body} {rest : List Body} (hb : s.notices = b :: rest) :
    s.arbitrateTx = { s with sending := some ⟨frameOf b, false⟩, notices := rest } := by
  unfold State.arbitrateTx
  rw [h, hreply, hq, hb]
  rfl

/-- And with no notice the first report (R164). -/
theorem arbitrateTx_of_report {s : State} (h : s.sending = none) (hreply : s.reply = none) (hq : s.pendingSlots = [])
    (hn : s.notices = []) {b : Body} {rest : List Body} (hb : s.reports = b :: rest) :
    s.arbitrateTx = { s with sending := some ⟨frameOf b, false⟩, reports := rest } := by
  unfold State.arbitrateTx
  rw [h, hreply, hq, hn, hb]
  rfl

/-- Two states with the same questions have the same PENDING slots. -/
theorem pendingSlots_congr {s t : State} (h : t.slots = s.slots) : t.pendingSlots = s.pendingSlots := by
  rw [State.pendingSlots, h]
  rfl

theorem queueNotice_of_full {s : State} (h : ¬s.notices.length < Config.maxNotices) (b : Body) :
    s.queueNotice b = s.modDevice fun d => { d with noticesLost := bump d.noticesLost } :=
  if_neg h

theorem queueReport_of_full {s : State} (h : ¬s.reports.length < Config.maxReports) (b : Body) :
    s.queueReport b = s.modDevice fun d => { d with reportsLost := bump d.reportsLost } :=
  if_neg h

theorem queueNotice_of_busy {s : State} {f : Sending} (h : s.sending = some f) (b : Body) :
    s.queueNotice b = if s.notices.length < Config.maxNotices then { s with notices := s.notices ++ [b] }
      else s.modDevice fun d => { d with noticesLost := bump d.noticesLost } := by
  unfold State.queueNotice
  rw [arbitrateTx_of_busy (s := { s with notices := s.notices ++ [b] }) h]

theorem queueReport_of_busy {s : State} {f : Sending} (h : s.sending = some f) (b : Body) :
    s.queueReport b = if s.reports.length < Config.maxReports then { s with reports := s.reports ++ [b] }
      else s.modDevice fun d => { d with reportsLost := bump d.reportsLost } := by
  unfold State.queueReport
  rw [arbitrateTx_of_busy (s := { s with reports := s.reports ++ [b] }) h]

/-- A notice queued for a FREE transmitter is sent at once (R164). -/
theorem queueNotice_of_free {s : State} (hs : s.TxIdle) (h : s.sending = none) (b : Body) :
    s.queueNotice b = { s with sending := some ⟨frameOf b, false⟩ } := by
  obtain ⟨hreply, hasked, hnotices, -⟩ := hs h
  unfold State.queueNotice
  rw [if_pos (by simp [hnotices, Config.maxNotices]),
    arbitrateTx_of_notice (s := { s with notices := s.notices ++ [b] }) h hreply hasked (congrArg (· ++ [b]) hnotices),
    ← hnotices]

/-- So is a report (R164). -/
theorem queueReport_of_free {s : State} (hs : s.TxIdle) (h : s.sending = none) (b : Body) :
    s.queueReport b = { s with sending := some ⟨frameOf b, false⟩ } := by
  obtain ⟨hreply, hasked, hnotices, hreports⟩ := hs h
  unfold State.queueReport
  rw [if_pos (by simp [hreports, Config.maxReports]),
    arbitrateTx_of_report (s := { s with reports := s.reports ++ [b] }) h hreply hasked hnotices
      (congrArg (· ++ [b]) hreports), ← hreports]

theorem State.TxIdle.of_sending {s : State} (h : s.sending ≠ none) : s.TxIdle := fun hnone => absurd hnone h

theorem sending_queueNotice {s : State} (hs : s.TxIdle) (b : Body) : (s.queueNotice b).sending ≠ none := by
  cases h : s.sending with
  | none => simp [queueNotice_of_free hs h]
  | some f =>
    rw [queueNotice_of_busy h]
    split <;> simp [h]

theorem sending_queueReport {s : State} (hs : s.TxIdle) (b : Body) : (s.queueReport b).sending ≠ none := by
  cases h : s.sending with
  | none => simp [queueReport_of_free hs h]
  | some f =>
    rw [queueReport_of_busy h]
    split <;> simp [h]

/-! ### What the queues do not look at -/

/-- A state with the records, counts and alarms of its lanes replaced. -/
def State.withLanes (s : State) (passages : List Passage) (counts : Vector LaneCounts 4) (alarms : Vector LaneAlarm 4) :
    State :=
  { s with passages := passages, counts := counts, alarms := alarms }

section WithLanes
variable (s : State) (passages : List Passage) (counts : Vector LaneCounts 4) (alarms : Vector LaneAlarm 4)

theorem arbitrateTx_withLanes :
    (s.withLanes passages counts alarms).arbitrateTx = s.arbitrateTx.withLanes passages counts alarms := by
  have hpending : (s.withLanes passages counts alarms).pendingSlots = s.pendingSlots := rfl
  unfold State.arbitrateTx
  rw [hpending]
  simp only [State.withLanes]
  split
  · rfl
  · split
    · rfl
    · split
      · rfl
      · split <;> rfl

theorem queueNotice_withLanes (b : Body) :
    (s.withLanes passages counts alarms).queueNotice b = (s.queueNotice b).withLanes passages counts alarms := by
  by_cases h : s.notices.length < Config.maxNotices
  · calc (s.withLanes passages counts alarms).queueNotice b
        = (State.withLanes { s with notices := s.notices ++ [b] } passages counts alarms).arbitrateTx := if_pos h
      _ = State.withLanes (State.arbitrateTx { s with notices := s.notices ++ [b] }) passages counts alarms :=
          arbitrateTx_withLanes ..
      _ = (s.queueNotice b).withLanes passages counts alarms :=
          congrArg (State.withLanes · passages counts alarms) (if_pos h).symm
  · rw [queueNotice_of_full h, queueNotice_of_full (s := s.withLanes passages counts alarms) h]
    rfl

theorem queueReport_withLanes (b : Body) :
    (s.withLanes passages counts alarms).queueReport b = (s.queueReport b).withLanes passages counts alarms := by
  by_cases h : s.reports.length < Config.maxReports
  · calc (s.withLanes passages counts alarms).queueReport b
        = (State.withLanes { s with reports := s.reports ++ [b] } passages counts alarms).arbitrateTx := if_pos h
      _ = State.withLanes (State.arbitrateTx { s with reports := s.reports ++ [b] }) passages counts alarms :=
          arbitrateTx_withLanes ..
      _ = (s.queueReport b).withLanes passages counts alarms :=
          congrArg (State.withLanes · passages counts alarms) (if_pos h).symm
  · rw [queueReport_of_full h, queueReport_of_full (s := s.withLanes passages counts alarms) h]
    rfl

end WithLanes

/-! ### One record replaced -/

/-- The table with the record of a number replaced. -/
def replaceRecord (l : List Passage) (p : Passage) : List Passage := l.map fun x => if x.number = p.number then p else x

/-- With one record for each number, to change it is to replace it. -/
theorem modPassage_eq_replace {s : State} (hn : s.numbers.Nodup) {n : Nat} {p : Passage} (hp : s.passage? n = some p)
    (f : Passage → Passage) (hf : (f p).number = n) :
    s.modPassage n f = { s with passages := replaceRecord s.passages (f p) } := by
  obtain ⟨hmem, hnumber⟩ := passage?_mem hp
  rw [modPassage_eq]
  congr 1
  refine List.map_congr_left fun x hx => ?_
  rw [hf]
  by_cases hxn : x.number = n
  · rw [List.inj_on_of_nodup_map hn hx hmem (hxn.trans hnumber.symm)]
  · rw [if_neg hxn, if_neg hxn]

theorem replaceRecord_replaceRecord (l : List Passage) {p q : Passage} (h : q.number = p.number) :
    replaceRecord (replaceRecord l p) q = replaceRecord l q := by
  unfold replaceRecord
  rw [List.map_map]
  refine List.map_congr_left fun x _ => ?_
  by_cases hx : x.number = p.number <;> simp [hx, h]

theorem map_number_replaceRecord (l : List Passage) (p : Passage) :
    (replaceRecord l p).map Passage.number = l.map Passage.number := by
  unfold replaceRecord
  rw [List.map_map]
  refine List.map_congr_left fun x _ => ?_
  by_cases hx : x.number = p.number <;> simp [hx]

theorem filter_replaceRecord (l : List Passage) (p : Passage) :
    (replaceRecord l p).filter (fun x => x.number != p.number) = l.filter fun x => x.number != p.number := by
  induction l with
  | nil => rfl
  | cons x l ih =>
    simp only [replaceRecord, List.map_cons, List.filter_cons] at ih ⊢
    by_cases hx : x.number = p.number <;> simp [hx, ih]

theorem passage?_replaceRecord {s t : State} {p x : Passage} (hx : s.passage? p.number = some x)
    (ht : t.passages = replaceRecord s.passages p) : t.passage? p.number = some p := by
  have hsame : t.passage? p.number = (s.modPassage p.number fun _ => p).passage? p.number := by
    rw [State.passage?, ht, modPassage_eq]
    rfl
  obtain ⟨-, hn⟩ := passage?_mem hx
  rw [hsame, modPassage_eq]
  unfold State.passage? at hx ⊢
  rw [List.find?_map]
  have hsel : ((fun q : Passage => q.number == p.number) ∘ fun q => if q.number = p.number then p else q) =
      fun q => q.number == p.number := by
    funext q
    by_cases hq : q.number = p.number <;> simp [hq]
  rw [hsel, hx, Option.map_some, if_pos hn]

/-! ### One verdict (R117, R118) -/

/-- A record with the verdict of one of its items written, and its items without verdict counted down. -/
def Passage.written (p : Passage) (g : Judging) (i : Nat) (it : Item) (z : Ruling) : Passage :=
  { p with items := p.items.set i { it with ruling := some z }, judging := some ⟨g.mark, g.undecided - 1⟩ }

/-- And with the mark of an alarm besides. -/
def Passage.ruled (p : Passage) (g : Judging) (i : Nat) (it : Item) (v : Verdict) (reason : Reason) : Passage :=
  { p with items := p.items.set i { it with ruling := some ⟨v, reason⟩ },
           judging := some ⟨g.mark || v == .alarm, g.undecided - 1⟩ }

theorem modify_eq_set {α : Type} {l : List α} {i : Nat} {a : α} (h : l[i]? = some a) (f : α → α) :
    l.modify i f = l.set i (f a) := by
  rw [List.modify_eq_set_getElem?, h]
  rfl

/-- The count of alarms after an item's verdict (R118). -/
def State.countsRuled (s : State) (p : Passage) (g : Judging) (v : Verdict) : Vector LaneCounts 4 :=
  if v = .alarm ∧ g.mark = false then
    modAt s.counts p.lane (fun x => { x with withAlarm := min (x.withAlarm + 1) 4294967295 })
  else s.counts

/-- The lanes that sound after an item's verdict (R118, R138). -/
def State.alarmsRuled (s : State) (p : Passage) (v : Verdict) : Vector LaneAlarm 4 :=
  if v = .alarm ∧ p.flags.countOnly = false then
    s.alarms.set p.lane ⟨.sounding, some (s.gateTime + BitVec.ofNat 32
      ((if s.params.alarmTime = 0 then 256 else s.params.alarmTime) * 100))⟩
  else s.alarms

/-- The notice that an item's verdict queues (R118, R119). -/
def State.noticed (s : State) (p : Passage) (g : Judging) (it : Item) (v : Verdict) (reason : Reason) : State :=
  if v = .alarm ∧ g.mark = false ∧ p.flags.countOnly = false then
    s.queueNotice (alarmNoticeBody p.lane p.number reason (some it.item)) else s

theorem noticed_withLanes (s : State) (passages : List Passage) (counts : Vector LaneCounts 4) (alarms : Vector LaneAlarm 4)
    (p : Passage) (g : Judging) (it : Item) (v : Verdict) (reason : Reason) :
    (s.withLanes passages counts alarms).noticed p g it v reason =
      (s.noticed p g it v reason).withLanes passages counts alarms := by
  unfold State.noticed
  split
  · exact queueNotice_withLanes ..
  · rfl

/-- The report of a passage with its last verdict (R121). -/
def State.reported (s : State) (g : Judging) (done : Passage) : State :=
  if g.undecided ≤ 1 then s.queueReport (reportBody done) else s

/-- What a verdict leaves of the table: the record without its item, or no record (R121, R22). -/
def State.tableRuled (s : State) (g : Judging) (done : Passage) : List Passage :=
  if g.undecided ≤ 1 then s.passages.filter (fun x => x.number != done.number) else replaceRecord s.passages done

section Ruled
variable {s : State} {r : ItemRef} {p : Passage} {g : Judging} {it : Item}

theorem decide_eq (hg : p.judging = some g) (hit : p.items[r.position]? = some it) (v : Verdict) (reason : Reason) :
    p.decide r.position ⟨v, reason⟩ = p.written g r.position it ⟨v, reason⟩ := by
  simp only [Passage.written, Passage.decide, Passage.countOff, Passage.modItem, modify_eq_set hit, hg, Option.map_some]

/-- An alarm of a passage, by what it leaves of records, counts, alarms and queues (R118). -/
theorem passageAlarm_eq (hn : s.numbers.Nodup) (hp : s.passage? p.number = some p) (hg : p.judging = some g)
    (reason : Reason) :
    s.passageAlarm p.number reason (some it.item) =
      (s.noticed p g it .alarm reason).withLanes
        (replaceRecord s.passages { p with judging := some ⟨true, g.undecided⟩ })
        (s.countsRuled p g .alarm) (s.alarmsRuled p .alarm) := by
  cases hm : g.mark with
  | true =>
    have hsame : replaceRecord s.passages { p with judging := some ⟨true, g.undecided⟩ } = s.passages := by
      have hrec : ({ p with judging := some ⟨true, g.undecided⟩ } : Passage) = p := by
        rw [← hm, ← hg]
      rw [hrec]
      refine (List.map_congr_left fun x hx => ?_).trans (List.map_id _)
      split
      next h => exact List.inj_on_of_nodup_map hn (passage?_mem hp).1 hx h.symm
      next => rfl
    rw [passageAlarm_of_marked hp hg hm, triggerLane_eq, hsame]
    cases hc : p.flags.countOnly <;> simp [State.noticed, State.countsRuled, State.alarmsRuled, State.withLanes, hm, hc]
  | false =>
    have hmarked := modPassage_eq_replace hn hp
      (fun q => { q with judging := q.judging.map fun x => { x with mark := true } }) rfl
    rw [passageAlarm_of_unmarked hp hg hm]
    unfold State.firstAlarm
    rw [hmarked, hg]
    have hlanes : (({ s with passages := replaceRecord s.passages { p with judging := some ⟨true, g.undecided⟩ } } : State).modCounts
        p.lane fun c => { c with withAlarm := raise c.withAlarm 1 }) =
        s.withLanes (replaceRecord s.passages { p with judging := some ⟨true, g.undecided⟩ }) (s.countsRuled p g .alarm)
          s.alarms := by
      simp only [State.countsRuled, hm, and_self, if_true]
      rfl
    have hq := queueNotice_frame s (alarmNoticeBody p.lane p.number reason (some it.item))
    dsimp only [Option.map_some]
    rw [hlanes, queueNotice_withLanes]
    cases hc : p.flags.countOnly with
    | true => simp [State.noticed, State.alarmsRuled, hc]
    | false =>
      simp only [Bool.false_eq_true, if_false, triggerLane_eq, State.noticed, State.alarmsRuled, hm, hc, and_self, if_true,
        State.withLanes, hq.gateTime, hq.params]

theorem ruled_eq_written {v : Verdict} (hv : v ≠ .alarm) (i : Nat) (reason : Reason) :
    p.ruled g i it v reason = p.written g i it ⟨v, reason⟩ := by
  simp [Passage.ruled, Passage.written, hv]

/-- A verdict for an item without one, by what it leaves of records, counts, alarms and queues (R117, R118). -/
theorem giveVerdict_eq (hn : s.numbers.Nodup) (hp : s.passage? r.passage = some p) (hg : p.judging = some g)
    (hit : p.items[r.position]? = some it) (hr : it.ruling = none) (v : Verdict) (reason : Reason) :
    s.giveVerdict r v reason = (s.noticed p g it v reason).withLanes
      (replaceRecord s.passages (p.ruled g r.position it v reason)) (s.countsRuled p g v) (s.alarmsRuled p v) := by
  obtain ⟨hmem, hnumber⟩ := passage?_mem hp
  rw [giveVerdict_of_unruled ((item?_of_passage hp).trans hit) hr,
    modPassage_eq_replace hn hp _ (hnumber ▸ Passage.decide_number ..), decide_eq hg hit]
  dsimp only
  by_cases hv : v = .alarm
  · subst hv
    have hfound : ({ s with passages := replaceRecord s.passages (p.written g r.position it ⟨.alarm, reason⟩) } : State).passage?
        p.number = some (p.written g r.position it ⟨.alarm, reason⟩) :=
      passage?_replaceRecord (s := s) (p := p.written g r.position it ⟨.alarm, reason⟩) (hnumber ▸ hp) rfl
    have hn' : ({ s with passages := replaceRecord s.passages (p.written g r.position it ⟨.alarm, reason⟩) } :
        State).numbers.Nodup := by
      rw [State.numbers, map_number_replaceRecord]
      exact hn
    have hruled : p.ruled g r.position it .alarm reason =
        { p.written g r.position it ⟨.alarm, reason⟩ with judging := some ⟨true, g.undecided - 1⟩ } := by
      simp [Passage.ruled, Passage.written]
    rw [if_pos rfl, ← hnumber]
    refine (passageAlarm_eq (p := p.written g r.position it ⟨.alarm, reason⟩) hn' hfound rfl reason).trans ?_
    dsimp only
    rw [replaceRecord_replaceRecord _ (by rfl), hruled]
    exact (congrArg (State.withLanes · _ (s.countsRuled p g .alarm) (s.alarmsRuled p .alarm))
      (noticed_withLanes s _ s.counts s.alarms p g it .alarm reason)).trans rfl
  · rw [if_neg hv, ruled_eq_written hv]
    simp [hv, State.noticed, State.countsRuled, State.alarmsRuled, State.withLanes]

/-- A verdict and the completion it may bring (R117, R121). -/
theorem decideAndComplete (hn : s.numbers.Nodup) (hp : s.passage? r.passage = some p) (hphase : p.phase = .judging)
    (hg : p.judging = some g) (hit : p.items[r.position]? = some it) (hr : it.ruling = none) (v : Verdict) (reason : Reason) :
    (s.giveVerdict r v reason).completeIfDone r.passage =
      let done := p.ruled g r.position it v reason
      ((s.noticed p g it v reason).reported g done).withLanes (s.tableRuled g done) (s.countsRuled p g v)
        (s.alarmsRuled p v) := by
  obtain ⟨hmem, hnumber⟩ := passage?_mem hp
  rw [giveVerdict_eq hn hp hg hit hr]
  generalize hdone : p.ruled g r.position it v reason = done
  have hnum : done.number = r.passage := by rw [← hdone]; exact hnumber
  have hj : done.judging = some ⟨g.mark || v == .alarm, g.undecided - 1⟩ := by rw [← hdone]; rfl
  have hph : done.phase = .judging := by rw [← hdone]; exact hphase
  have hfound : ((s.noticed p g it v reason).withLanes (replaceRecord s.passages done) (s.countsRuled p g v)
      (s.alarmsRuled p v)).passage? r.passage = some done := by
    rw [← hnum]
    exact passage?_replaceRecord (s := s) (hnum ▸ hp) rfl
  unfold State.completeIfDone
  rw [hfound]
  dsimp only
  rw [hph, hj]
  have hlast : (Phase.judging = Phase.judging ∧
      (some (⟨g.mark || v == .alarm, g.undecided - 1⟩ : Judging)).map (·.undecided) = some 0) ↔ g.undecided ≤ 1 := by
    simp
    omega
  by_cases hle : g.undecided ≤ 1
  · rw [if_pos (hlast.mpr hle), queueReport_withLanes]
    simp only [State.reported, State.tableRuled, if_pos hle]
    unfold State.freePassage State.withLanes
    rw [← hnum]
    dsimp only
    rw [filter_replaceRecord]
  · rw [if_neg (mt hlast.mp hle)]
    simp only [State.reported, State.tableRuled, if_neg hle]

end Ruled

end Sys2Proof.Machine
end

section
/-! SUPPORT. Query slots: taking and handing on, the end of a question, answers (07). -/

namespace Sys2Proof.Machine

/-! ### Taking a slot (R124, R126, R127) -/

theorem freeSlot?_of_lowest {s : State} {j : SlotNo} (hj : s.slots[j] = none)
    (hlow : ∀ i : SlotNo, i < j → s.slots[i] ≠ none) :
    s.freeSlot? = some j := by
  have hpos : allSlots[j.val]? = some j := by fin_cases j <;> rfl
  obtain ⟨hlt, hget⟩ := List.getElem?_eq_some_iff.mp hpos
  refine List.find?_eq_some_iff_getElem.mpr ⟨by simp [hj], j.val, hlt, hget, fun i hi => ?_⟩
  have hi4 : i < 4 := by omega
  have hslot : allSlots[i] = ⟨i, hi4⟩ := by
    interval_cases i <;> rfl
  have hsome : s.slots[(⟨i, hi4⟩ : SlotNo)].isSome = true := Option.isSome_iff_ne_none.mpr (hlow ⟨i, hi4⟩ hi)
  have hkeep (x : SlotNo) (hx : x = ⟨i, hi4⟩) : (!s.slots[x].isNone) = true := by
    rw [hx, ← Option.not_isSome, hsome]
    rfl
  exact hkeep _ hslot

theorem freeSlot?_of_full {s : State} (h : ∀ j : SlotNo, s.slots[j] ≠ none) : s.freeSlot? = none :=
  (freeSlot?_eq_none_iff s).mpr fun j hj => h j (Option.map_eq_none_iff.mp hj)

theorem askAbout_of_free {s : State} {j : SlotNo} (h : s.freeSlot? = some j) (r : ItemRef) :
    s.askAbout r = s.takeSlot r j := by
  rw [State.askAbout, h]

theorem askAbout_of_full {s : State} (h : s.freeSlot? = none) (r : ItemRef) :
    s.askAbout r = { s with waiting := s.waiting ++ [r] } := by
  rw [State.askAbout, h]

/-- The earliest of a list with one element is that element. -/
theorem earliestQuestion_of_unique {l : List (SlotNo × Question)} {x : SlotNo × Question} (h : ∀ y, y ∈ l ↔ y = x) :
    earliestQuestion l = some x := by
  obtain ⟨y, hy⟩ : ∃ y, earliestQuestion l = some y := by
    cases l with
    | nil => exact absurd ((h x).mpr rfl) List.not_mem_nil
    | cons y ys => exact ⟨_, rfl⟩
  rw [hy, (h y).mp (earliestQuestion_mem hy)]

/-- A FREE transmitter with one question to send sends it (R164). -/
theorem arbitrateTx_of_question {s : State} (h : s.sending = none) (hreply : s.reply = none) {j : SlotNo} {q : Question}
    (hq : ∀ y, y ∈ s.pendingSlots ↔ y = (j, q)) :
    s.arbitrateTx = { s.setSlot j (some { q with asked := true }) with sending := some ⟨frameOf q.query, false⟩ } := by
  unfold State.arbitrateTx
  rw [h, hreply, earliestQuestion_of_unique hq]

theorem getElem_set_slots (v : Vector (Option Question) 4) (j i : SlotNo) (o : Option Question) :
    (v.set j o)[i] = if j = i then o else v[i] := by
  rw [Fin.getElem_fin, Vector.getElem_set]
  simp [Fin.ext_iff]

/-- A question put into a slot is the only one to send where none was. -/
theorem mem_pendingSlots_putQuestion {s : State} (h : s.pendingSlots = []) (j : SlotNo) {q : Question} (hq : q.asked = false)
    (y : SlotNo × Question) : y ∈ (s.putQuestion j q).pendingSlots ↔ y = (j, q) := by
  obtain ⟨i, x⟩ := y
  rw [mem_pendingSlots]
  have hslots : (s.putQuestion j q).slots = s.slots.set j (some q) := rfl
  rw [hslots, getElem_set_slots]
  constructor
  · rintro ⟨hi, hx⟩
    split at hi
    next hji => cases hi; rw [hji]
    next => exact absurd (h ▸ mem_pendingSlots.mpr ⟨hi, hx⟩) List.not_mem_nil
  · intro heq
    cases heq
    exact ⟨if_pos rfl, hq⟩

/-- A question put into a slot that holds one about the same item. -/
theorem setSlot_putQuestion (s : State) (j : SlotNo) {q x : Question} (h : x.ref = q.ref) :
    (s.putQuestion j q).setSlot j (some x) = s.putQuestion j x := by
  simp only [State.putQuestion, h]
  unfold State.modItem State.modPassage State.setSlot
  rw [Vector.set_set]

/-- An item that takes a slot, by what it leaves: its QUERY sent when the transmitter is FREE, PENDING otherwise (R126, R164). -/
theorem takeSlot_eq {s : State} {r : ItemRef} {p : Passage} {it : Item} (hp : s.passage? r.passage = some p)
    (hit : p.items[r.position]? = some it) (hidle : s.sending = none → s.reply = none ∧ s.pendingSlots = []) (j : SlotNo) :
    s.takeSlot r j =
      { s.modItem r fun x => { x with slot := some j } with
        slots := s.slots.set j (some { s.questionFor r j p it with asked := s.sending.isNone }),
        nextOrder := s.nextOrder + 1,
        sending := if s.sending = none then some ⟨frameOf (s.questionFor r j p it).query, false⟩ else s.sending } := by
  rw [takeSlot_of_item hp ((item?_of_passage hp).trans hit)]
  by_cases hs : s.sending = none
  · obtain ⟨hreply, hpending⟩ := hidle hs
    rw [arbitrateTx_of_question (s := s.putQuestion j (s.questionFor r j p it)) hs hreply
      (mem_pendingSlots_putQuestion hpending j rfl), setSlot_putQuestion _ _ (by rfl), if_pos hs,
      Option.isNone_iff_eq_none.mpr hs]
    rfl
  · obtain ⟨f, hf⟩ := Option.ne_none_iff_exists'.mp hs
    have hbusy : s.sending.isNone = false := by rw [hf]; rfl
    rw [arbitrateTx_of_busy (s := s.putQuestion j (s.questionFor r j p it)) hf, if_neg hs, hbusy]
    rfl

/-! ### Handing slots on (R132) -/

theorem handOn_of_head (fuel : Nat) {s : State} {r : ItemRef} {rest : List ItemRef} {j : SlotNo} (hw : s.waiting = r :: rest)
    (hj : s.freeSlot? = some j) (hl : s.linked = true) :
    State.handOn (fuel + 1) s = State.handOn fuel ({ s with waiting := rest }.takeSlot r j) := by
  rw [State.handOn, hw, hj]
  simp only [hl, if_true]

theorem handOn_of_done (fuel : Nat) {s : State} (h : s.waiting = [] ∨ s.linked = false ∨ s.freeSlot? = none) :
    State.handOn fuel s = s := by
  cases fuel with
  | zero => rfl
  | succ fuel =>
    unfold State.handOn
    split
    next hw hj => rcases h with h | h | h <;> simp_all
    next => rfl

/-- Either the head of the waiting list takes a slot, or nothing is handed on. -/
theorem handOn_cases (s : State) : (s.waiting = [] ∨ s.linked = false ∨ s.freeSlot? = none) ∨
    ∃ r rest j, s.waiting = r :: rest ∧ s.freeSlot? = some j ∧ s.linked = true := by
  cases hw : s.waiting with
  | nil => exact .inl (.inl rfl)
  | cons r rest =>
    cases hj : s.freeSlot? with
    | none => exact .inl (.inr (.inr rfl))
    | some j =>
      cases hl : s.linked with
      | false => exact .inl (.inr (.inl rfl))
      | true => exact .inr ⟨r, rest, j, rfl, rfl, rfl⟩

/-- Items that wait still exist when the head of the list has taken a slot. -/
theorem waiting_items_takeSlot {s : State} {r : ItemRef} {rest : List ItemRef} (hw : s.waiting = r :: rest)
    (hitems : ∀ x ∈ s.waiting, (s.item? x).isSome = true) {it : Item} (hit : s.item? r = some it) (j : SlotNo) :
    ∀ x ∈ (({ s with waiting := rest } : State).takeSlot r j).waiting,
      ((({ s with waiting := rest } : State).takeSlot r j).item? x).isSome = true := by
  obtain ⟨-, hwaiting, -, hafter⟩ := takeSlot_spec (s := { s with waiting := rest }) hit j
  intro x hx
  rw [hwaiting] at hx
  rw [hafter]
  split
  · rfl
  · exact hitems x (hw ▸ List.mem_cons_of_mem _ hx)

/-- Fuel beyond the number of FREE slots hands nothing more on. -/
theorem handOn_succ (fuel : Nat) {s : State} (hitems : ∀ x ∈ s.waiting, (s.item? x).isSome = true)
    (hfuel : s.freeCount ≤ fuel) : State.handOn (fuel + 1) s = State.handOn fuel s := by
  induction fuel generalizing s with
  | zero =>
    exact handOn_of_done 1 (.inr (.inr ((freeSlot?_eq_none_iff s).mpr (freeCount_eq_zero (Nat.le_zero.mp hfuel)))))
  | succ fuel ih =>
    rcases handOn_cases s with hdone | ⟨r, rest, j, hw, hj, hl⟩
    · rw [handOn_of_done _ hdone, handOn_of_done _ hdone]
    · obtain ⟨it, hit⟩ := Option.isSome_iff_exists.mp (hitems r (hw ▸ List.mem_cons_self ..))
      have hcount := freeCount_takeSlot (s := { s with waiting := rest }) hit (asked?_of_freeSlot? hj)
      have hsame : ({ s with waiting := rest } : State).freeCount = s.freeCount := rfl
      rw [handOn_of_head _ hw hj hl, handOn_of_head _ hw hj hl]
      exact ih (waiting_items_takeSlot hw hitems hit j) (by omega)

/-- Slots are handed on one by one (R132). -/
theorem handSlotsOn_of_head {s : State} (hitems : ∀ x ∈ s.waiting, (s.item? x).isSome = true) {r : ItemRef}
    {rest : List ItemRef} (hw : s.waiting = r :: rest) (hl : s.linked = true) {j : SlotNo} (hj : s.freeSlot? = some j) :
    s.handSlotsOn = ({ s with waiting := rest }.askAbout r).handSlotsOn := by
  obtain ⟨it, hit⟩ := Option.isSome_iff_exists.mp (hitems r (hw ▸ List.mem_cons_self ..))
  have hfree : ({ s with waiting := rest } : State).freeSlot? = some j := hj
  have hcount := freeCount_takeSlot (s := { s with waiting := rest }) hit (asked?_of_freeSlot? hfree)
  have hmost := freeCount_le_four { s with waiting := rest }
  rw [askAbout_of_free hfree]
  calc s.handSlotsOn = State.handOn 3 (({ s with waiting := rest } : State).takeSlot r j) := handOn_of_head 3 hw hj hl
    _ = State.handOn 4 (({ s with waiting := rest } : State).takeSlot r j) :=
        (handOn_succ 3 (waiting_items_takeSlot hw hitems hit j) (by omega)).symm

end Sys2Proof.Machine
end

section
/-! SUPPORT. The end of a question: answers and slot timers (07). -/

namespace Sys2Proof.Machine

/-! ### What a freed slot means to the transmitter -/

theorem State.TxIdle.setSlot {s : State} (hs : s.TxIdle) (j : SlotNo) : (s.setSlot j none).TxIdle := fun h => by
  obtain ⟨hreply, hpending, hnotices, hreports⟩ := hs h
  refine ⟨hreply, List.eq_nil_iff_forall_not_mem.mpr fun ⟨i, q⟩ hmem => ?_, hnotices, hreports⟩
  obtain ⟨hq, hasked⟩ := mem_pendingSlots.mp hmem
  rw [State.setSlot_slots, getElem_set_slots] at hq
  split at hq
  · cases hq
  · exact absurd (hpending ▸ mem_pendingSlots.mpr ⟨hq, hasked⟩) List.not_mem_nil

/-- With nothing PENDING, whether a slot is freed before or after a notice is queued makes no difference. -/
theorem queueNotice_setSlot {s : State} (hs : s.TxIdle) (j : SlotNo) (b : Body) :
    (s.setSlot j none).queueNotice b = (s.queueNotice b).setSlot j none := by
  cases h : s.sending with
  | none =>
    rw [queueNotice_of_free hs h, queueNotice_of_free (hs.setSlot j) h]
    rfl
  | some f =>
    rw [queueNotice_of_busy h, queueNotice_of_busy (s := s.setSlot j none) h]
    by_cases hroom : s.notices.length < Config.maxNotices
    · rw [if_pos hroom, if_pos (by exact hroom)]
      rfl
    · rw [if_neg hroom, if_neg (by exact hroom)]
      rfl

theorem queueReport_setSlot {s : State} (hs : s.TxIdle) (j : SlotNo) (b : Body) :
    (s.setSlot j none).queueReport b = (s.queueReport b).setSlot j none := by
  cases h : s.sending with
  | none =>
    rw [queueReport_of_free hs h, queueReport_of_free (hs.setSlot j) h]
    rfl
  | some f =>
    rw [queueReport_of_busy h, queueReport_of_busy (s := s.setSlot j none) h]
    by_cases hroom : s.reports.length < Config.maxReports
    · rw [if_pos hroom, if_pos (by exact hroom)]
      rfl
    · rw [if_neg hroom, if_neg (by exact hroom)]
      rfl

/-- A transmitter with nothing PENDING leaves the slots alone. -/
theorem slots_queueNotice {s : State} (hs : s.TxIdle) (b : Body) : (s.queueNotice b).slots = s.slots := by
  cases h : s.sending with
  | none => rw [queueNotice_of_free hs h]
  | some f =>
    rw [queueNotice_of_busy h]
    split <;> rfl

theorem slots_queueReport {s : State} (hs : s.TxIdle) (b : Body) : (s.queueReport b).slots = s.slots := by
  cases h : s.sending with
  | none => rw [queueReport_of_free hs h]
  | some f =>
    rw [queueReport_of_busy h]
    split <;> rfl

section Ends
variable {s : State} {p : Passage} {g : Judging} {it : Item} {v : Verdict} {reason : Reason} {done : Passage}

theorem State.TxIdle.noticed (hs : s.TxIdle) : (s.noticed p g it v reason).TxIdle := by
  unfold State.noticed
  split
  · exact .of_sending (sending_queueNotice hs _)
  · exact hs

theorem slots_noticed_reported (hs : s.TxIdle) : ((s.noticed p g it v reason).reported g done).slots = s.slots := by
  have hnoticed : (s.noticed p g it v reason).slots = s.slots := by
    unfold State.noticed
    split
    · exact slots_queueNotice hs _
    · rfl
  rw [← hnoticed]
  unfold State.reported
  split
  · exact slots_queueReport hs.noticed _
  · rfl

theorem noticed_setSlot (hs : s.TxIdle) (j : SlotNo) :
    (s.setSlot j none).noticed p g it v reason = (s.noticed p g it v reason).setSlot j none := by
  unfold State.noticed
  split
  · exact queueNotice_setSlot hs j _
  · rfl

theorem reported_setSlot (hs : s.TxIdle) (j : SlotNo) :
    (s.setSlot j none).reported g done = (s.reported g done).setSlot j none := by
  unfold State.reported
  split
  · exact queueReport_setSlot hs j _
  · rfl

theorem reported_withLanes (passages : List Passage) (counts : Vector LaneCounts 4) (alarms : Vector LaneAlarm 4) :
    (s.withLanes passages counts alarms).reported g done = (s.reported g done).withLanes passages counts alarms := by
  unfold State.reported
  split
  · exact queueReport_withLanes ..
  · rfl

/-- A table's record replaced by one of the same number is replaced or freed all the same. -/
theorem tableRuled_replaceRecord {t : State} {x : Passage} (ht : t.passages = replaceRecord s.passages x)
    (hx : done.number = x.number) : t.tableRuled g done = s.tableRuled g done := by
  unfold State.tableRuled
  rw [ht, replaceRecord_replaceRecord _ hx, hx, filter_replaceRecord]

end Ends

/-! ### A question that ends (R124, R128, R131, R132) -/

/-- A slot freed while its item awaits its verdict. -/
theorem freeSlot_eq {s : State} (hn : s.numbers.Nodup) {j : SlotNo} {q : Question} (hj : s.slots[j] = some q) {p : Passage}
    (hp : s.passage? q.ref.passage = some p) {it : Item} (hit : p.items[q.ref.position]? = some it) :
    s.freeSlot j = (s.setSlot j none).withLanes
      (replaceRecord s.passages { p with items := p.items.set q.ref.position { it with slot := none } }) s.counts s.alarms := by
  obtain ⟨-, hnumber⟩ := passage?_mem hp
  rw [freeSlot_of_flight hj, modItem_eq_modPassage,
    modPassage_eq_replace (s := s.setSlot j none) hn hp (fun p => p.modItem q.ref.position _) hnumber]
  simp only [Passage.modItem, modify_eq_set hit]
  rfl

/-- The state after a verdict that ends a question, before the slot is handed on (R117, R118, R121, R128). -/
def State.questionEnded (s : State) (j : SlotNo) (p : Passage) (g : Judging) (i : Nat) (it : Item) (v : Verdict)
    (reason : Reason) : State :=
  let done := p.ruled g i { it with slot := none } v reason
  (((s.noticed p g it v reason).reported g done).setSlot j none).withLanes (s.tableRuled g done) (s.countsRuled p g v)
    (s.alarmsRuled p v)

theorem endQuestion_eq {s : State} (hn : s.numbers.Nodup) (hs : s.TxIdle) {j : SlotNo} {q : Question}
    (hj : s.slots[j] = some q) {p : Passage} (hp : s.passage? q.ref.passage = some p) (hphase : p.phase = .judging)
    {g : Judging} (hg : p.judging = some g) {it : Item} (hit : p.items[q.ref.position]? = some it) (hr : it.ruling = none)
    (v : Verdict) (reason : Reason) :
    ((s.freeSlot j).giveVerdict q.ref v reason).completeIfDone q.ref.passage =
      s.questionEnded j p g q.ref.position it v reason := by
  obtain ⟨-, hnumber⟩ := passage?_mem hp
  generalize hfree : ({ p with items := p.items.set q.ref.position { it with slot := none } } : Passage) = free
  have hlanes := freeSlot_eq hn hj hp hit
  rw [hfree] at hlanes
  have hfound : (s.freeSlot j).passage? q.ref.passage = some free := by
    rw [hlanes, ← hnumber, show p.number = free.number by rw [← hfree]]
    exact passage?_replaceRecord (s := s) (x := p) (by rw [← hfree]; exact hnumber ▸ hp) rfl
  have hpos : q.ref.position < p.items.length := (List.getElem?_eq_some_iff.mp hit).1
  have hitem : free.items[q.ref.position]? = some { it with slot := none } := by
    rw [← hfree]
    exact List.getElem?_set_self hpos
  have hnodup : (s.freeSlot j).numbers.Nodup := by
    rw [hlanes]
    exact (congrArg List.Nodup (map_number_replaceRecord s.passages free)).mpr hn
  have hruled : free.ruled g q.ref.position { it with slot := none } v reason =
      p.ruled g q.ref.position { it with slot := none } v reason := by
    simp [Passage.ruled, ← hfree]
  have hfreephase : free.phase = .judging := by rw [← hfree]; exact hphase
  have hfreejudging : free.judging = some g := by rw [← hfree]; exact hg
  have hdecided := decideAndComplete hnodup hfound hfreephase hfreejudging hitem hr v reason
  have htable : (s.freeSlot j).tableRuled g (p.ruled g q.ref.position { it with slot := none } v reason) =
      s.tableRuled g (p.ruled g q.ref.position { it with slot := none } v reason) :=
    tableRuled_replaceRecord (by rw [hlanes]; rfl) (by rw [← hfree]; rfl)
  rw [hdecided]
  dsimp only
  rw [hruled, htable, hlanes, noticed_withLanes, reported_withLanes]
  subst hfree
  have hsame : ((s.setSlot j none).noticed p g it v reason).reported g
      (p.ruled g q.ref.position { it with slot := none } v reason) =
      ((s.noticed p g it v reason).reported g (p.ruled g q.ref.position { it with slot := none } v reason)).setSlot j none := by
    rw [noticed_setSlot hs, reported_setSlot hs.noticed]
  unfold State.questionEnded
  dsimp only
  rw [← hsame]
  rfl

/-! ### Answers (R128, R129) -/

/-- The fields of an ANSWER, read again (R177). -/
theorem takeFrame_answer (s : State) (slot result : Byte) (i : ItemNo) :
    s.takeFrame (Kind.answer.code :: (slot :: toBytes 8 i.toNat ++ [result])) =
      (s.takeAnswer slot.toNat i result.toNat).recomputeLines := by
  have hlen : (toBytes 8 i.toNat).length = 8 := length_toBytes 8 _
  have hslot : fieldNat (slot :: toBytes 8 i.toNat ++ [result]) 0 1 = slot.toNat := by
    simp [fieldNat, beNat]
  have hitem : BitVec.ofNat 64 (fieldNat (slot :: toBytes 8 i.toNat ++ [result]) 1 8) = i := by
    rw [fieldNat, List.cons_append, List.drop_succ_cons, List.drop_zero, List.take_left' hlen, beNat_itemBytes]
  have hresult : fieldNat (slot :: toBytes 8 i.toNat ++ [result]) 9 1 = result.toNat := by
    rw [fieldNat, List.cons_append, List.drop_succ_cons, List.drop_left' hlen]
    simp [beNat]
  have hok : Kind.answer.lengthOk (slot :: toBytes 8 i.toNat ++ [result]).length = true := by
    simp [Kind.lengthOk]
  have hkind : kindOf Kind.answer.code = some .answer := rfl
  unfold State.takeFrame
  simp only [hkind, hok, if_true]
  unfold State.deliverAnswer
  rw [hslot, hitem, hresult]

theorem exec_answer {s : State} (h : s.ready) (slot result : Byte) (i : ItemNo) :
    exec (.answer (slot :: toBytes 8 i.toNat ++ [result])) s =
      .next (s.heard.takeAnswer slot.toNat i result.toNat).recomputeLines :=
  congrArg Host.Outcome.next ((receive_of_ready h _).trans (takeFrame_answer ..))

theorem matchedSlot_of_flight {s : State} {j : SlotNo} {q : Question} (h : s.slots[j] = some q) :
    s.matchedSlot j.val q.item = some (j, q) := by
  have hslot : s.slots[j.val] = some q := h
  unfold State.matchedSlot
  rw [dif_pos j.isLt, hslot]
  simp

theorem takeAnswer_of_unmatched {s : State} {slot : Nat} {i : ItemNo} (h : s.matchedSlot slot i = none) (result : Nat) :
    s.takeAnswer slot i result = s.lateAnswer := by
  rw [State.takeAnswer, h]

/-- A result that is none of the three is late (R129). -/
theorem takeAnswer_of_result (s : State) (slot : Nat) (i : ItemNo) {result : Nat} (h : result = 0 ∨ 4 ≤ result) :
    s.takeAnswer slot i result = s.lateAnswer := by
  unfold State.takeAnswer
  split
  · rfl
  · split
    · omega
    · omega
    · omega
    · rfl

/-- What changes before a question ends: link, silence timer, lines, loans and counters. -/
def AskedFrame (s b : State) : Prop :=
  b = { s with linked := b.linked, silence := b.silence, lines := b.lines, loans := b.loans, device := b.device }

section Frame
variable {s b : State} (h : AskedFrame s b)
include h

theorem AskedFrame.passages : b.passages = s.passages := by rw [h]
theorem AskedFrame.slots : b.slots = s.slots := by rw [h]
theorem AskedFrame.counts : b.counts = s.counts := by rw [h]
theorem AskedFrame.alarms : b.alarms = s.alarms := by rw [h]
theorem AskedFrame.gateTime : b.gateTime = s.gateTime := by rw [h]
theorem AskedFrame.params : b.params = s.params := by rw [h]

theorem AskedFrame.txIdle (hlink : s.linkLaw) : b.TxIdle := by
  have hpending : b.pendingSlots = s.pendingSlots := pendingSlots_congr h.slots
  have hsending : b.sending = s.sending := by rw [h]
  have hreply : b.reply = s.reply := by rw [h]
  have hnotices : b.notices = s.notices := by rw [h]
  have hreports : b.reports = s.reports := by rw [h]
  unfold State.TxIdle
  rw [hpending, hsending, hreply, hnotices, hreports]
  exact txIdle_of_linkLaw hlink

end Frame

theorem heard_askedFrame (s : State) : AskedFrame s s.heard := by
  unfold AskedFrame
  rw [heard_eq]

theorem AskedFrame.addLoan {s b : State} (h : AskedFrame s b) (i : ItemNo) : AskedFrame s (b.addLoan i) := by
  unfold AskedFrame at *
  rw [addLoan_loans_device, h]

section Answered
variable {s b : State} {j : SlotNo} {q : Question} {p : Passage} {g : Judging} {it : Item}

/-- A question that ends in a state whose frame is that of another. -/
theorem resolveSlot_of_frame (hb : AskedFrame s b) (hlink : s.linkLaw) (hn : (s.passages.map Passage.number).Nodup)
    (hj : s.slots[j] = some q) (hp : s.passage? q.ref.passage = some p) (hphase : p.phase = .judging)
    (hg : p.judging = some g) (hit : p.items[q.ref.position]? = some it) (hr : it.ruling = none) (v : Verdict)
    (reason : Reason) :
    let done := p.ruled g q.ref.position { it with slot := none } v reason
    b.resolveSlot j q v reason = State.handSlotsOn { (b.noticed p g it v reason).reported g done with
      slots := s.slots.set j none, passages := s.tableRuled g done, counts := s.countsRuled p g v,
      alarms := s.alarmsRuled p v } := by
  have hidle := hb.txIdle hlink
  have hnumbers : b.numbers.Nodup := by
    rw [State.numbers, hb.passages]
    exact hn
  have hp' : b.passage? q.ref.passage = some p := by
    rw [State.passage?, hb.passages]
    exact hp
  have hslot : b.slots[j] = some q := by
    rw [hb.slots]
    exact hj
  unfold State.resolveSlot
  rw [endQuestion_eq hnumbers hidle hslot hp' hphase hg hit hr]
  have hslots := (slots_noticed_reported (p := p) (g := g) (it := it) (v := v) (reason := reason)
    (done := p.ruled g q.ref.position { it with slot := none } v reason) hidle).trans hb.slots
  unfold State.questionEnded State.setSlot State.tableRuled State.countsRuled State.alarmsRuled
  rw [hb.passages, hb.counts, hb.alarms, hb.gateTime, hb.params]
  dsimp only
  rw [hslots]
  rfl

theorem fallbackOf_eq (hp : s.passage? q.ref.passage = some p) (hit : p.items[q.ref.position]? = some it) {c : ItemClass}
    (hc : it.classFields = some c) : s.fallbackOf q.ref = if c.fallbackPass then .pass else .alarm := by
  rw [State.fallbackOf, item?_of_passage hp, hit, Option.map_some, Option.getD_some, Item.fallback, hc]

/-- The slot timer's expiry of a question whose time has come (R131). -/
theorem slotTimerExpiry_of_due (hj : s.slots[j] = some q) (hdue : due s.gateTime q.timer = true) :
    slotTimerExpiry j s =
      ((s.modDevice fun d => { d with queryTimeouts := bump d.queryTimeouts }).resolveSlot j q (s.fallbackOf q.ref)
        .queryTimeout).recomputeLines := by
  unfold slotTimerExpiry
  rw [hj]
  exact if_pos hdue

/-- An ANSWER that matches a question ends it (R128). -/
theorem takeAnswer_of_flight (hj : s.slots[j] = some q) :
    s.takeAnswer j.val q.item 1 = (s.addLoan q.item).resolveSlot j q .pass .hostIssued ∧
    s.takeAnswer j.val q.item 2 = s.resolveSlot j q .alarm .hostNotIssued ∧
    s.takeAnswer j.val q.item 3 = s.resolveSlot j q (s.fallbackOf q.ref) .hostUnknown := by
  unfold State.takeAnswer
  rw [matchedSlot_of_flight hj]
  exact ⟨rfl, rfl, rfl⟩

end Answered

/-- No question is matched by a slot number past the last or by an item number that the slot does not ask about (R129). -/
theorem matchedSlot_eq_none {s : State} {slot : Nat} {i : ItemNo}
    (h : 4 ≤ slot ∨ ∀ (j : SlotNo) (q : Question), j.val = slot → s.slots[j] = some q → q.item ≠ i) :
    s.matchedSlot slot i = none := by
  by_contra hne
  obtain ⟨⟨j, q⟩, hmatch⟩ := Option.ne_none_iff_exists'.mp hne
  obtain ⟨hj, hq, hitem⟩ := matchedSlot_eq_some hmatch
  rcases h with h | h
  · omega
  · exact h j q hj hq hitem

/-- Settles O41: an item's taking of a slot, the handing on one by one, the end of a question by timer or answer, late answers. -/
theorem questionsEnd : Obligations.QuestionsEnd := by
  refine ⟨fun s r p it hp hit hidle => ⟨fun j hj hlow => ?_, fun hfull => askAbout_of_full (freeSlot?_of_full hfull) r⟩,
    fun s hitems => ⟨fun h => ?_, fun r rest hw hl hfree => ?_⟩,
    fun s j q p g it c hlink hn hj hp hphase hg hit hr hc => ?_, fun s slot result i h hlate => ?_⟩
  · exact (askAbout_of_free (freeSlot?_of_lowest hj hlow) r).trans (takeSlot_eq hp hit hidle j)
  · exact handOn_of_done 4 (h.imp_right (Or.imp_right freeSlot?_of_full))
  · obtain ⟨k, hk⟩ := hfree
    obtain ⟨j, hj⟩ : ∃ j, s.freeSlot? = some j := Option.ne_none_iff_exists'.mp fun hnone =>
      (freeSlot?_eq_none_iff s).mp hnone k (Option.map_eq_none_iff.mpr hk)
    exact handSlotsOn_of_head hitems hw hl hj
  · have hend {b : State} (hb : AskedFrame s b) := resolveSlot_of_frame hb hlink hn hj hp hphase hg hit hr
    have hfallback := fallbackOf_eq hp hit hc
    refine ⟨fun hdue => ?_, fun hready => ?_⟩
    · have hexec := slotTimerExpiry_of_due hj hdue
      have hcounted : AskedFrame s (s.modDevice fun d => { d with queryTimeouts := bump d.queryTimeouts }) := rfl
      rw [hfallback, hend hcounted] at hexec
      exact congrArg Host.Outcome.next hexec
    · have hheard := heard_askedFrame s
      have hbyte : (BitVec.ofNat 8 j.val).toNat = j.val := by
        rw [BitVec.toNat_ofNat]
        omega
      have hslot : s.heard.slots[j] = some q := by
        rw [hheard.slots]
        exact hj
      have hp' : s.heard.passage? q.ref.passage = some p := by
        rw [State.passage?, hheard.passages]
        exact hp
      have hexec (result : Byte) := exec_answer hready (BitVec.ofNat 8 j.val) result q.item
      rw [hbyte] at hexec
      obtain ⟨hpass, halarm, hunknown⟩ := takeAnswer_of_flight hslot
      rw [hend (hheard.addLoan q.item)] at hpass
      rw [hend hheard] at halarm
      rw [fallbackOf_eq hp' hit hc, hend hheard] at hunknown
      exact ⟨(hexec 1).trans (congrArg (fun t => Host.Outcome.next (State.recomputeLines t)) hpass),
        (hexec 2).trans (congrArg (fun t => Host.Outcome.next (State.recomputeLines t)) halarm),
        (hexec 3).trans (congrArg (fun t => Host.Outcome.next (State.recomputeLines t)) hunknown)⟩
  · have hslots := (heard_askedFrame s).slots
    have hlost : s.heard.takeAnswer slot.toNat i result.toNat = s.heard.lateAnswer := by
      rcases hlate with h4 | h0 | h4 | hnone
      · exact takeAnswer_of_unmatched (matchedSlot_eq_none (.inl h4)) _
      · exact takeAnswer_of_result _ _ _ (.inl (by rw [h0]; rfl))
      · exact takeAnswer_of_result _ _ _ (.inr h4)
      · exact takeAnswer_of_unmatched (matchedSlot_eq_none (.inr (by rw [hslots]; exact hnone))) _
    have hdevice : s.heard.device = s.device := by rw [heard_eq]
    rw [exec_answer h, hlost, State.lateAnswer, State.modDevice, hdevice]
    rfl

end Sys2Proof.Machine
end

section
/-! SUPPORT. What is due of a passage and of the queues when every question is resolved by STANDALONE (R133), and that one
question resolved leaves it due. -/

namespace Sys2Proof.Machine

/-! ### One passage -/

/-- An item as STANDALONE leaves it (R117, R133). -/
def Item.standalone (it : Item) : Item :=
  if it.ruling = none then { it with slot := none, ruling := some ⟨it.fallback, .standalone⟩ } else it

/-- The report of a passage whose pending items are resolved by STANDALONE. -/
def Passage.standaloneBody (p : Passage) : Body := reportBody { p with items := p.items.map Item.standalone }

/-- The number of items without verdict. -/
def Passage.unruled (p : Passage) : Nat := p.items.countP fun it => it.ruling.isNone

/-- Whether an item's fallback is an ALARM that is still to come. -/
def Item.dueAlarm (it : Item) : Bool := it.ruling == none && it.fallback == .alarm

/-- Whether a passage has such an item. -/
def Passage.dueAlarm (p : Passage) : Bool := p.phase == .judging && p.items.any Item.dueAlarm

/-- A list around one of its elements. -/
theorem exists_split_of_getElem? {α : Type} {l : List α} {i : Nat} {a : α} (h : l[i]? = some a) :
    ∃ x y, l = x ++ a :: y ∧ ∀ b, l.set i b = x ++ b :: y := by
  obtain ⟨hi, rfl⟩ := List.getElem?_eq_some_iff.mp h
  refine ⟨l.take i, l.drop (i + 1), by simp, fun b => ?_⟩
  rw [List.set_eq_take_append_cons_drop, if_pos hi]

theorem reportBody_congr {p q : Passage} (h : q = { p with items := q.items, judging := q.judging })
    (hitems : q.items = p.items) : reportBody q = reportBody p := by
  rw [h, hitems]
  rfl

section Ruled
variable {p : Passage} {g : Judging} {i : Nat} {it : Item}

/-- A passage with one pending item resolved by STANDALONE. -/
def Passage.resolved (p : Passage) (g : Judging) (i : Nat) (it : Item) : Passage :=
  p.ruled g i { it with slot := none } it.fallback .standalone

theorem unruled_resolved (hit : p.items[i]? = some it) (hr : it.ruling = none) :
    p.unruled = (p.resolved g i it).unruled + 1 := by
  obtain ⟨x, y, hl, hset⟩ := exists_split_of_getElem? hit
  simp only [Passage.unruled, Passage.resolved, Passage.ruled, hset]
  rw [hl]
  simp [hr, List.countP_append]
  omega

theorem dueAlarm_resolved (hphase : p.phase = .judging) (hit : p.items[i]? = some it) (hr : it.ruling = none) :
    p.dueAlarm = (it.fallback == .alarm || (p.resolved g i it).dueAlarm) := by
  obtain ⟨x, y, hl, hset⟩ := exists_split_of_getElem? hit
  simp only [Passage.dueAlarm, Passage.resolved, Passage.ruled, hset, hphase]
  rw [hl]
  simp only [List.any_append, List.any_cons, Item.dueAlarm, hr, beq_self_eq_true, Bool.true_and]
  cases it.fallback == .alarm <;> simp

theorem standaloneBody_resolved (hit : p.items[i]? = some it) (hr : it.ruling = none) :
    (p.resolved g i it).standaloneBody = p.standaloneBody := by
  obtain ⟨x, y, hl, hset⟩ := exists_split_of_getElem? hit
  refine reportBody_congr rfl ?_
  simp only [Passage.resolved, Passage.ruled, hset]
  rw [hl]
  simp [Item.standalone, hr]

/-- A passage without pending items is reported as it stands. -/
theorem standaloneBody_of_ruled (h : p.unruled = 0) : p.standaloneBody = reportBody p := by
  refine reportBody_congr (p := p) rfl ((List.map_congr_left fun it hit => ?_).trans (List.map_id _))
  have hruled := List.countP_eq_zero.mp h it hit
  simp only [Option.isNone_iff_eq_none] at hruled
  rw [Item.standalone, if_neg hruled, id]

theorem dueAlarm_of_ruled (h : p.unruled = 0) : p.dueAlarm = false := by
  have hnone : p.items.any Item.dueAlarm = false := List.any_eq_false.mpr fun it hit => by
    have hruled := List.countP_eq_zero.mp h it hit
    simp only [Option.isNone_iff_eq_none] at hruled
    simp [Item.dueAlarm, hruled]
  rw [Passage.dueAlarm, hnone, Bool.and_false]

end Ruled

/-! ### The table around one record -/

theorem exists_split_record {l : List Passage} (hn : (l.map Passage.number).Nodup) {p : Passage} (hp : p ∈ l) :
    ∃ a b, l = a ++ p :: b ∧ (∀ q : Passage, q.number = p.number → replaceRecord l q = a ++ q :: b) ∧
      ∀ n, n = p.number → l.filter (fun x => x.number != n) = a ++ b := by
  obtain ⟨a, b, rfl⟩ := List.append_of_mem hp
  rw [List.map_append, List.map_cons, List.nodup_append, List.nodup_cons] at hn
  obtain ⟨-, ⟨hb, -⟩, ha⟩ := hn
  have hother : ∀ x ∈ a ++ b, x.number ≠ p.number := fun x hx => by
    rcases List.mem_append.mp hx with hx | hx
    · exact ha _ (List.mem_map_of_mem hx) _ (List.mem_cons_self ..)
    · exact fun heq => hb (heq ▸ List.mem_map_of_mem hx)
  refine ⟨a, b, rfl, fun q hq => ?_, fun n hn => ?_⟩
  · have hkeep : ∀ l', (∀ x ∈ l', x.number ≠ p.number) → replaceRecord l' q = l' := fun l' hl' =>
      (List.map_congr_left fun x hx => if_neg (hq ▸ hl' x hx)).trans (List.map_id _)
    have ha' := hkeep a fun x hx => hother x (List.mem_append_left _ hx)
    have hb' := hkeep b fun x hx => hother x (List.mem_append_right _ hx)
    unfold replaceRecord at *
    rw [List.map_append, List.map_cons, ha', hb', if_pos hq.symm]
  · subst hn
    rw [List.filter_append, List.filter_cons, if_neg (by simp), ← List.filter_append]
    exact List.filter_eq_self.mpr fun x hx => by simpa using hother x hx

end Sys2Proof.Machine
end

section
/-! SUPPORT. The silence expiry: what is due of lanes and queues is kept by each question resolved (R133, R159). -/

namespace Sys2Proof.Machine

/-! ### What is due -/

/-- Whether a passage makes its lane sound. -/
def Passage.soundsIn (p : Passage) (k : Lane) : Bool := p.dueAlarm && p.lane == k && !p.flags.countOnly

/-- Whether a passage is counted as one with an alarm. -/
def Passage.countsIn (p : Passage) (k : Lane) : Bool :=
  p.dueAlarm && p.lane == k && p.judging.map Judging.mark == some false

/-- A lane's alarm as it is made SOUNDING now (R138, R139). -/
def State.sounding (s : State) : LaneAlarm :=
  ⟨.sounding, some (s.gateTime + BitVec.ofNat 32 ((if s.params.alarmTime = 0 then 256 else s.params.alarmTime) * 100))⟩

/-- A lane's alarm when every question is resolved. -/
def State.alarmDue (s : State) (k : Lane) : LaneAlarm :=
  if s.passages.any (fun p => p.soundsIn k) then s.sounding else s.alarms[k]

/-- A lane's counts when every question is resolved. -/
def State.countDue (s : State) (k : Lane) : LaneCounts :=
  { s.counts[k] with
    withAlarm := min (s.counts[k].withAlarm + s.passages.countP fun p => p.countsIn k) 4294967295 }

/-- The number of passages in JUDGING. -/
def State.ending (s : State) : Nat := s.passages.countP fun p => p.phase == .judging

/-- The length of the report queue when every question is resolved. -/
def State.reportsDue (s : State) : Nat := min (s.reports.length + s.ending) 16

/-- The count of reports lost when every question is resolved. -/
def State.lostDue (s : State) : Nat := min (s.device.reportsLost + (s.reports.length + s.ending - 16)) 65535

/-- What the resolving of questions starts from: a transmitter that has sent what it could, queue and counters within their
bounds, and each passage in JUDGING with the number of its items without verdict, of which there is one. -/
structure State.Resolvable (s : State) : Prop where
  distinct : s.numbers.Nodup
  idle : s.TxIdle
  queue : s.reports.length ≤ 16
  lost : s.device.reportsLost ≤ 65535
  counted : ∀ k : Lane, s.counts[k].withAlarm ≤ 4294967295
  judging : ∀ p ∈ s.passages, p.phase = .judging → 0 < p.unruled ∧ p.judging.map Judging.undecided = some p.unruled

/-- A report waits, is being sent, or was lost to a full queue. -/
structure Delivered (s t : State) (b : Body) : Prop where
  busy : t.sending ≠ none
  somewhere : b ∈ t.reports ∨ t.sending = some ⟨frameOf b, false⟩ ∨
    t.reports.length = 16 ∧ min (s.device.reportsLost + 1) 65535 ≤ t.device.reportsLost

/-- How a state in which questions have been resolved stands to the one before: the same is due. -/
structure Resolved (s t : State) : Prop where
  others : t.passages.filter (fun p => p.phase != .judging) = s.passages.filter fun p => p.phase != .judging
  alarms : ∀ k, t.alarmDue k = s.alarmDue k
  counts : ∀ k, t.countDue k = s.countDue k
  sending : s.sending ≠ none →
    t.sending = s.sending ∧ s.reports <+: t.reports ∧ t.reportsDue = s.reportsDue ∧ t.lostDue = s.lostDue
  lost : s.device.reportsLost ≤ t.device.reportsLost
  timeouts : t.device.queryTimeouts = s.device.queryTimeouts
  bodies : ∀ p ∈ s.passages, p.phase = .judging →
    (∃ q ∈ t.passages, q.phase = .judging ∧ q.standaloneBody = p.standaloneBody) ∨ Delivered s t p.standaloneBody
  resolvable : t.Resolvable

theorem Resolved.refl {s : State} (hs : s.Resolvable) : Resolved s s :=
  ⟨rfl, fun _ => rfl, fun _ => rfl, fun _ => ⟨rfl, List.prefix_refl _, rfl, rfl⟩, le_refl _, rfl,
    fun p hp hphase => .inl ⟨p, hp, hphase, rfl⟩, hs⟩

/-- What has been delivered stays so. -/
theorem Delivered.later {s t u : State} {b : Body} (h : Delivered s t b) (k : Resolved t u) : Delivered s u b := by
  obtain ⟨hbusy, hwhere⟩ := h
  obtain ⟨hsame, hpre, -⟩ := k.sending hbusy
  refine ⟨hsame ▸ hbusy, ?_⟩
  rcases hwhere with hmem | hsent | ⟨hfull, hlost⟩
  · exact .inl (hpre.mem hmem)
  · exact .inr (.inl (hsame.trans hsent))
  · exact .inr (.inr ⟨le_antisymm k.resolvable.queue (hfull ▸ hpre.length_le), hlost.trans k.lost⟩)

theorem Delivered.earlier {s t u : State} {b : Body} (h : Delivered t u b)
    (hlost : s.device.reportsLost ≤ t.device.reportsLost) : Delivered s u b := by
  obtain ⟨hbusy, hwhere⟩ := h
  exact ⟨hbusy, hwhere.imp_right (Or.imp_right fun ⟨hfull, hl⟩ => ⟨hfull, by omega⟩)⟩

theorem Resolved.trans {s t u : State} (h : Resolved s t) (k : Resolved t u) : Resolved s u where
  others := k.others.trans h.others
  alarms l := (k.alarms l).trans (h.alarms l)
  counts l := (k.counts l).trans (h.counts l)
  sending hs := by
    obtain ⟨hsame, hpre, hreports, hlost⟩ := h.sending hs
    obtain ⟨hsame', hpre', hreports', hlost'⟩ := k.sending (hsame ▸ hs)
    exact ⟨hsame'.trans hsame, hpre.trans hpre', hreports'.trans hreports, hlost'.trans hlost⟩
  lost := h.lost.trans k.lost
  timeouts := k.timeouts.trans h.timeouts
  bodies p hp hphase := by
    rcases h.bodies p hp hphase with ⟨q, hq, hqphase, hbody⟩ | hsent
    · rw [← hbody]
      exact (k.bodies q hq hqphase).imp_right fun hsent => hsent.earlier h.lost
    · exact .inr (hsent.later k)
  resolvable := k.resolvable

/-! ### The queues while one question is resolved -/

/-- What the queueing of a report leaves: it is being sent, or waits, or is lost. -/
def Queued (s t : State) (b : Body) : Prop :=
  (s.sending = none ∧ t.sending = some ⟨frameOf b, false⟩ ∧ t.reports = s.reports ∧
    t.device.reportsLost = s.device.reportsLost) ∨
  (s.sending ≠ none ∧ t.sending = s.sending ∧ s.reports.length < 16 ∧ t.reports = s.reports ++ [b] ∧
    t.device.reportsLost = s.device.reportsLost) ∨
  (s.sending ≠ none ∧ t.sending = s.sending ∧ 16 ≤ s.reports.length ∧ t.reports = s.reports ∧
    t.device.reportsLost = min (s.device.reportsLost + 1) 65535)

theorem queueReport_queued {s : State} (hs : s.TxIdle) (b : Body) :
    Queued s (s.queueReport b) b ∧ (s.queueReport b).device.queryTimeouts = s.device.queryTimeouts := by
  cases h : s.sending with
  | none =>
    rw [queueReport_of_free hs h]
    exact ⟨.inl ⟨h, rfl, rfl, rfl⟩, rfl⟩
  | some f =>
    have hbusy : s.sending ≠ none := by simp [h]
    rw [queueReport_of_busy h]
    split
    next hroom => exact ⟨.inr (.inl ⟨hbusy, rfl, hroom, rfl, rfl⟩), rfl⟩
    next hroom => exact ⟨.inr (.inr ⟨hbusy, rfl, Nat.not_lt.mp hroom, rfl, rfl⟩), rfl⟩

theorem noticed_keeps {s : State} (hs : s.TxIdle) (p : Passage) (g : Judging) (it : Item) (v : Verdict) (reason : Reason) :
    (s.noticed p g it v reason).reports = s.reports ∧
    (s.noticed p g it v reason).device.reportsLost = s.device.reportsLost ∧
    (s.noticed p g it v reason).device.queryTimeouts = s.device.queryTimeouts ∧
    (s.sending ≠ none → (s.noticed p g it v reason).sending = s.sending) := by
  unfold State.noticed
  split
  · cases h : s.sending with
    | none =>
      rw [queueNotice_of_free hs h]
      exact ⟨rfl, rfl, rfl, fun hne => absurd rfl hne⟩
    | some f =>
      rw [queueNotice_of_busy h]
      split <;> exact ⟨rfl, rfl, rfl, fun _ => h⟩
  · exact ⟨rfl, rfl, rfl, fun _ => rfl⟩

/-- A count that rises by one at its bound now, or with the rest later. -/
theorem bounded_rise (bound c n e : Nat) (h : 16 ≤ n) :
    min (min (c + 1) bound + (n + e - 16)) bound = min (c + (n + (e + 1) - 16)) bound := by
  omega

/-- A report queued, after a notice perhaps, is delivered or lost as was due. -/
theorem Queued.due {s m t : State} {b : Body} (h : Queued m t b) (hs : s.Resolvable) (hreports : m.reports = s.reports)
    (hlost : m.device.reportsLost = s.device.reportsLost) (hsending : s.sending ≠ none → m.sending = s.sending)
    (hending : s.ending = t.ending + 1) :
    (s.sending ≠ none →
      t.sending = s.sending ∧ s.reports <+: t.reports ∧ t.reportsDue = s.reportsDue ∧ t.lostDue = s.lostDue) ∧
    s.device.reportsLost ≤ t.device.reportsLost ∧ t.reports.length ≤ 16 ∧ t.device.reportsLost ≤ 65535 ∧
    Delivered s t b := by
  have hqueue := hs.queue
  have hbound := hs.lost
  unfold State.reportsDue State.lostDue
  rw [hending]
  rcases h with ⟨hfree, hsent, htr, htl⟩ | ⟨hbusy, hsent, hroom, htr, htl⟩ | ⟨hbusy, hsent, hfull, htr, htl⟩
  · rw [htl, htr, hlost, hreports]
    exact ⟨fun hne => absurd (hsending hne ▸ hfree) hne, le_refl _, hqueue, hbound, by simp [hsent], .inr (.inl hsent)⟩
  · rw [hreports] at hroom
    rw [htl, htr, hlost, hreports, List.length_append, List.length_singleton]
    refine ⟨fun hne => ⟨hsent.trans (hsending hne), List.prefix_append _ _, by omega, by omega⟩, le_refl _, by omega, hbound,
      hsent ▸ hbusy, .inl ?_⟩
    rw [htr]
    exact List.mem_append_right _ (List.mem_singleton.mpr rfl)
  · rw [hreports] at hfull
    rw [htl, htr, hlost, hreports]
    refine ⟨fun hne => ⟨hsent.trans (hsending hne), List.prefix_refl _, by omega, bounded_rise _ _ _ _ hfull⟩,
      le_min (Nat.le_succ _) hbound, hqueue, min_le_right _ _,
      hsent ▸ hbusy, .inr (.inr ⟨?_, ?_⟩)⟩
    · rw [htr, hreports]
      omega
    · rw [htl, hlost]

theorem State.TxIdle.reported {s : State} (hs : s.TxIdle) (g : Judging) (done : Passage) : (s.reported g done).TxIdle := by
  unfold State.reported
  split
  · exact .of_sending (sending_queueReport hs _)
  · exact hs

/-- Verdict, notice and report leave clock and parameters. -/
theorem noticed_reported_frame (s : State) (p : Passage) (g : Judging) (it : Item) (v : Verdict) (reason : Reason)
    (done : Passage) : SendFrame s ((s.noticed p g it v reason).reported g done) := by
  have hnoticed : SendFrame s (s.noticed p g it v reason) := by
    unfold State.noticed
    split
    · exact queueNotice_frame _ _
    · exact .refl _
  unfold State.reported
  split
  · exact hnoticed.trans (queueReport_frame _ _)
  · exact hnoticed

/-! ### One question resolved -/

/-- The table around a passage one of whose items is resolved: the passage stays with the others, or was its last and is freed. -/
theorem exists_split_resolved {s : State} (hs : s.Resolvable) {p : Passage} (hp : p ∈ s.passages)
    (hphase : p.phase = .judging) {g : Judging} (hg : p.judging = some g) {i : Nat} {it : Item} (hit : p.items[i]? = some it)
    (hr : it.ruling = none) :
    ∃ a b rest, s.passages = a ++ p :: b ∧ s.tableRuled g (p.resolved g i it) = a ++ (rest ++ b) ∧
      ((g.undecided ≤ 1 ∧ rest = [] ∧ (p.resolved g i it).unruled = 0) ∨
        (¬g.undecided ≤ 1 ∧ rest = [p.resolved g i it] ∧ 0 < (p.resolved g i it).unruled ∧
          g.undecided - 1 = (p.resolved g i it).unruled)) := by
  obtain ⟨a, b, hl, hreplace, hfilter⟩ := exists_split_record hs.distinct hp
  obtain ⟨-, hundecided⟩ := hs.judging p hp hphase
  rw [hg] at hundecided
  have hcount : g.undecided = p.unruled := Option.some.inj hundecided
  have hless := unruled_resolved (g := g) hit hr
  unfold State.tableRuled
  by_cases hle : g.undecided ≤ 1
  · exact ⟨a, b, [], hl, by rw [if_pos hle]; exact hfilter _ rfl, .inl ⟨hle, rfl, by omega⟩⟩
  · refine ⟨a, b, [p.resolved g i it], hl, ?_, .inr ⟨hle, rfl, by omega, by omega⟩⟩
    rw [if_neg hle]
    exact hreplace _ rfl

/-- Whether the item resolved is the one that makes the lane sound or is counted, by a condition of the passage. -/
def Item.alarmsIn (it : Item) (p : Passage) (k : Lane) (c : Bool) : Bool := it.fallback == .alarm && p.lane == k && c

/-- In a list around a passage that stays or is freed, what it has still to come counts as if it stayed. -/
theorem any_rest {rest : List Passage} {d : Passage} (h : rest = [] ∧ d.unruled = 0 ∨ rest = [d]) (k : Lane) :
    rest.any (fun p => p.soundsIn k) = d.soundsIn k := by
  rcases h with ⟨rfl, hnone⟩ | rfl
  · simp [Passage.soundsIn, dueAlarm_of_ruled hnone]
  · simp

theorem countP_rest {rest : List Passage} {d : Passage} (h : rest = [] ∧ d.unruled = 0 ∨ rest = [d]) (k : Lane) :
    rest.countP (fun p => p.countsIn k) = if d.countsIn k then 1 else 0 := by
  rcases h with ⟨rfl, hnone⟩ | rfl
  · simp [Passage.countsIn, dueAlarm_of_ruled hnone]
  · rw [List.countP_singleton]

section Step
variable {s : State} {p : Passage} {g : Judging} {i : Nat} {it : Item}

theorem soundsIn_resolved (hphase : p.phase = .judging) (hit : p.items[i]? = some it) (hr : it.ruling = none) (k : Lane) :
    p.soundsIn k = (it.alarmsIn p k (!p.flags.countOnly) || (p.resolved g i it).soundsIn k) := by
  have hlane : (p.resolved g i it).lane = p.lane := rfl
  have hflags : (p.resolved g i it).flags = p.flags := rfl
  unfold Passage.soundsIn Item.alarmsIn
  rw [dueAlarm_resolved (g := g) hphase hit hr, hlane, hflags, Bool.and_assoc, Bool.and_assoc, Bool.and_assoc,
    Bool.and_or_distrib_right]

theorem countsIn_resolved (hphase : p.phase = .judging) (hg : p.judging = some g) (hit : p.items[i]? = some it)
    (hr : it.ruling = none) (k : Lane) :
    (if p.countsIn k then 1 else 0) =
      (if it.alarmsIn p k (!g.mark) then 1 else 0) + if (p.resolved g i it).countsIn k then 1 else 0 := by
  have hlane : (p.resolved g i it).lane = p.lane := rfl
  have hmark : (p.resolved g i it).judging.map Judging.mark = some (g.mark || it.fallback == .alarm) := rfl
  unfold Passage.countsIn Item.alarmsIn
  rw [dueAlarm_resolved (g := g) hphase hit hr, hlane, hmark, hg, Option.map_some]
  cases it.fallback == .alarm <;> cases g.mark <;> simp

theorem alarmsRuled_getElem (v : Verdict) (k : Lane) :
    (s.alarmsRuled p v)[k] =
      if (v == .alarm && p.lane == k && !p.flags.countOnly) = true then s.sounding else s.alarms[k] := by
  unfold State.alarmsRuled
  by_cases hk : p.lane = k
  · subst hk
    by_cases hv : v = .alarm <;> cases hc : p.flags.countOnly <;> simp [hv, State.sounding]
  · have hval : p.lane.val ≠ k.val := fun h => hk (Fin.ext h)
    split <;> simp [hk, hval]

theorem countsRuled_getElem (v : Verdict) (k : Lane) :
    (s.countsRuled p g v)[k] = { s.counts[k] with
      withAlarm := if (v == .alarm && p.lane == k && !g.mark) = true then min (s.counts[k].withAlarm + 1) 4294967295
        else s.counts[k].withAlarm } := by
  unfold State.countsRuled
  split
  next h =>
    obtain ⟨hv, hm⟩ := h
    rw [modAt_getElem]
    by_cases hk : p.lane = k
    · simp [hk, hv, hm]
    · simp [hk]
  next h =>
    have hno : (v == .alarm && p.lane == k && !g.mark) = false := by
      by_cases hv : v = .alarm <;> cases hm : g.mark <;> simp_all
    rw [hno]
    rfl

section Lanes
variable {t : State} {a b rest : List Passage} (hphase : p.phase = .judging) (hg : p.judging = some g)
  (hit : p.items[i]? = some it) (hr : it.ruling = none) (hs : s.passages = a ++ p :: b) (ht : t.passages = a ++ (rest ++ b))
  (hrest : rest = [] ∧ (p.resolved g i it).unruled = 0 ∨ rest = [p.resolved g i it])
include hphase hit hr hs ht hrest

theorem alarmDue_of_resolved (halarms : t.alarms = s.alarmsRuled p it.fallback) (hsound : t.sounding = s.sounding)
    (k : Lane) : t.alarmDue k = s.alarmDue k := by
  have hafter : t.passages.any (fun p => p.soundsIn k) =
      (a.any (fun p => p.soundsIn k) || ((p.resolved g i it).soundsIn k || b.any fun p => p.soundsIn k)) := by
    rw [ht, List.any_append, List.any_append, any_rest hrest]
  have hbefore : s.passages.any (fun p => p.soundsIn k) = (it.alarmsIn p k (!p.flags.countOnly) ||
      t.passages.any fun p => p.soundsIn k) := by
    rw [hafter, hs, List.any_append, List.any_cons, soundsIn_resolved (g := g) hphase hit hr k]
    cases it.alarmsIn p k (!p.flags.countOnly) <;> simp
  unfold State.alarmDue
  rw [halarms, alarmsRuled_getElem, hsound, hbefore]
  change _ = if (it.alarmsIn p k (!p.flags.countOnly) || _) = true then _ else _
  change (if _ then _ else if it.alarmsIn p k (!p.flags.countOnly) = true then _ else _) = _
  cases it.alarmsIn p k (!p.flags.countOnly) <;> simp

include hg in
theorem countDue_of_resolved (hcounts : t.counts = s.countsRuled p g it.fallback) (k : Lane) :
    t.countDue k = s.countDue k := by
  have hafter : t.passages.countP (fun p => p.countsIn k) =
      a.countP (fun p => p.countsIn k) +
        ((if (p.resolved g i it).countsIn k then 1 else 0) + b.countP fun p => p.countsIn k) := by
    rw [ht, List.countP_append, List.countP_append, countP_rest hrest]
  have hbefore : s.passages.countP (fun p => p.countsIn k) =
      (if it.alarmsIn p k (!g.mark) then 1 else 0) + t.passages.countP fun p => p.countsIn k := by
    rw [hafter, hs, List.countP_append, List.countP_cons, countsIn_resolved hphase hg hit hr k]
    omega
  have hsum : min ((if it.alarmsIn p k (!g.mark) then min (s.counts[k].withAlarm + 1) 4294967295
      else s.counts[k].withAlarm) + t.passages.countP fun p => p.countsIn k) 4294967295 =
      min (s.counts[k].withAlarm + s.passages.countP fun p => p.countsIn k) 4294967295 := by
    rw [hbefore]
    by_cases h : it.alarmsIn p k (!g.mark) = true
    · rw [if_pos h, if_pos h]
      omega
    · rw [if_neg h, if_neg h]
      omega
  unfold State.countDue
  rw [hcounts, countsRuled_getElem]
  exact congrArg (fun n => ({ s.counts[k] with withAlarm := n } : LaneCounts)) hsum

omit hit hr hrest in
theorem filter_of_resolved (hrest : ∀ q ∈ rest, q.phase = .judging) :
    t.passages.filter (fun p => p.phase != .judging) = s.passages.filter fun p => p.phase != .judging := by
  have hnone : rest.filter (fun p => p.phase != .judging) = [] := List.filter_eq_nil_iff.mpr fun q hq => by simp [hrest q hq]
  rw [ht, hs, List.filter_append, List.filter_append, List.filter_append, List.filter_cons, hnone, if_neg (by simp [hphase])]
  rfl

end Lanes

theorem ending_of_resolved {t : State} {a b rest : List Passage} (hphase : p.phase = .judging)
    (hs : s.passages = a ++ p :: b) (ht : t.passages = a ++ (rest ++ b)) (hrest : ∀ q ∈ rest, q.phase = .judging) :
    s.ending + rest.length = t.ending + 1 := by
  have hall : rest.countP (fun p => p.phase == .judging) = rest.length :=
    List.countP_eq_length.mpr fun q hq => beq_iff_eq.mpr (hrest q hq)
  unfold State.ending
  rw [ht, hs, List.countP_append, List.countP_append, List.countP_append, List.countP_cons, hall,
    if_pos (beq_iff_eq.mpr hphase)]
  omega

section Whole
variable {t : State} {a b rest : List Passage} (hs : s.Resolvable) (hphase : p.phase = .judging)
  (hit : p.items[i]? = some it) (hr : it.ruling = none)
  (ht : t = ((s.noticed p g it it.fallback .standalone).reported g (p.resolved g i it)).withLanes
    (s.tableRuled g (p.resolved g i it)) (s.countsRuled p g it.fallback) (s.alarmsRuled p it.fallback))
  (hl : s.passages = a ++ p :: b) (hpassages : t.passages = a ++ (rest ++ b))
  (hcases : (g.undecided ≤ 1 ∧ rest = [] ∧ (p.resolved g i it).unruled = 0) ∨
    (¬g.undecided ≤ 1 ∧ rest = [p.resolved g i it] ∧ 0 < (p.resolved g i it).unruled ∧
      g.undecided - 1 = (p.resolved g i it).unruled))
include hs hphase ht hl hpassages hcases

omit hs ht hl hpassages in
theorem judging_of_rest : ∀ q ∈ rest, q.phase = .judging := fun q hq => by
  rcases hcases with ⟨-, rfl, -⟩ | ⟨-, rfl, -⟩
  · cases hq
  · rw [List.mem_singleton.mp hq]
    exact hphase

include hit hr

/-- What one question resolved leaves of the queues. -/
theorem queues_of_resolved :
    (s.sending ≠ none →
      t.sending = s.sending ∧ s.reports <+: t.reports ∧ t.reportsDue = s.reportsDue ∧ t.lostDue = s.lostDue) ∧
    s.device.reportsLost ≤ t.device.reportsLost ∧ t.reports.length ≤ 16 ∧ t.device.reportsLost ≤ 65535 ∧
    t.device.queryTimeouts = s.device.queryTimeouts ∧
    ((∃ q ∈ t.passages, q.phase = .judging ∧ q.standaloneBody = p.standaloneBody) ∨ Delivered s t p.standaloneBody) := by
  have hidle := hs.idle.noticed (p := p) (g := g) (it := it) (v := it.fallback) (reason := .standalone)
  obtain ⟨hreports, hlost, htimeouts, hsending⟩ := noticed_keeps hs.idle p g it it.fallback .standalone
  have hending := ending_of_resolved hphase hl hpassages (judging_of_rest hphase hcases)
  have hbodyOf := standaloneBody_resolved (g := g) hit hr
  generalize s.noticed p g it it.fallback .standalone = m at ht hidle hreports hlost htimeouts hsending
  have htr : t.reports = (m.reported g (p.resolved g i it)).reports := by rw [ht]; rfl
  have hts : t.sending = (m.reported g (p.resolved g i it)).sending := by rw [ht]; rfl
  have htd : t.device = (m.reported g (p.resolved g i it)).device := by rw [ht]; rfl
  clear ht
  rcases hcases with ⟨hle, rfl, hnone⟩ | ⟨hle, rfl, -, -⟩
  · obtain ⟨hqueued, hkept⟩ := queueReport_queued hidle (reportBody (p.resolved g i it))
    rw [State.reported, if_pos hle] at htr hts htd
    have hqueued' : Queued m t (reportBody (p.resolved g i it)) := by
      unfold Queued
      rw [hts, htr, htd]
      exact hqueued
    obtain ⟨hsent, hless, hqueue, hbound, hdelivered⟩ := hqueued'.due hs hreports hlost hsending hending
    rw [← standaloneBody_of_ruled hnone, hbodyOf] at hdelivered
    exact ⟨hsent, hless, hqueue, hbound, htd ▸ hkept.trans htimeouts, .inr hdelivered⟩
  · rw [State.reported, if_neg hle] at htr hts htd
    have hreports' := htr.trans hreports
    have hlost' : t.device.reportsLost = s.device.reportsLost := (congrArg DeviceCounters.reportsLost htd).trans hlost
    have hend : t.ending = s.ending := (Nat.succ.inj hending).symm
    refine ⟨fun hne => ⟨hts.trans (hsending hne), hreports' ▸ List.prefix_refl _, ?_, ?_⟩, hlost'.ge, hreports' ▸ hs.queue,
      hlost' ▸ hs.lost, (congrArg DeviceCounters.queryTimeouts htd).trans htimeouts,
      .inl ⟨p.resolved g i it, ?_, hphase, hbodyOf⟩⟩
    · rw [State.reportsDue, State.reportsDue, hreports', hend]
    · rw [State.lostDue, State.lostDue, hreports', hlost', hend]
    · rw [hpassages]
      simp

omit hphase hit hr in
/-- And that the next question finds what this one found. -/
theorem resolvable_of_resolved (hqueue : t.reports.length ≤ 16) (hbound : t.device.reportsLost ≤ 65535) :
    t.Resolvable := by
  have hidle : t.TxIdle := by
    rw [ht]
    exact (hs.idle.noticed (p := p) (g := g) (it := it) (v := it.fallback) (reason := .standalone)).reported g
      (p.resolved g i it)
  have hcounts : t.counts = s.countsRuled p g it.fallback := by rw [ht]; rfl
  clear ht
  refine ⟨?_, hidle, hqueue, hbound, fun k => ?_, fun q hq hqphase => ?_⟩
  · have hnumbers := hs.distinct
    rw [State.numbers, hl] at hnumbers
    rw [State.numbers, hpassages]
    rcases hcases with ⟨-, rfl, -⟩ | ⟨-, rfl, -⟩
    · exact hnumbers.sublist (List.Sublist.map _ (List.Sublist.append_left (List.sublist_cons_self p b) a))
    · rw [List.map_append, List.map_append, List.map_singleton]
      rw [List.map_append, List.map_cons] at hnumbers
      exact hnumbers
  · have hcounted := hs.counted k
    rw [hcounts, countsRuled_getElem]
    dsimp only
    split
    · exact min_le_right _ _
    · exact hcounted
  · rw [hpassages] at hq
    by_cases hin : q ∈ rest
    · rcases hcases with ⟨-, rfl, -⟩ | ⟨-, rfl, hpos, hcount⟩
      · cases hin
      · rw [List.mem_singleton.mp hin]
        exact ⟨hpos, congrArg some hcount⟩
    · refine hs.judging q ?_ hqphase
      rw [hl]
      simp only [List.mem_append, List.mem_cons] at hq ⊢
      tauto

end Whole

/-- One question resolved leaves due what was (R117, R118, R121, R133). -/
theorem resolved_of_verdict {t : State} (hs : s.Resolvable) (hp : p ∈ s.passages) (hphase : p.phase = .judging)
    (hg : p.judging = some g) (hit : p.items[i]? = some it) (hr : it.ruling = none)
    (ht : t = ((s.noticed p g it it.fallback .standalone).reported g (p.resolved g i it)).withLanes
      (s.tableRuled g (p.resolved g i it)) (s.countsRuled p g it.fallback) (s.alarmsRuled p it.fallback)) :
    Resolved s t := by
  obtain ⟨a, b, rest, hl, htable, hcases⟩ := exists_split_resolved hs hp hphase hg hit hr
  have hrest : rest = [] ∧ (p.resolved g i it).unruled = 0 ∨ rest = [p.resolved g i it] :=
    hcases.imp (fun h => h.2) fun h => h.2.1
  have hframe := noticed_reported_frame s p g it it.fallback .standalone (p.resolved g i it)
  have hpassages : t.passages = a ++ (rest ++ b) := by rw [← htable, ht]; rfl
  have hsound : t.sounding = s.sounding := by
    rw [ht]
    unfold State.sounding
    rw [← hframe.gateTime, ← hframe.params]
    rfl
  have hcounts : t.counts = s.countsRuled p g it.fallback := by rw [ht]; rfl
  have halarms : t.alarms = s.alarmsRuled p it.fallback := by rw [ht]; rfl
  obtain ⟨hsent, hless, hqueue, hbound, hkept, hbody⟩ := queues_of_resolved hs hphase hit hr ht hl hpassages hcases
  refine ⟨filter_of_resolved hphase hl hpassages (judging_of_rest hphase hcases),
    alarmDue_of_resolved hphase hit hr hl hpassages hrest halarms hsound,
    countDue_of_resolved hphase hg hit hr hl hpassages hrest hcounts, hsent, hless, hkept, fun q hq hqphase => ?_,
    resolvable_of_resolved hs ht hl hpassages hcases hqueue hbound⟩
  by_cases hqp : q = p
  · exact hqp ▸ hbody
  · refine .inl ⟨q, ?_, hqphase, rfl⟩
    rw [hl] at hq
    rw [hpassages]
    simp only [List.mem_append, List.mem_cons] at hq ⊢
    tauto

end Step

end Sys2Proof.Machine
end

section
/-! SUPPORT. The silence expiry: every question resolved, and what is left when nothing is due any more (R133, R159). -/

namespace Sys2Proof.Machine

/-! ### One question -/

/-- A state that differs in slots, waiting list and link, with its transmitter idle all the same. -/
theorem State.Resolvable.recast {s t : State} (hs : s.Resolvable) (hidle : t.TxIdle) (hpassages : t.passages = s.passages)
    (hreports : t.reports = s.reports) (hdevice : t.device = s.device) (hcounts : t.counts = s.counts) : t.Resolvable where
  distinct := by rw [State.numbers, hpassages]; exact hs.distinct
  idle := hidle
  queue := hreports ▸ hs.queue
  lost := hdevice ▸ hs.lost
  counted k := hcounts ▸ hs.counted k
  judging := hpassages ▸ hs.judging

/-- A slot freed leaves due what was. -/
theorem Resolved.setSlot {s t : State} (h : Resolved s t) (j : SlotNo) : Resolved s (t.setSlot j none) where
  others := h.others
  alarms := h.alarms
  counts := h.counts
  sending := h.sending
  lost := h.lost
  timeouts := h.timeouts
  bodies p hp hphase := (h.bodies p hp hphase).imp_right fun ⟨hbusy, hwhere⟩ => ⟨hbusy, hwhere⟩
  resolvable := h.resolvable.recast (h.resolvable.idle.setSlot j) rfl rfl rfl rfl

/-- So does a reference taken from the waiting list. -/
theorem Resolved.of_unwait {s t : State} {l : List ItemRef} (h : Resolved { s with waiting := l } t) : Resolved s t where
  others := h.others
  alarms := h.alarms
  counts := h.counts
  sending := h.sending
  lost := h.lost
  timeouts := h.timeouts
  bodies p hp hphase := (h.bodies p hp hphase).imp_right fun ⟨hbusy, hwhere⟩ => ⟨hbusy, hwhere⟩
  resolvable := h.resolvable

theorem judging_of_resolvable {s : State} (hs : s.Resolvable) {p : Passage} (hp : p ∈ s.passages)
    (hphase : p.phase = .judging) : ∃ g, p.judging = some g := by
  obtain ⟨-, hg⟩ := hs.judging p hp hphase
  obtain ⟨g, hg, -⟩ := Option.map_eq_some_iff.mp hg
  exact ⟨g, hg⟩

/-- The head of the waiting list resolved by STANDALONE. -/
theorem resolved_of_waiting {s : State} (hs : s.Resolvable) (ht : s.Table) {r : ItemRef} {it : Item} (hit : s.item? r = some it)
    (hr : it.ruling = none) (hslot : it.slot = none) (l : List ItemRef) :
    Resolved s ((({ s with waiting := l } : State).giveFallback r .standalone).completeIfDone r.passage) := by
  obtain ⟨p, hp, hphase, hitem⟩ := ht.judging_of_item hit
  obtain ⟨hmem, -⟩ := passage?_mem hp
  obtain ⟨g, hg⟩ := judging_of_resolvable hs hmem hphase
  have hs' : ({ s with waiting := l } : State).Resolvable := hs.recast hs.idle rfl rfl rfl rfl
  have hfallback : ({ s with waiting := l } : State).fallbackOf r = it.fallback := by
    have hit' : ({ s with waiting := l } : State).item? r = some it := hit
    rw [State.fallbackOf, hit']
    rfl
  have hresolved : p.resolved g r.position it = p.ruled g r.position it it.fallback .standalone := by
    rw [Passage.resolved, ← hslot]
  rw [giveFallback_eq, hfallback]
  refine Resolved.of_unwait (l := l) (resolved_of_verdict hs' hmem hphase hg hitem hr ?_)
  rw [hresolved]
  exact decideAndComplete (s := { s with waiting := l }) hs.distinct hp hphase hg hitem hr it.fallback .standalone

/-- A slot in flight resolved by STANDALONE: what is due stays so, and the other slots stay. -/
theorem resolved_of_slot {s : State} (hs : s.Resolvable) (ht : s.Table) {j : SlotNo} {q : Question} (hj : s.slots[j] = some q)
    {it : Item} (hit : s.item? q.ref = some it) (hr : it.ruling = none) :
    Resolved s (((s.freeSlot j).giveFallback q.ref .standalone).completeIfDone q.ref.passage) ∧
      (((s.freeSlot j).giveFallback q.ref .standalone).completeIfDone q.ref.passage).slots = s.slots.set j none := by
  obtain ⟨p, hp, hphase, hitem⟩ := ht.judging_of_item hit
  obtain ⟨hmem, -⟩ := passage?_mem hp
  obtain ⟨g, hg⟩ := judging_of_resolvable hs hmem hphase
  have hasked : s.asked? j = some (q.ref, q.item) := congrArg (Option.map Question.about) hj
  obtain ⟨-, -, -, hafter⟩ := freeSlot_spec hasked
  have hfallback : (s.freeSlot j).fallbackOf q.ref = it.fallback := by
    rw [State.fallbackOf, hafter, if_pos rfl, hit]
    rfl
  rw [giveFallback_eq, hfallback, endQuestion_eq hs.distinct hs.idle hj hp hphase hg hitem hr]
  have hverdict := resolved_of_verdict hs hmem hphase hg hitem hr rfl
  have hslots := slots_noticed_reported (p := p) (g := g) (it := it) (v := it.fallback) (reason := .standalone)
    (done := p.resolved g q.ref.position it) hs.idle
  exact ⟨hverdict.setSlot j, congrArg (fun v => v.set j none) hslots⟩

/-! ### All questions -/

theorem resolved_resolveSlots {l : List (SlotNo × Question)} (hl : (l.map Prod.fst).Nodup) {s : State} (ht : s.Table)
    (h : s.Placing nowhere) (hs : s.Resolvable) (hslots : ∀ x ∈ l, s.slots[x.1] = some x.2) :
    Resolved s (resolveSlots l s) := by
  induction l generalizing s with
  | nil => exact .refl hs
  | cons x l ih =>
    obtain ⟨j, q⟩ := x
    obtain ⟨hj, hl⟩ : j ∉ l.map Prod.fst ∧ (l.map Prod.fst).Nodup := List.nodup_cons.mp hl
    have hslot : s.slots[j] = some q := hslots (j, q) (List.mem_cons_self ..)
    have hasked : s.asked? j = some (q.ref, q.item) := congrArg (Option.map Question.about) hslot
    obtain ⟨it, hit, hr, -⟩ := h.inSlot j _ _ hasked
    obtain ⟨hone, hafter⟩ := resolved_of_slot hs ht hslot hit hr
    obtain ⟨ht', h', -⟩ := endQuestion_keeps ht h hasked ((s.freeSlot j).fallbackOf q.ref) .standalone
    rw [← giveFallback_eq] at ht' h'
    refine hone.trans (ih hl ht' h' hone.resolvable fun y hy => ?_)
    have hne : j ≠ y.1 := fun heq => hj (heq ▸ List.mem_map_of_mem hy)
    rw [hafter, getElem_set_slots, if_neg hne]
    exact hslots y (List.mem_cons_of_mem _ hy)

theorem resolved_resolveWaiting {l : List ItemRef} {s : State} (hw : s.waiting = l) (ht : s.Table) (h : s.Placing nowhere)
    (hs : s.Resolvable) : Resolved s (resolveWaiting l s) := by
  induction l generalizing s with
  | nil => exact .refl hs
  | cons r l ih =>
    obtain ⟨it, hit, hr, hslot⟩ := h.waits r (hw ▸ List.mem_cons_self ..)
    have hone := resolved_of_waiting hs ht hit hr hslot l
    obtain ⟨ht', h', -, hwaiting⟩ := endWaiting_keeps ht h hw (({ s with waiting := l } : State).fallbackOf r) .standalone
    rw [← giveFallback_eq] at ht' h' hwaiting
    exact hone.trans (ih hwaiting ht' h' hone.resolvable)

theorem resolved_resolveStandalone {s : State} (ht : s.Table) (h : s.Placing nowhere) (hs : s.Resolvable) :
    Resolved s s.resolveStandalone := by
  have hslots := resolved_resolveSlots (slotsInOrder_nodup s) ht h hs fun x hx => mem_slotsInOrder.mp hx
  obtain ⟨ht', h', -⟩ := resolveSlots_keeps (slotsInOrder_nodup s) ht h fun x hx =>
    congrArg (Option.map Question.about) (mem_slotsInOrder.mp hx)
  exact hslots.trans (resolved_resolveWaiting rfl ht' h' hslots.resolvable)

/-! ### Nothing due any more -/

/-- With nothing in flight and nothing waiting no passage is in JUDGING (R115, R121). -/
theorem no_judging {s : State} (hs : s.Resolvable) (h : s.AskLaw) (hw : s.waiting = []) (hfree : ∀ j, s.asked? j = none) :
    ∀ p ∈ s.passages, p.phase ≠ .judging := fun p hp hphase => by
  obtain ⟨hpos, -⟩ := hs.judging p hp hphase
  obtain ⟨it, hit, hr⟩ := List.countP_pos_iff.mp hpos
  obtain ⟨i, hi, rfl⟩ := List.mem_iff_getElem.mp hit
  have hitem : s.item? ⟨p.number, i⟩ = some p.items[i] := by
    rw [item?_of_passage (r := ⟨p.number, i⟩) (passage?_of_mem hs.distinct hp)]
    exact List.getElem?_eq_getElem hi
  have hplace := h.placing.placed _ _ hitem (Option.isNone_iff_eq_none.mp hr) id
  cases hslot : p.items[i].slot with
  | none =>
    rw [hslot] at hplace
    have hmem : (⟨p.number, i⟩ : ItemRef) ∈ s.waiting := hplace
    rw [hw] at hmem
    cases hmem
  | some j =>
    rw [hslot, State.hasPlace_some, hfree] at hplace
    cases hplace

section Done
variable {s : State} (hdone : ∀ p ∈ s.passages, p.phase ≠ .judging)
include hdone

theorem dueAlarm_of_done {p : Passage} (hp : p ∈ s.passages) : p.dueAlarm = false := by
  rw [Passage.dueAlarm, beq_false_of_ne (hdone p hp), Bool.false_and]

theorem alarmDue_of_done (k : Lane) : s.alarmDue k = s.alarms[k] := by
  have hnone : s.passages.any (fun p => p.soundsIn k) = false := List.any_eq_false.mpr fun p hp => by
    simp [Passage.soundsIn, dueAlarm_of_done hdone hp]
  rw [State.alarmDue, hnone]
  rfl

theorem countDue_of_done (hs : s.Resolvable) (k : Lane) : s.countDue k = s.counts[k] := by
  have hnone : s.passages.countP (fun p => p.countsIn k) = 0 := List.countP_eq_zero.mpr fun p hp => by
    simp [Passage.countsIn, dueAlarm_of_done hdone hp]
  rw [State.countDue, hnone, Nat.add_zero, min_eq_left (hs.counted k)]

theorem ending_of_done : s.ending = 0 := List.countP_eq_zero.mpr fun p hp => by simp [hdone p hp]

theorem reportsDue_of_done (hs : s.Resolvable) : s.reportsDue = s.reports.length := by
  rw [State.reportsDue, ending_of_done hdone, Nat.add_zero, min_eq_left hs.queue]

theorem lostDue_of_done (hs : s.Resolvable) : s.lostDue = s.device.reportsLost := by
  rw [State.lostDue, ending_of_done hdone, Nat.add_zero, Nat.sub_eq_zero_of_le hs.queue, Nat.add_zero, min_eq_left hs.lost]

end Done

/-- The laws between events give what the resolving starts from. -/
theorem resolvable_of_laws {s : State} (hp : s.passageLaw) (hl : s.linkLaw) (hc : s.counterLaw) : s.Resolvable := by
  have hidle := txIdle_of_linkLaw hl
  obtain ⟨-, hdistinct, -, -, -, hlawful, -⟩ := hp
  obtain ⟨-, -, hreports, -⟩ := hl
  obtain ⟨-, hdevice, hcounts⟩ := hc
  obtain ⟨-, -, -, -, -, -, -, -, -, hlost⟩ := hdevice
  refine ⟨hdistinct, hidle, hreports, hlost, fun k => ?_, fun p hp hphase => ?_⟩
  · obtain ⟨-, -, -, -, -, -, hwith⟩ := hcounts k
    exact hwith
  · obtain ⟨-, -, -, -, -, -, -, -, -, -, hjudging⟩ := hlawful p hp
    exact hjudging hphase

/-! ### The expiry -/

/-- The link STANDALONE with its timer stopped, before any question is resolved (R159). -/
def State.silenced (s : State) : State := { s with linked := false, silence := none }

theorem silenceTimerExpiry_of_fires {s : State} (h : fires s.silence s.gateTime = true) :
    silenceTimerExpiry s = s.silenced.resolveStandalone.recomputeLines := if_pos h

/-- What the resolving of all questions leaves of them, and of the table. -/
theorem resolveStandalone_spec {s : State} (hpass : s.passageLaw) (hquery : s.queryLaw) (hlink : s.linkLaw)
    (hcounter : s.counterLaw) :
    Resolved s.silenced s.silenced.resolveStandalone ∧ s.silenced.resolveStandalone.slots = Vector.replicate 4 none ∧
      s.silenced.resolveStandalone.waiting = [] ∧
      ∀ p ∈ s.silenced.resolveStandalone.passages, p.phase ≠ .judging := by
  have hlaw := askLaw_of_queryLaw hpass hquery
  have htable : s.silenced.Table := ⟨hlaw.table.distinct, hlaw.table.tallied⟩
  have hplacing : s.silenced.Placing nowhere :=
    hlaw.placing.recast (fun _ => rfl) rfl (fun _ _ => rfl) fun _ _ h => h.elim
  have hstart : s.silenced.Resolvable := by
    have hs := resolvable_of_laws hpass hlink hcounter
    exact hs.recast hs.idle rfl rfl rfl rfl
  have hresolved := resolved_resolveStandalone htable hplacing hstart
  obtain ⟨hafter, hwaiting, hfree⟩ := resolveStandalone_keeps htable hplacing
  refine ⟨hresolved, Vector.ext fun j hj => ?_, hwaiting, no_judging hresolved.resolvable hafter hwaiting hfree⟩
  rw [Vector.getElem_replicate]
  exact Option.map_eq_none_iff.mp (hfree ⟨j, hj⟩)

/-! ### The words of the statement -/

theorem fallback_eq (it : Item) :
    (if it.classFields.map ItemClass.fallbackPass = some true then .pass else .alarm : Verdict) = it.fallback := by
  unfold Item.fallback
  cases it.classFields with
  | none => rfl
  | some c => cases h : c.fallbackPass <;> simp [h]

/-- Settles O42: what is due of lanes, counts and queues before the expiry is there after it, for nothing is due any more. -/
theorem silenceResolvesQuestions : Obligations.SilenceResolvesQuestions := by
  intro s hfires hpass hquery hlink hcounter
  simp only [fallback_eq]
  obtain ⟨h, hslots, hwaiting, hdone⟩ := resolveStandalone_spec hpass hquery hlink hcounter
  have hframe := resolveStandalone_frame s.silenced
  refine ⟨_, congrArg Host.Outcome.next (silenceTimerExpiry_of_fires hfires), ?_⟩
  have hlines := recomputeLines_agrees s.silenced.resolveStandalone
  generalize s.silenced.resolveStandalone = t at *
  have hothers : t.passages.filter (fun p => p.phase != .judging) = t.passages :=
    List.filter_eq_self.mpr fun p hp => bne_iff_ne.mpr (hdone p hp)
  have hending : (s.passages.filter fun p => p.phase == .judging).length = s.silenced.ending :=
    List.countP_eq_length_filter.symm
  refine ⟨⟨hframe.linked, hframe.silence, hslots, hwaiting, h.timeouts, hframe.loans, hframe.params, hlines⟩,
    ⟨hothers.symm.trans h.others, fun p hp hphase => ?_, fun hbusy => ?_⟩, fun k => ⟨?_, ?_⟩⟩
  · rcases h.bodies p hp hphase with ⟨q, hq, hqphase, -⟩ | ⟨-, hsomewhere⟩
    · exact absurd hqphase (hdone q hq)
    · exact hsomewhere
  · obtain ⟨hsending, hpre, hreports, hlost⟩ := h.sending hbusy
    rw [reportsDue_of_done hdone h.resolvable] at hreports
    rw [lostDue_of_done hdone h.resolvable] at hlost
    rw [hending]
    exact ⟨hsending, hpre, hreports, hlost⟩
  · exact (alarmDue_of_done hdone k).symm.trans (h.alarms k)
  · refine ((countDue_of_done hdone h.resolvable k).symm.trans (h.counts k)).trans ?_
    rw [State.countDue, List.countP_eq_length_filter]
    rfl

end Sys2Proof.Machine
end

section
/-! SUPPORT. What the transmitter sends when a frame has left the line, and its queues between events (07; 09,
section 9.5). -/

namespace Sys2Proof.Machine

/-! ### The PENDING question of the earliest order (R124, R127) -/

theorem before_asymm {a b : Time} (h : before a b = true) : before b a = false := by
  rw [Bool.eq_false_iff]
  simp only [before, due, ne_eq, Bool.and_eq_true, bne_iff_ne, decide_eq_true_eq, not_and] at h ⊢
  bv_omega

/-- One question is earlier than every other: wherever it stands in the list, it is the one found. -/
theorem foldl_before_of_least {x : SlotNo × Question} {l : List (SlotNo × Question)} {best : SlotNo × Question}
    (hx : x ∈ best :: l) (hleast : ∀ y ∈ best :: l, y = x ∨ before x.2.order y.2.order = true) :
    l.foldl (fun best y => if before y.2.order best.2.order then y else best) best = x := by
  induction l generalizing best with
  | nil => exact (List.mem_singleton.mp hx).symm
  | cons y l ih =>
    obtain ⟨hbest, hy, hl⟩ : _ ∧ _ ∧ _ := by simpa only [List.forall_mem_cons] using hleast
    rw [List.foldl_cons]
    split
    next hlt =>
      refine ih ((List.mem_cons.mp hx).resolve_left ?_) (List.forall_mem_cons.mpr ⟨hy, hl⟩)
      rintro rfl
      rcases hy with rfl | hy
      · simp [before] at hlt
      · simp [before_asymm hy] at hlt
    next hge =>
      refine ih (List.mem_cons.mpr ?_) (List.forall_mem_cons.mpr ⟨hbest, hl⟩)
      rcases List.mem_cons.mp hx with rfl | hx
      · exact .inl rfl
      rcases List.mem_cons.mp hx with rfl | hx
      · exact .inl (hbest.resolve_right hge).symm
      · exact .inr hx

theorem earliestQuestion_of_least {x : SlotNo × Question} {l : List (SlotNo × Question)} (hx : x ∈ l)
    (hleast : ∀ y ∈ l, y = x ∨ before x.2.order y.2.order = true) : earliestQuestion l = some x := by
  cases l with
  | nil => cases hx
  | cons y l => exact congrArg some (foldl_before_of_least hx hleast)

/-- The PENDING question of the earliest order is the one the transmitter finds. -/
theorem earliestQuestion_pendingSlots {s : State} {j : SlotNo} {q : Question} (hq : s.slots[j] = some q)
    (hasked : q.asked = false)
    (hfirst : ∀ (i : SlotNo) (q' : Question), s.slots[i] = some q' → q'.asked = false →
      i = j ∨ before q.order q'.order = true) :
    earliestQuestion s.pendingSlots = some (j, q) := by
  refine earliestQuestion_of_least (mem_pendingSlots.mpr ⟨hq, hasked⟩) fun ⟨i, q'⟩ hmem => ?_
  obtain ⟨hq', hasked'⟩ := mem_pendingSlots.mp hmem
  refine (hfirst i q' hq' hasked').imp_left fun hij => ?_
  subst hij
  rw [Option.some.inj (hq'.symm.trans hq)]

theorem pendingSlots_of_all_asked {s : State} (h : ∀ (j : SlotNo) (q : Question), s.slots[j] = some q → q.asked = true) :
    s.pendingSlots = [] := by
  refine List.eq_nil_iff_forall_not_mem.mpr fun ⟨j, q⟩ hmem => ?_
  obtain ⟨hq, hasked⟩ := mem_pendingSlots.mp hmem
  exact absurd (h j q hq) (Bool.eq_false_iff.mp hasked)

/-! ### What a FREE transmitter begins (R164) -/

theorem arbitrateTx_of_reply {s : State} (h : s.sending = none) {b : Body} (hb : s.reply = some b) :
    s.arbitrateTx = { s with sending := some ⟨frameOf b, s.restartPending⟩, reply := none } := by
  unfold State.arbitrateTx
  rw [h, hb]

theorem arbitrateTx_of_earliest {s : State} (h : s.sending = none) (hreply : s.reply = none) {j : SlotNo} {q : Question}
    (hq : earliestQuestion s.pendingSlots = some (j, q)) :
    s.arbitrateTx = { s.setSlot j (some { q with asked := true }) with sending := some ⟨frameOf q.query, false⟩ } := by
  unfold State.arbitrateTx
  rw [h, hreply, hq]

/-- With nothing to send the transmitter stays FREE. -/
theorem arbitrateTx_of_nothing {s : State} (hreply : s.reply = none) (hq : s.pendingSlots = []) (hn : s.notices = [])
    (hr : s.reports = []) : s.arbitrateTx = s := by
  cases h : s.sending with
  | some f => exact arbitrateTx_of_busy h
  | none =>
    unfold State.arbitrateTx
    rw [h, hreply, hq, hn, hr]
    rfl

/-! ### The end of a transmission (R161, R164) -/

theorem takeWaiting_of_empty {s : State} (h : s.buffers = []) : s.takeWaiting = s := by
  rw [State.takeWaiting, h]
  rfl

/-- A frame that was not the reply to a RESTART leaves the line. -/
theorem frameLeftLine_of_plain {s : State} {f : Sending} (h : s.sending = some f) (hf : f.restartReply = false) :
    frameLeftLine s = { s with sending := none }.arbitrateTx.takeWaiting := by
  unfold frameLeftLine
  rw [h]
  simp [hf]

/-- With the buffers empty, nothing follows the arbiter's choice. -/
theorem exec_frameLeftLine_of_empty {s t : State} {f : Sending} (h : s.sending = some f) (hf : f.restartReply = false)
    (ht : ({ s with sending := none } : State).arbitrateTx = t) (hb : t.buffers = []) :
    exec .frameLeftLine s = .next t :=
  congrArg Host.Outcome.next ((frameLeftLine_of_plain h hf).trans ((congrArg _ ht).trans (takeWaiting_of_empty hb)))

/-! ### Notices and reports (R165, R166) -/

theorem queueNotice_of_room {s : State} (hs : s.TxIdle) (hroom : s.notices.length < Config.maxNotices) (b : Body) :
    s.queueNotice b = if s.sending = none then { s with sending := some ⟨frameOf b, false⟩ }
      else { s with notices := s.notices ++ [b] } := by
  split
  next hfree => exact queueNotice_of_free hs hfree b
  next hbusy =>
    obtain ⟨f, hf⟩ := Option.ne_none_iff_exists'.mp hbusy
    rw [queueNotice_of_busy hf, if_pos hroom]

theorem queueReport_of_room {s : State} (hs : s.TxIdle) (hroom : s.reports.length < Config.maxReports) (b : Body) :
    s.queueReport b = if s.sending = none then { s with sending := some ⟨frameOf b, false⟩ }
      else { s with reports := s.reports ++ [b] } := by
  split
  next hfree => exact queueReport_of_free hs hfree b
  next hbusy =>
    obtain ⟨f, hf⟩ := Option.ne_none_iff_exists'.mp hbusy
    rw [queueReport_of_busy hf, if_pos hroom]

/-- Settles O50: the end of a transmission source by source in the arbiter's order, then the two queues with room and full. -/
theorem transmitterPrecedence : Obligations.TransmitterPrecedence := by
  refine ⟨fun s f hsend hf hrestart => ⟨fun b hb => ?_, fun hreply hbuf => ⟨fun j q hq hasked hfirst => ?_, fun hall => ?_⟩⟩,
    fun s b hlaw => ?_⟩
  · have hsent : ({ s with sending := none } : State).arbitrateTx =
        { s with reply := none, sending := some ⟨frameOf b, false⟩ } := by
      rw [arbitrateTx_of_reply (s := { s with sending := none }) rfl hb, hrestart]
    refine ⟨exec_frameLeftLine_of_empty hsend hf hsent, fun body hbuf => congrArg Host.Outcome.next ?_⟩
    rw [frameLeftLine_of_plain hsend hf, hsent]
    exact takeWaiting_of_one hbuf rfl hrestart
  · exact exec_frameLeftLine_of_empty hsend hf
      (arbitrateTx_of_earliest (s := { s with sending := none }) rfl hreply
        (earliestQuestion_pendingSlots hq hasked hfirst)) hbuf
  · have hpending := pendingSlots_of_all_asked (s := { s with sending := none }) hall
    refine ⟨fun b rest hn => ?_, fun hn b rest hr => ?_, fun hn hr => ?_⟩
    · exact exec_frameLeftLine_of_empty hsend hf
        (arbitrateTx_of_notice (s := { s with sending := none }) rfl hreply hpending hn) hbuf
    · exact exec_frameLeftLine_of_empty hsend hf
        (arbitrateTx_of_report (s := { s with sending := none }) rfl hreply hpending hn hr) hbuf
    · exact exec_frameLeftLine_of_empty hsend hf
        (arbitrateTx_of_nothing (s := { s with sending := none }) hreply hpending hn hr) hbuf
  · have hidle := txIdle_of_linkLaw hlaw
    exact ⟨fun hroom => queueNotice_of_room hidle hroom b, fun hfull => queueNotice_of_full (Nat.not_lt.mpr hfull) b,
      fun hroom => queueReport_of_room hidle hroom b, fun hfull => queueReport_of_full (Nat.not_lt.mpr hfull) b⟩

end Sys2Proof.Machine
end

section
/-! SUPPORT. Output lines one by one (08, section 8.4): level and phase agree with activity through every operation, and what the
activity of a line depends on. -/

namespace Sys2Proof.Machine

/-! ### Level and phase (R147, R148) -/

section Line
variable {l : LineState}

/-- What an event writes into a line that has become inactive. -/
theorem LineState.lawful_of_left (l : LineState) :
    LineState.lawful { l with active := false, level := false, pulse := none, resume := none } :=
  ⟨fun _ => ⟨rfl, rfl⟩, nofun, nofun⟩

/-- An active line is ON when STEADY, and has a pulse timer exactly when PULSED. -/
theorem LineState.lawful_of_active {level : Bool} {pulse : Option Time} (hpulse : pulse.isSome = l.pulsed)
    (hlevel : l.pulsed = false → level = true) :
    LineState.lawful { l with active := true, level := level, pulse := pulse, resume := none } :=
  ⟨nofun, fun _ => ⟨hpulse, hlevel⟩, nofun⟩

theorem LineState.lawful_start (l : LineState) (now : Time) : (l.start now).lawful :=
  LineState.lawful_of_active (by cases l.pulsed <;> rfl) fun _ => rfl

theorem LineState.lawful_follow (h : l.lawful) (driven : Bool) (now : Time) (keeps : Resume → Bool) :
    (l.follow driven now keeps).lawful := by
  unfold LineState.follow
  split
  · split
    · next r hr =>
      split
      · next hkept =>
        have hpulsed : l.pulsed = true := (Bool.and_eq_true_iff.mp hkept).1
        obtain ⟨-, -, hresume⟩ := h
        refine LineState.lawful_of_active (l := l) ((hresume r hr).trans hpulsed.symm) fun hsteady => ?_
        simp [hpulsed] at hsteady
      · exact LineState.lawful_start l now
    · exact LineState.lawful_start l now
  · exact LineState.lawful_of_left l
  · exact h

/-- A noted phase has its pulse timer, as it is noted of a PULSED line that was active (R138). -/
theorem LineState.lawful_noteLapse {old new : LineState} (hold : old.lawful) (hnew : new.lawful) (k : Lane) :
    (old.noteLapse new k).lawful := by
  unfold LineState.noteLapse
  split
  · next hlapse =>
    simp only [Bool.and_eq_true] at hlapse
    obtain ⟨⟨hwas, hpulsed⟩, -⟩ := hlapse
    obtain ⟨-, holdPulse, -⟩ := hold
    obtain ⟨hinactive, hactive, -⟩ := hnew
    refine ⟨hinactive, hactive, ?_⟩
    rintro r ⟨⟩
    exact (holdPulse hwas).1.trans hpulsed
  · exact hnew

theorem LineState.lawful_setPattern (h : l.lawful) (pulsed : Bool) (now : Time) : (l.setPattern pulsed now).lawful := by
  obtain ⟨hinactive, hactive, hresume⟩ := h
  unfold LineState.setPattern
  split
  · next hchange =>
    have hon : l.active = true := (Bool.and_eq_true_iff.mp hchange).1
    exact ⟨fun hoff => by simp [hon] at hoff, fun _ => ⟨by cases pulsed <;> rfl, fun _ => rfl⟩, hresume⟩
  · next hsame =>
    refine ⟨hinactive, fun hon => ?_, hresume⟩
    have hpulsed : l.pulsed = pulsed := by simpa [show l.active = true from hon] using hsame
    exact hpulsed ▸ hactive hon

/-- A pattern changes neither activity nor test. -/
theorem setPattern_frame (l : LineState) (pulsed : Bool) (now : Time) :
    (l.setPattern pulsed now).active = l.active ∧ (l.setPattern pulsed now).test = l.test := by
  unfold LineState.setPattern
  split <;> exact ⟨rfl, rfl⟩

/-- A pulse timer's expiry keeps the law, as only an active PULSED line has the timer (R148). -/
theorem LineState.lawful_turnOver (h : l.lawful) (hpulse : l.pulse.isSome = true) (e : Time) :
    LineState.lawful { l with level := !l.level, pulse := some e } := by
  obtain ⟨hinactive, hactive, hresume⟩ := h
  have hon : l.active = true := by
    by_contra hoff
    simp [(hinactive (Bool.not_eq_true _ ▸ hoff)).2] at hpulse
  have hpulsed : l.pulsed = true := (hactive hon).1.symm.trans hpulse
  exact ⟨fun hoff => by simp [hon] at hoff, fun _ => ⟨hpulsed.symm, fun hsteady => by simp [hpulsed] at hsteady⟩, hresume⟩

theorem LineState.lawful_atRestart (h : l.lawful) (now : Time) : (l.atRestart now).lawful := by
  obtain ⟨hinactive, hactive, -⟩ := h
  refine ⟨fun hoff => ⟨(hinactive hoff).1, ?_⟩, fun hon => ⟨?_, (hactive hon).2⟩, nofun⟩
  · exact congrArg (Option.map _) (hinactive hoff).2
  · exact (Option.isSome_map ..).trans (hactive hon).1

end Line

/-! ### What the activity of the lines depends on (R145, R146) -/

/-- The lines and what the activity of the thirteen sources is computed from. -/
structure DrivePart where
  lines : Vector LineState 6
  routes : Vector (BitVec 6) 13
  linked : Bool
  alarms : Vector LaneAlarm 4
  faults : Lane → Bool
  lanes : Nat
  out : Antenna → Bool

/-- The part of a state that drives its lines. -/
def State.drive (s : State) : DrivePart :=
  ⟨s.lines, s.routes, s.linked, s.alarms, fun k => s.trackers[k] == some .fault, s.params.lanes, s.countedOut⟩

theorem lineDriven_of_drive {s t : State} (h : t.drive = s.drive) (l : OutLine) : t.lineDriven l = s.lineDriven l := by
  obtain ⟨hlines, hroutes, hlinked, halarms, hfaults, hlanes, hout⟩ := DrivePart.mk.inj h
  have hfault (k : Lane) : (t.trackers[k] == some .fault) = (s.trackers[k] == some .fault) := congrFun hfaults k
  simp only [State.lineDriven, State.sourceActive, State.routed, State.laneCondition, State.laneInService, hlines, hroutes,
    hlinked, halarms, hfault, hlanes, hout]

/-- The law of the lines depends on that part alone. -/
theorem lineLaw_of_drive {s t : State} (hs : s.lineLaw) (h : t.drive = s.drive) : t.lineLaw := fun l => by
  rw [lineDriven_of_drive h, show t.lines = s.lines from congrArg DrivePart.lines h]
  exact hs l

theorem SendFrame.drive {s t : State} (h : SendFrame s t) : t.drive = s.drive := by rw [h]; rfl

/-- Of arbiter and engine the lines see which antennas count as OUT_OF_SERVICE, and no more (R60). -/
theorem RadioFrame.drive {s t : State} (h : RadioFrame s t) (hout : t.countedOut = s.countedOut) : t.drive = s.drive := by
  unfold State.drive
  rw [hout, h.lines, h.routes, h.linked, h.alarms, h.trackers, h.params]

theorem countedOut_modAntenna (s : State) (a : Antenna) (f : AntennaState → AntennaState)
    (h : ((f s.antennas[a]).out || (f s.antennas[a]).trial) = s.countedOut a) :
    (s.modAntenna a f).countedOut = s.countedOut := by
  funext b
  have hb : (s.modAntenna a f).antennas[b] = if a = b then f s.antennas[a] else s.antennas[b] := modAt_getElem ..
  unfold State.countedOut at h ⊢
  rw [hb]
  split
  · next hab => exact hab ▸ h
  · rfl

/-- A RETRY is of an antenna whose retry is due (R56). -/
theorem choice_retry_due {s : State} {a : Antenna} (h : s.choice = some (a, .retry)) : s.antennas[a].retry = .due := by
  unfold State.choice at h
  split at h
  · cases h
  · split at h
    · split at h
      · next b hdue =>
        obtain ⟨rfl, -⟩ := Prod.mk.inj (Option.some.inj h)
        exact eq_of_beq (Bool.and_eq_true_iff.mp (nextAntenna_some hdue)).2
      · obtain ⟨b, -, hlabel⟩ := Option.map_eq_some_iff.mp h
        cases hlabel
    · cases h

/-- A choice drives no line: an antenna on trial counts as OUT_OF_SERVICE as it did before (R60). -/
theorem drive_choose {s : State} (h : s.antennaLaw) : s.choose.drive = s.drive := by
  refine (choose_frame s).drive ?_
  unfold State.choose
  split
  · split
    · next a label hchoice =>
      cases label with
      | retry =>
        have hout : s.antennas[a].out = true := (h a).1.mpr (by rw [choice_retry_due hchoice]; nofun)
        exact countedOut_modAntenna s a _ (by rw [State.countedOut, hout]; rfl)
      | hot | background => rfl
    · rfl
  · rfl

end Sys2Proof.Machine
end

section
/-! SUPPORT. Every command and every step keeps each line active exactly while a source or a test drives it (R147, R148, R150). -/

namespace Sys2Proof.Machine

/-! ### Lines computed afresh -/

section Law
variable {s t : State}

/-- After any event that leaves the lines alone, lines computed afresh meet their law, whatever the event did to their sources. -/
theorem recomputeLines_lineLaw (hs : ∀ l : OutLine, s.lines[l].lawful) (h : t.lines = s.lines) :
    t.recomputeLines.lineLaw := fun l => by
  refine ⟨recomputeLines_agrees t l, ?_⟩
  rw [recomputeLines_line, h]
  exact LineState.lawful_follow (hs l) ..

theorem endEvent_lineLaw (hs : ∀ l : OutLine, s.lines[l].lawful) (h : t.lines = s.lines) (s0 : State) :
    (t.endEvent s0).lineLaw := by
  refine recomputeLines_lineLaw hs ?_
  split
  · exact (choose_frame t).lines.trans h
  · exact h

/-- Lines changed in nothing that their activity shows keep the law. -/
theorem lineLaw_of_lines (hs : s.lineLaw) (lines : Vector LineState 6) (h : ∀ l : OutLine,
    lines[l].active = s.lines[l].active ∧ lines[l].test = s.lines[l].test ∧ lines[l].lawful) :
    ({ s with lines := lines } : State).lineLaw := fun l => by
  obtain ⟨hactive, htest, hlawful⟩ := h l
  exact ⟨by rw [lineDriven_of_lines s lines l htest, ← (hs l).1]; exact hactive, hlawful⟩

theorem modLine_lineLaw (hs : s.lineLaw) (l : OutLine) (f : LineState → LineState)
    (hactive : (f s.lines[l]).active = s.lines[l].active) (htest : (f s.lines[l]).test = s.lines[l].test)
    (hlawful : (f s.lines[l]).lawful) : (s.modLine l f).lineLaw :=
  lineLaw_of_lines hs _ fun m => by
    rw [modAt_getElem]
    split
    · next hlm => exact hlm ▸ ⟨hactive, htest, hlawful⟩
    · exact ⟨rfl, rfl, (hs m).2⟩

/-- A test that starts or ends: the law holds once the lines are computed afresh (R149). -/
theorem setTest_lineLaw (hs : s.lineLaw) (l : OutLine) (test : Option Time) :
    (s.modLine l fun x => { x with test := test }).recomputeLines.lineLaw := by
  refine recomputeLines_lineLaw (fun m => ?_) rfl
  show (modAt s.lines l _)[m].lawful
  rw [modAt_getElem]
  split
  · exact (hs l).2
  · exact (hs m).2

end Law

/-! ### What leaves the lines alone until they are computed afresh -/

section Kept
variable (s : State)

@[simp] theorem lines_queueNotice (b : Body) : (s.queueNotice b).lines = s.lines := (queueNotice_frame s b).lines
@[simp] theorem lines_openPassage (k : Lane) (b : Option Beam) (n : Nat) (e : Time) (p : Option Time) :
    (s.openPassage k b n e p).lines = s.lines := (openPassage_frame s k b n e p).lines
@[simp] theorem lines_closePassage (p : Passage) (d : Direction) (e : Time) :
    (s.closePassage p d e).lines = s.lines := (closePassage_frame s p d e).lines
@[simp] theorem lines_closeOpen (k : Lane) (d : Direction) (e : Time) : (s.closeOpen k d e).lines = s.lines :=
  (closeOpen_frame s k d e).lines
@[simp] theorem lines_addLoan (i : ItemNo) : (s.addLoan i).lines = s.lines := by rw [addLoan_loans_device]
@[simp] theorem lines_resolveSlot (j : SlotNo) (q : Question) (v : Verdict) (r : Reason) :
    (s.resolveSlot j q v r).lines = s.lines := (resolveSlot_frame s j q v r).lines

@[simp] theorem lines_trackBreak (k : Lane) (x : Beam) (e : Time) : (s.trackBreak k x e).lines = s.lines := by
  unfold State.trackBreak
  split
  · simp
  · split <;> rfl
  · split
    · dsimp only
      split
      · split <;> rfl
      · rfl
    · rfl
  · rfl

@[simp] theorem lines_trackClear (k : Lane) (x : Beam) (e : Time) : (s.trackClear k x e).lines = s.lines := by
  unfold State.trackClear
  split
  · split
    · simp
    · rfl
  · split <;> rfl
  · split
    · rfl
    · dsimp only
      split
      · simp
      · rfl
  · split <;> rfl
  · rfl

@[simp] theorem lines_trackFault (k : Lane) (e : Time) : (s.trackFault k e).lines = s.lines := by
  unfold State.trackFault
  split
  · rfl
  · simp
  · rfl

@[simp] theorem lines_trackRecovery (k : Lane) (e : Time) : (s.trackRecovery k e).lines = s.lines := by
  unfold State.trackRecovery
  split
  · split
    · rfl
    · dsimp only
      split
      · split
        · simp
        · rfl
      · rfl
  · rfl

@[simp] theorem lines_issueBreak (k : Lane) (x : Beam) (e : Time) : (s.issueBreak k x e).lines = s.lines := by
  simp [State.issueBreak]

@[simp] theorem lines_issueClear (k : Lane) (x : Beam) (e : Time) : (s.issueClear k x e).lines = s.lines := by
  unfold State.issueClear
  dsimp only
  split <;> simp

theorem lines_roundEnded (a : Antenna) (label : GrantLabel) (cause : Option EndCause) :
    (s.roundEnded a label cause).lines = s.lines := by
  unfold State.roundEnded
  split
  · split
    · rfl
    · exact lines_queueNotice _ _
  · split <;> rfl
  · rfl

theorem lines_takeAnswer (slot : Nat) (item : ItemNo) (result : Nat) :
    (s.takeAnswer slot item result).lines = s.lines := by
  unfold State.takeAnswer
  split
  · rfl
  · split
    · simp
    · simp
    · simp
    · rfl

/-- Lanes that enter or leave service change beams, trackers and alarms alone (R5, R24, R144). -/
theorem lines_lanesChanged (old : Nat) : (s.lanesChanged old).lines = s.lines := by
  unfold State.lanesChanged
  refine ((choose_frame _).lines.trans (withdrawBeyondLanes_frame _).lines).trans ?_
  refine List.foldlRecOn (motive := fun t : State => t.lines = s.lines) _ _ rfl fun t ht k _ => ?_
  split
  · exact ht
  · split <;> exact ht

theorem lines_storePair (pair : Nat × Int) : (s.storePair pair).lines = s.lines := by
  have hsilence (u : State) : u.silenceSet.lines = u.lines := by
    unfold State.silenceSet
    split
    · rfl
    · split <;> rfl
  unfold State.storePair
  dsimp only
  split
  · split
    · rfl
    · exact lines_lanesChanged _ _
  · exact (restartBackground_frame _).lines
  · rfl
  · exact hsilence _
  · rfl

end Kept

/-! ### Events that no line depends on -/

section Undriven
variable (s : State)

theorem drive_openSlot (r : Round) : (s.openSlot r).drive = s.drive := by
  unfold State.openSlot
  split
  · split <;> rfl
  · rfl

theorem drive_closeFrame (r : Round) : (s.closeFrame r).drive = s.drive := by
  unfold State.closeFrame
  dsimp only
  split
  · rfl
  · split
    · rfl
    · exact drive_openSlot s _

theorem drive_countSlot (r : Round) (o : SlotOutcome) (amp : BitVec 12) : (s.countSlot r o amp).drive = s.drive := by
  cases o with
  | single t =>
    unfold State.countSlot State.takeSingle
    dsimp only
    split <;> rfl
  | empty | collision | noise | corrupt => rfl

theorem drive_slotReport (rep : SlotReport) : (slotReport rep s).drive = s.drive := by
  by_cases he : s.engine = .frame
  · cases hr : s.round with
    | none => unfold slotReport; rw [he, hr]
    | some r =>
      rw [slotReport_of_frame rep he hr]
      split
      · rw [drive_openSlot, drive_countSlot]
      · rw [drive_closeFrame, drive_countSlot]
  · rw [slotReport_of_not_frame s rep he]

theorem drive_holdTimerExpiry : (holdTimerExpiry s).drive = s.drive := by
  unfold holdTimerExpiry
  split
  · split <;> rfl
  · rfl

theorem drive_roundTimerExpiry : (roundTimerExpiry s).drive = s.drive := by
  unfold roundTimerExpiry
  split
  · split <;> rfl
  · rfl

theorem drive_fieldFault : (fieldFault s).drive = s.drive := by
  unfold fieldFault
  split
  · split <;> rfl
  · rfl

theorem drive_expireAge (i : ItemNo) : (s.expireAge i).drive = s.drive := by
  unfold State.expireAge
  split
  · split <;> rfl
  · rfl

theorem drive_keyRawChange (pressed : Bool) : (keyRawChange pressed s).drive = s.drive := by
  unfold keyRawChange
  split
  · rfl
  · split <;> rfl

theorem drive_gapTimerExpiry : (gapTimerExpiry s).drive = s.drive := by
  unfold gapTimerExpiry
  split <;> rfl

theorem drive_foldl_addLoan (l : List ItemNo) : (l.foldl State.addLoan s).drive = s.drive :=
  List.foldlRecOn (motive := fun t : State => t.drive = s.drive) _ _ rfl fun t ht i _ => by
    rw [addLoan_loans_device]
    exact ht

end Undriven

/-! ### Events that drive lines -/

section Events
variable {s : State}

/-- The lines of a state that meets their law. -/
theorem lawful_of_lineLaw (hs : s.lineLaw) (l : OutLine) : s.lines[l].lawful := (hs l).2

theorem beamFilterExpiry_lineLaw (hs : s.lineLaw) (k : Lane) (x : Beam) : (beamFilterExpiry k x s).lineLaw := by
  unfold beamFilterExpiry
  split
  · split
    · dsimp only
      split
      · refine endEvent_lineLaw (lawful_of_lineLaw hs) ?_ s
        split <;> simp
      · exact lineLaw_of_drive hs rfl
    · exact hs
  · exact hs

theorem stuckTimerExpiry_lineLaw (hs : s.lineLaw) (k : Lane) (x : Beam) : (stuckTimerExpiry k x s).lineLaw := by
  unfold stuckTimerExpiry
  split
  · split
    · exact endEvent_lineLaw (lawful_of_lineLaw hs) (by simp) s
    · exact hs
  · exact hs

theorem keyFilterExpiry_lineLaw (hs : s.lineLaw) : (keyFilterExpiry s).lineLaw := by
  unfold keyFilterExpiry
  split
  · split
    · dsimp only
      split
      · exact recomputeLines_lineLaw (lawful_of_lineLaw hs) rfl
      · exact lineLaw_of_drive hs rfl
    · exact hs
  · exact hs

theorem presenceTimerExpiry_lineLaw (hs : s.lineLaw) (n : Nat) : (presenceTimerExpiry n s).lineLaw := by
  unfold presenceTimerExpiry
  split
  · split
    · split
      · exact endEvent_lineLaw (lawful_of_lineLaw hs) (lines_closePassage ..) s
      · exact hs
    · exact hs
  · exact hs

theorem settleTimerExpiry_lineLaw (hs : s.lineLaw) (n : Nat) : (settleTimerExpiry n s).lineLaw := by
  unfold settleTimerExpiry
  split
  · split
    · exact endEvent_lineLaw (lawful_of_lineLaw hs) (settleNow_frame s n).lines s
    · exact hs
  · exact hs

theorem fieldSettleExpiry_lineLaw (hs : s.lineLaw) : (fieldSettleExpiry s).lineLaw := by
  unfold fieldSettleExpiry
  split
  · split
    · refine recomputeLines_lineLaw (lawful_of_lineLaw hs) ((openSlot_frame _ _).lines.trans ?_)
      split
      · exact lines_queueNotice _ _
      · rfl
    · exact hs
  · exact hs

theorem fieldOffAck_lineLaw (hs : s.lineLaw) : (fieldOffAck s).lineLaw := by
  unfold fieldOffAck
  split
  · refine recomputeLines_lineLaw (lawful_of_lineLaw hs) ((choose_frame _).lines.trans ?_)
    split
    · exact lines_roundEnded _ _ _ _
    · rfl
  · exact hs

theorem choose_lineLaw (ha : s.antennaLaw) (hs : s.lineLaw) : s.choose.lineLaw := lineLaw_of_drive hs (drive_choose ha)

theorem backgroundTimerExpiry_lineLaw (ha : s.antennaLaw) (hs : s.lineLaw) : (backgroundTimerExpiry s).lineLaw := by
  unfold backgroundTimerExpiry
  split
  · exact choose_lineLaw (s := { s with bgTimer := none }) ha (lineLaw_of_drive hs rfl)
  · exact hs

theorem retryTimerExpiry_lineLaw (ha : s.antennaLaw) (hs : s.lineLaw) (a : Antenna) : (retryTimerExpiry a s).lineLaw := by
  unfold retryTimerExpiry
  split
  · next hfires =>
    have hout : s.antennas[a].out = true := (ha a).1.mpr fun hstop => by
      rw [hstop] at hfires
      cases hfires
    refine choose_lineLaw ?_ (lineLaw_of_drive hs ?_)
    · exact antennaLaw_modAt ha a _ ⟨⟨fun _ => nofun, fun _ => hout⟩, (ha a).2⟩
    · exact RadioFrame.drive rfl (countedOut_modAntenna s a _ rfl)
  · exact hs

theorem readMerge_lineLaw (hs : s.lineLaw) : (readMerge s).lineLaw := by
  unfold readMerge
  split
  · exact hs
  · refine endEvent_lineLaw (lawful_of_lineLaw hs) ?_ s
    exact (((expireAge_frame _ _).lines.trans (readReported_frame _ _ _ _).lines).trans (mergeRead_frame _ _).lines).trans
      (readRemoved_frame _).lines

theorem slotTimerExpiry_lineLaw (hs : s.lineLaw) (j : SlotNo) : (slotTimerExpiry j s).lineLaw := by
  unfold slotTimerExpiry
  split
  · split
    · exact recomputeLines_lineLaw (lawful_of_lineLaw hs) (lines_resolveSlot ..)
    · exact hs
  · exact hs

/-- The phase noted at an alarm timer's expiry shows in no line's activity (R138, R140). -/
theorem alarmTimerExpiry_lineLaw (hs : s.lineLaw) (k : Lane) : (alarmTimerExpiry k s).lineLaw := by
  unfold alarmTimerExpiry
  split
  · dsimp only
    have ht (a : LaneAlarm) : (s.setAlarm k a).recomputeLines.lineLaw :=
      recomputeLines_lineLaw (lawful_of_lineLaw hs) rfl
    split
    · exact ht _
    · refine lineLaw_of_lines (ht _) _ fun l => ?_
      rw [Fin.getElem_fin, perLine_getElem]
      obtain ⟨hactive, htest⟩ := noteLapse_frame s.lines[l] (s.setAlarm k _).recomputeLines.lines[l] k
      exact ⟨hactive, htest, LineState.lawful_noteLapse (hs l).2 (ht _ l).2 k⟩
  · exact hs

theorem pulseTimerExpiry_lineLaw (hs : s.lineLaw) (l : OutLine) : (pulseTimerExpiry l s).lineLaw := by
  unfold pulseTimerExpiry
  split
  · next hfires =>
    have hpulse : s.lines[l].pulse.isSome = true := by
      cases hp : s.lines[l].pulse with
      | none => rw [hp] at hfires; cases hfires
      | some e => rfl
    exact modLine_lineLaw hs l _ rfl rfl (LineState.lawful_turnOver (hs l).2 hpulse _)
  · exact hs

theorem testTimerExpiry_lineLaw (hs : s.lineLaw) (l : OutLine) : (testTimerExpiry l s).lineLaw := by
  unfold testTimerExpiry
  split
  · exact setTest_lineLaw hs l none
  · exact hs

theorem silenceTimerExpiry_lineLaw (hs : s.lineLaw) : (silenceTimerExpiry s).lineLaw := by
  unfold silenceTimerExpiry
  split
  · exact recomputeLines_lineLaw (lawful_of_lineLaw hs) (resolveStandalone_frame _).lines
  · exact hs

/-! ### Resets -/

theorem reset_lineLaw : State.reset.lineLaw := by decide +kernel

/-- No tracker set by a reset is in FAULT (R27). -/
theorem resetTrackers_no_fault (s : State) (k : Lane) : (s.resetTrackers.trackers[k] == some .fault) = false := by
  have hk : s.resetTrackers.trackers[k] = if s.laneInService k then some (s.freshTracker k) else none :=
    perLane_getElem _ k
  rw [hk]
  unfold State.freshTracker
  split
  · split <;> rfl
  · rfl

/-- With the inputs as found the lines are driven as with the inputs of `State.reset` (R151). -/
theorem powerUp_lineLaw (s : State) (cause : RestartCause) (a b : Bool) : (s.powerUp cause a b).lineLaw := by
  refine lineLaw_of_drive reset_lineLaw ?_
  refine congrArg (fun faults => { State.reset.drive with faults := faults }) (funext fun k => ?_)
  rw [State.powerUp, resetTrackers_no_fault]
  fin_cases k <;> rfl

theorem restartNow_lineLaw (hs : s.lineLaw) : s.restartNow.lineLaw := by
  refine recomputeLines_lineLaw (s := s.clearWorking) (fun l => ?_) rfl
  show LineState.lawful (perLine _)[l.val]
  rw [perLine_getElem]
  exact LineState.lawful_atRestart (hs l).2 _

/-! ### Messages (10) -/

theorem takeSet_lineLaw (hs : s.lineLaw) (fields : List Byte) : (takeSet fields s).state.lineLaw := by
  unfold takeSet
  dsimp only
  split
  · exact hs
  · split
    · exact hs
    · refine endEvent_lineLaw (lawful_of_lineLaw hs) ?_ s
      exact List.foldlRecOn (motive := fun t : State => t.lines = s.lines) _ _ rfl fun t ht pair _ =>
        (lines_storePair t pair).trans ht

/-- A command taken leaves the lines in agreement: SET and those of the alarm unit compute them afresh, PATTERN_SET changes no
activity, and of the others no line depends on what they write. -/
theorem takeCommand_lineLaw (hs : s.lineLaw) (k : Kind) (fields : List Byte) : (takeCommand k fields s).state.lineLaw := by
  cases k with
  | set => exact takeSet_lineLaw hs fields
  | routeSet =>
    unfold takeCommand takeRouteSet
    dsimp only
    split
    · split
      · exact recomputeLines_lineLaw (lawful_of_lineLaw hs) rfl
      · exact hs
    · exact hs
  | patternSet =>
    unfold takeCommand takePatternSet
    dsimp only
    split
    · next hl =>
      obtain ⟨hactive, htest⟩ := setPattern_frame s.lines[fieldNat fields 0 1] (fieldFlag fields 1) s.gateTime
      exact modLine_lineLaw hs _ _ hactive htest (LineState.lawful_setPattern (hs ⟨_, hl⟩).2 _ _)
    · exact hs
  | acknowledge =>
    unfold takeCommand takeAcknowledge
    dsimp only
    split
    · exact recomputeLines_lineLaw (lawful_of_lineLaw hs) rfl
    · exact hs
  | lineTest =>
    unfold takeCommand takeLineTest
    dsimp only
    split
    · exact setTest_lineLaw hs _ _
    · exact hs
  | get => unfold takeCommand takeGet; dsimp only; split <;> exact hs
  | classWrite =>
    unfold takeCommand takeClassWrite
    dsimp only
    split
    · split
      · exact lineLaw_of_drive hs rfl
      · exact hs
    · exact hs
  | classRead => unfold takeCommand takeClassRead; dsimp only; split <;> exact hs
  | rateWrite =>
    unfold takeCommand takeRateWrite
    dsimp only
    split
    · exact lineLaw_of_drive hs rfl
    · exact hs
  | rateRead => unfold takeCommand takeRateRead; dsimp only; split <;> exact hs
  | routeRead => unfold takeCommand takeRouteRead; dsimp only; split <;> exact hs
  | loanAdd => exact lineLaw_of_drive hs (drive_foldl_addLoan s _)
  | countsClear =>
    unfold takeCommand takeCountsClear
    dsimp only
    split
    · exact lineLaw_of_drive hs rfl
    · split
      · exact lineLaw_of_drive hs rfl
      · exact hs
  | statusReq | ownerRead | answer | countsRead | statsRead => exact hs
  | ownerSet | loanDrop | loanClear | statsClear | restart => exact lineLaw_of_drive hs rfl

theorem takeFrame_lineLaw (hs : s.lineLaw) (body : Body) : (s.takeFrame body).lineLaw := by
  have hreply {t : State} (ht : t.lineLaw) (b : Body) : (t.placeReply b).lineLaw :=
    lineLaw_of_drive ht (placeReply_frame t b).drive
  unfold State.takeFrame
  split
  · exact hs
  · split
    · exact hreply hs _
    · split
      · split
        · exact recomputeLines_lineLaw (lawful_of_lineLaw hs) (lines_takeAnswer s _ _ _)
        · exact hreply (takeCommand_lineLaw hs _ _) _
      · exact hreply hs _

theorem takeFrames_lineLaw (fuel : Nat) (hs : s.lineLaw) : (takeFrames fuel s).lineLaw := by
  induction fuel generalizing s with
  | zero => exact hs
  | succ fuel ih =>
    unfold takeFrames
    split
    · exact hs
    · next body rest _ =>
      have hrest : ({ s with buffers := rest } : State).lineLaw := lineLaw_of_drive hs rfl
      split
      · exact ih (takeFrame_lineLaw hrest body)
      · exact hs

theorem takeWaiting_lineLaw (hs : s.lineLaw) : s.takeWaiting.lineLaw := takeFrames_lineLaw _ hs

/-- A frame that ends STANDALONE ends the activity of a source, and the lines are computed afresh (R145, R159). -/
theorem arrive_lineLaw (hs : s.lineLaw) (body : Body) : (s.arrive body).lineLaw := by
  unfold State.arrive
  dsimp only
  split
  · next hlinked =>
    refine lineLaw_of_drive hs (Eq.trans ?_ (congrArg (fun linked => { s.drive with linked := linked }) hlinked.symm))
    split <;> rfl
  · refine recomputeLines_lineLaw (lawful_of_lineLaw hs) ?_
    split <;> rfl

theorem receive_lineLaw (hs : s.lineLaw) (body : Body) : (s.receive body).lineLaw :=
  takeWaiting_lineLaw (arrive_lineLaw hs body)

theorem completeFrame_lineLaw (hs : s.lineLaw) (got check : List Byte) : (s.completeFrame got check).lineLaw := by
  have hidle : ({ s with rx := .hunt, gap := none } : State).lineLaw := lineLaw_of_drive hs rfl
  unfold State.completeFrame
  split
  · exact receive_lineLaw hidle got
  · exact lineLaw_of_drive hs rfl

theorem byteReceived_lineLaw (hs : s.lineLaw) (b : Byte) (stopBit : Bool) : (byteReceived b stopBit s).lineLaw := by
  have hhold (rx : Receiver) : (s.holdByte rx).lineLaw := lineLaw_of_drive hs rfl
  have hdiscard : s.discardFrame.lineLaw := lineLaw_of_drive hs rfl
  unfold byteReceived
  split
  · split
    · exact hhold _
    · exact hs
  · split
    · exact hhold _
    · exact hdiscard
  · split
    · dsimp only
      split
      · exact hhold _
      · exact hdiscard
    · exact hdiscard
  · split
    · split <;> exact hhold _
    · exact hdiscard
  · split
    · exact hhold _
    · exact hdiscard
  · split
    · exact completeFrame_lineLaw hs _ _
    · exact hdiscard

theorem arbitrateTx_lineLaw (hs : s.lineLaw) : s.arbitrateTx.lineLaw := lineLaw_of_drive hs (arbitrateTx_frame s).drive

theorem frameLeftLine_lineLaw (hs : s.lineLaw) : (frameLeftLine s).lineLaw := by
  unfold frameLeftLine
  split
  · exact hs
  · refine takeWaiting_lineLaw (arbitrateTx_lineLaw ?_)
    have hfree : ({ s with sending := none } : State).lineLaw := lineLaw_of_drive hs rfl
    split
    · exact restartNow_lineLaw hfree
    · exact hfree

/-! ### Every command, every step -/

theorem exec_lineLaw (i : Instr) {t : State} (ha : s.antennaLaw) (hs : s.lineLaw) (hx : exec i s = .next t) :
    t.lineLaw := by
  have hsame {u : State} (hu : u.drive = s.drive) : u.lineLaw := lineLaw_of_drive hs hu
  cases i <;> obtain rfl := Host.Outcome.next.inj hx
  case powerOn => exact powerUp_lineLaw _ _ _ _
  case resetPin => exact powerUp_lineLaw _ _ _ _
  case beamRawChange => exact hsame rfl
  case beamFilterExpiry => exact beamFilterExpiry_lineLaw hs _ _
  case stuckTimerExpiry => exact stuckTimerExpiry_lineLaw hs _ _
  case keyRawChange => exact hsame (drive_keyRawChange s _)
  case keyFilterExpiry => exact keyFilterExpiry_lineLaw hs
  case presenceTimerExpiry => exact presenceTimerExpiry_lineLaw hs _
  case settleTimerExpiry => exact settleTimerExpiry_lineLaw hs _
  case fieldSettleExpiry => exact fieldSettleExpiry_lineLaw hs
  case slotReport => exact hsame (drive_slotReport s _)
  case holdTimerExpiry => exact hsame (drive_holdTimerExpiry s)
  case roundTimerExpiry => exact hsame (drive_roundTimerExpiry s)
  case fieldFault => exact hsame (drive_fieldFault s)
  case fieldOffAck => exact fieldOffAck_lineLaw hs
  case backgroundTimerExpiry => exact backgroundTimerExpiry_lineLaw ha hs
  case retryTimerExpiry => exact retryTimerExpiry_lineLaw ha hs _
  case readMerge => exact readMerge_lineLaw hs
  case ageExpiry => exact hsame (drive_expireAge s _)
  case loanLifeEnd => exact hsame rfl
  case slotTimerExpiry => exact slotTimerExpiry_lineLaw hs _
  case alarmTimerExpiry => exact alarmTimerExpiry_lineLaw hs _
  case pulseTimerExpiry => exact pulseTimerExpiry_lineLaw hs _
  case testTimerExpiry => exact testTimerExpiry_lineLaw hs _
  case byteReceived => exact byteReceived_lineLaw hs _ _
  case gapTimerExpiry => exact hsame (drive_gapTimerExpiry s)
  case silenceTimerExpiry => exact silenceTimerExpiry_lineLaw hs
  case frameLeftLine => exact frameLeftLine_lineLaw hs
  all_goals exact receive_lineLaw hs _

/-- As a moment ends the noted phases are dropped, and no source changes (R184, log entry 11). -/
theorem tick_lineLaw (hs : s.lineLaw) : s.tick.lineLaw := by
  refine lineLaw_of_drive (lineLaw_of_lines hs s.tick.lines fun l => ?_) rfl
  obtain ⟨-, hinactive, hactive, -⟩ := hs l
  rw [tick_line]
  exact ⟨rfl, rfl, hinactive, hactive, nofun⟩

end Events

/-- Settles O55: events that drive lines compute them afresh, and no line depends on what the others write; the antennas' law keeps
a RETRY from showing in the lanes' conditions. -/
theorem everyStepKeepsLinesWithSources : Obligations.EveryStepKeepsLinesWithSources := by
  intro s t ha hs hx
  unfold step at hx
  split at hx
  · next c rest _ => exact exec_lineLaw c (s := { s with pending := rest }) ha (lineLaw_of_drive hs rfl) hx
  · split at hx
    · exact exec_lineLaw _ ha hs hx
    · obtain rfl := Host.Outcome.next.inj hx
      exact tick_lineLaw hs

end Sys2Proof.Machine
end

section
/-! SUPPORT. What becomes of each line when the lines are computed afresh (08, section 8.4). -/

namespace Sys2Proof.Machine

/-! ### Driven lines (R145 to R147) -/

theorem mem_allSources (n : Source) : n ∈ allSources := by fin_cases n <;> decide

theorem lineDriven_iff (s : State) (l : OutLine) : s.lineDriven l = true ↔
    s.lines[l].test ≠ none ∨ ∃ n : Source, s.routes[n].getLsbD l.val = true ∧ s.sourceActive n = true := by
  simp [State.lineDriven, State.routed, mem_allSources, Option.isSome_iff_ne_none]

/-- The ALARM of a lane is active while the lane is SOUNDING (R145). -/
theorem sourceActive_alarmSource (s : State) (k : Lane) :
    s.sourceActive (alarmSource k) = (s.alarms[k].state == .sounding) := by
  fin_cases k <;> rfl

theorem retriggered_iff (s : State) (l : OutLine) (r : Resume) : s.retriggered l r = true ↔
    s.alarms[r.lane].state = .sounding ∧ s.routes[3 * r.lane.val].getLsbD l.val = true := by
  rw [State.retriggered, sourceActive_alarmSource, Bool.and_eq_true, beq_iff_eq, and_comm]
  rfl

/-! ### Lines that become active (R138, R147) -/

/-- A PULSED line whose noted phase is kept takes it up again (R138). -/
theorem follow_of_kept {l : LineState} {r : Resume} (now : Time) {keeps : Resume → Bool} (h : l.active = false)
    (hr : l.resume = some r) (hpulsed : l.pulsed = true) (hk : keeps r = true) : l.follow true now keeps =
      { l with active := true, level := r.level, pulse := r.pulse, resume := none } := by
  unfold LineState.follow
  rw [h, hr]
  simp [hpulsed, hk, LineState.start]

/-- A line without a noted phase starts afresh, ON (R147). -/
theorem follow_of_unnoted {l : LineState} (now : Time) (keeps : Resume → Bool) (h : l.active = false) (hr : l.resume = none) :
    l.follow true now keeps = { l with active := true, level := true,
                                       pulse := if l.pulsed then some (now + 500) else none } := by
  rw [follow_of_joined l now keeps h fun r hmem => by rw [hr] at hmem; cases hmem]
  obtain ⟨pulsed, active, level, pulse, test, resume⟩ := l
  obtain rfl : resume = none := hr
  rfl

/-- So does a line whose noted phase is not kept. -/
theorem follow_of_lost {l : LineState} {r : Resume} (now : Time) {keeps : Resume → Bool} (h : l.active = false)
    (hr : l.resume = some r) (hk : ¬(l.pulsed = true ∧ keeps r = true)) : l.follow true now keeps =
      { l with active := true, level := true, resume := none, pulse := if l.pulsed then some (now + 500) else none } :=
  follow_of_joined l now keeps h fun q hq hpulsed => by
    obtain rfl : r = q := Option.some.inj (hr.symm.trans hq)
    exact Bool.eq_false_iff.mpr fun hkept => hk ⟨hpulsed, hkept⟩

/-- Settles O43: each line by how its activity changes, then the two expiries. -/
theorem linesFollowSources : Obligations.LinesFollowSources := by
  intro s l
  refine ⟨⟨rfl, lineDriven_iff s l, ?_⟩, fun hfires => congrArg Host.Outcome.next (if_pos hfires),
    fun hfires => congrArg Host.Outcome.next (if_pos hfires)⟩
  rw [recomputeLines_line]
  refine ⟨fun h => follow_of_agrees _ _ _ _ h, fun h hd => ?_, fun h hd => ?_⟩
  · rw [hd]
    exact follow_of_left _ _ _ h
  · rw [hd]
    refine ⟨fun hr => follow_of_unnoted _ _ h hr, fun r hr => ?_⟩
    dsimp only
    rw [← retriggered_iff s l r]
    exact ⟨fun hk => follow_of_kept _ h hr hk.1 hk.2, fun hk => follow_of_lost _ h hr hk⟩

end Sys2Proof.Machine
end

section
/-! SUPPORT. The messages of the alarm unit: ACKNOWLEDGE, ROUTE_SET, PATTERN_SET and LINE_TEST (08, 10). -/

namespace Sys2Proof.Machine

/-! ### Fields of one byte (R171) -/

theorem fieldNat_first (b : Byte) (rest : List Byte) : fieldNat (b :: rest) 0 1 = b.toNat := by simp [fieldNat, beNat]

theorem fieldNat_second (a b : Byte) (rest : List Byte) : fieldNat (a :: b :: rest) 1 1 = b.toNat := by
  simp [fieldNat, beNat]

/-- The number of a source or a line as the byte of a message. -/
theorem fieldNat_number {n : Nat} (hn : n < 256) (rest : List Byte) : fieldNat (BitVec.ofNat 8 n :: rest) 0 1 = n := by
  rw [fieldNat_first, BitVec.toNat_ofNat, Nat.mod_eq_of_lt hn]

theorem flagByte_bne_zero (b : Byte) : flagByte (b != 0) = if b = 0 then 0 else 1 := by
  simp only [flagByte, bne_iff_ne, ne_eq, ite_not]

/-! ### What each message does when it is taken (R141, R146, R148, R149) -/

theorem takeAcknowledge_of_lanes (s : State) {set : Byte} (h : set.toNat < 16) : takeAcknowledge [set] s =
    ⟨(s.acknowledgeLanes fun k => set.toNat.testBit k.val).recomputeLines, .ok, []⟩ := by
  unfold takeAcknowledge
  rw [fieldNat_first]
  exact if_pos h

theorem takeRouteSet_of_lines (s : State) (n : Source) {set : Byte} (h : set.toNat < 64) :
    takeRouteSet [BitVec.ofNat 8 n.val, set] s =
      ⟨{ s with routes := s.routes.set n (BitVec.ofNat 6 set.toNat) }.recomputeLines, .ok, [BitVec.ofNat 8 n.val, set]⟩ := by
  unfold takeRouteSet
  simp only [fieldNat_number (by omega : n.val < 256), fieldNat_second, n.isLt, h, dite_true, if_true, BitVec.ofNat_toNat,
    BitVec.setWidth_eq]

theorem takePatternSet_of_line (s : State) (l : OutLine) (pattern : Byte) :
    takePatternSet [BitVec.ofNat 8 l.val, pattern] s =
      ⟨s.modLine l fun x => x.setPattern (pattern != 0) s.gateTime, .ok, [BitVec.ofNat 8 l.val, flagByte (pattern != 0)]⟩ := by
  have hflag : fieldFlag [BitVec.ofNat 8 l.val, pattern] 1 = (pattern != 0) := by
    rw [fieldFlag, fieldNat_second, Bool.eq_iff_iff, bne_iff_ne, bne_iff_ne, ne_eq, ne_eq, BitVec.toNat_eq]
    rfl
  unfold takePatternSet
  simp only [fieldNat_number (by omega : l.val < 256), hflag, l.isLt, dite_true]

theorem takeLineTest_of_line (s : State) (l : OutLine) (asked : Byte) :
    takeLineTest [BitVec.ofNat 8 l.val, asked] s =
      let used := max 1 (min asked.toNat 60)
      ⟨(s.modLine l fun x => { x with test := some (after s.gateTime (used * 1000)) }).recomputeLines,
        if used = asked.toNat then .ok else .clamped, [BitVec.ofNat 8 l.val, BitVec.ofNat 8 used]⟩ := by
  unfold takeLineTest
  simp only [fieldNat_number (by omega : l.val < 256), fieldNat_second, l.isLt, dite_true]

/-- What a pattern does to a line, as R148 says it. -/
theorem setPattern_eq (x : LineState) (pattern : Byte) (now : Time) : x.setPattern (pattern != 0) now =
    if x.active = true ∧ x.pulsed ≠ (pattern != 0) then
      { x with pulsed := pattern != 0, level := true, pulse := if pattern = 0 then none else some (now + 500) }
    else { x with pulsed := pattern != 0 } := by
  have hpulse : (if (pattern != 0) = true then some (after now Config.pulseHalf) else none) =
      if pattern = 0 then none else some (now + 500) := by
    simp only [bne_iff_ne, ne_eq, ite_not]
    rfl
  unfold LineState.setPattern
  rw [hpulse]
  simp only [Bool.and_eq_true, bne_iff_ne]

/-! ### Messages heard, taken and answered -/

section Heard
variable (s : State)

theorem heard_alarms : s.heard.alarms = s.alarms := by rw [heard_eq]
theorem heard_routes : s.heard.routes = s.routes := by rw [heard_eq]
theorem heard_gateTime : s.heard.gateTime = s.gateTime := by rw [heard_eq]

end Heard

/-- A message that nothing holds back, from what its taking gives. -/
theorem receive_of_taken {s t : State} (h : s.ready) {k : Kind} {fields : List Byte} {r : Result} {data : List Byte}
    (hkind : kindOf k.code = some k) (hlen : k.lengthOk fields.length = true) (hk : k ≠ .answer)
    (htaken : takeCommand k fields s.heard = ⟨t, r, data⟩) (hreply : t.reply = s.heard.reply) :
    s.receive (k.code :: fields) = t.answered k.code r data := by
  rw [receive_of_command h hkind hlen hk (by rw [htaken]; exact hreply), htaken]

/-- Settles O44: each message is heard, taken as its rule says, and answered. -/
theorem alarmUnitMessages : Obligations.AlarmUnitMessages := by
  intro s h
  refine ⟨fun set hset => congrArg Host.Outcome.next ?_, fun n set hset => congrArg Host.Outcome.next ?_,
    fun l pattern => congrArg Host.Outcome.next ?_, fun l asked => congrArg Host.Outcome.next ?_⟩
  · refine (receive_of_taken h (k := .acknowledge) rfl rfl nofun (takeAcknowledge_of_lanes s.heard hset) rfl).trans ?_
    rw [State.acknowledgeLanes, heard_alarms]
    rfl
  · refine (receive_of_taken h (k := .routeSet) rfl rfl nofun (takeRouteSet_of_lines s.heard n hset) rfl).trans ?_
    rw [heard_routes]
    rfl
  · refine (receive_of_taken h (k := .patternSet) rfl rfl nofun (takePatternSet_of_line s.heard l pattern) rfl).trans ?_
    simp only [heard_gateTime, setPattern_eq, flagByte_bne_zero]
    rfl
  · refine (receive_of_taken h (k := .lineTest) rfl rfl nofun (takeLineTest_of_line s.heard l asked) rfl).trans ?_
    rw [heard_gateTime]
    rfl

end Sys2Proof.Machine
end

section
/-! SUPPORT. What the link unit depends on: the part of the state that its law speaks of, and what keeps it (09). -/

namespace Sys2Proof.Machine

/-! ### The part -/

/-- The fields that the law of the link unit speaks of. -/
structure LinkPart where
  slots : Vector (Option Question) 4
  buffers : List Body
  reply : Option Body
  sending : Option Sending
  notices : List Body
  reports : List Body
  linked : Bool
  silence : Option Time
  restartPending : Bool
  rx : Receiver
  gap : Option Time

/-- The part of a state that the link unit depends on. -/
def State.link (s : State) : LinkPart :=
  ⟨s.slots, s.buffers, s.reply, s.sending, s.notices, s.reports, s.linked, s.silence, s.restartPending, s.rx, s.gap⟩

theorem LineFrame.link {s t : State} (h : LineFrame s t) : t.link = s.link := by rw [h]; rfl

theorem RadioFrame.link {s t : State} (h : RadioFrame s t) : t.link = s.link := by rw [h]; rfl

/-- The law of the link unit but for the frames in the buffers: what holds while frames are being taken too. -/
structure State.LinkCore (s : State) : Prop where
  buffered : s.buffers.length ≤ Config.maxBuffers
  noticed : s.notices.length ≤ Config.maxNotices
  reported : s.reports.length ≤ Config.maxReports
  idle : s.TxIdle
  answering : s.restartPending = true → s.reply.isSome = true ∨ s.sending.map Sending.restartReply = some true
  restarting : ∀ f ∈ s.sending, f.restartReply = true → s.restartPending = true ∧ s.reply = none
  silent : s.linked = false → s.silence = none
  receiving : s.receiverLaw

/-- What keeps frames waiting in the buffers: a full reply slot, or a restart that is pending (R161, R168). -/
def State.Holding (s : State) : Prop := s.reply.isSome = true ∨ s.restartPending = true

theorem linkLaw_iff (s : State) : s.linkLaw ↔ s.LinkCore ∧ (s.buffers ≠ [] → s.Holding) := by
  constructor
  · rintro ⟨hbuf, hnot, hrep, hidle, hheld, hans, hres, hsil, hrx⟩
    exact ⟨⟨hbuf, hnot, hrep, hidle, hans, hres, hsil, hrx⟩, hheld⟩
  · rintro ⟨⟨hbuf, hnot, hrep, hidle, hans, hres, hsil, hrx⟩, hheld⟩
    exact ⟨hbuf, hnot, hrep, hidle, hheld, hans, hres, hsil, hrx⟩

theorem linkCore_of_link {s t : State} (hs : s.LinkCore) (h : t.link = s.link) : t.LinkCore := by
  obtain ⟨hslots, hbuffers, hreply, hsending, hnotices, hreports, hlinked, hsilence, hrestart, hrx, hgap⟩ :=
    LinkPart.mk.inj h
  obtain ⟨hbuf, hnot, hrep, hidle, hans, hres, hsil, hrec⟩ := hs
  constructor <;>
    simpa only [State.TxIdle, State.receiverLaw, pendingSlots_congr hslots, hbuffers, hreply, hsending, hnotices, hreports,
      hlinked, hsilence, hrestart, hrx, hgap]

/-! ### The relation -/

/-- From a lawful state `s` the link unit comes to a lawful state `t`, with the same frames waiting for the same reasons. -/
def KeepsLink (s t : State) : Prop :=
  s.LinkCore → t.LinkCore ∧ t.buffers = s.buffers ∧ t.reply = s.reply ∧ t.restartPending = s.restartPending

theorem KeepsLink.trans {s t u : State} (h : KeepsLink s t) (k : KeepsLink t u) : KeepsLink s u := fun hs => by
  obtain ⟨ht, hbuffers, hreply, hrestart⟩ := h hs
  obtain ⟨hu, hbuffers', hreply', hrestart'⟩ := k ht
  exact ⟨hu, hbuffers'.trans hbuffers, hreply'.trans hreply, hrestart'.trans hrestart⟩

/-- What leaves the link part alone keeps it. -/
theorem KeepsLink.of_link {s t : State} (h : t.link = s.link) : KeepsLink s t := fun hs =>
  ⟨linkCore_of_link hs h, congrArg LinkPart.buffers h, congrArg LinkPart.reply h, congrArg LinkPart.restartPending h⟩

theorem KeepsLink.refl (s : State) : KeepsLink s s := .of_link rfl

/-- Nothing that matters to the link unit comes before. -/
theorem KeepsLink.after {s s' t : State} (h : KeepsLink s' t) (hs : s'.link = s.link) : KeepsLink s t :=
  (KeepsLink.of_link hs).trans h

/-- Nothing that matters to the link unit comes after. -/
theorem KeepsLink.followed {s t t' : State} (h : KeepsLink s t) (ht : t'.link = t.link) : KeepsLink s t' :=
  h.trans (.of_link ht)

theorem LineFrame.keepsLink {s t : State} (h : LineFrame s t) : KeepsLink s t := .of_link h.link

theorem RadioFrame.keepsLink {s t : State} (h : RadioFrame s t) : KeepsLink s t := .of_link h.link

theorem KeepsLink.linkLaw {s t : State} (h : KeepsLink s t) (hs : s.linkLaw) : t.linkLaw := by
  obtain ⟨hcore, hheld⟩ := (linkLaw_iff s).mp hs
  obtain ⟨ht, hbuffers, hreply, hrestart⟩ := h hcore
  refine (linkLaw_iff t).mpr ⟨ht, fun hne => ?_⟩
  unfold State.Holding
  rw [hreply, hrestart]
  exact hheld (hbuffers ▸ hne)

/-! ### The transmitter (R164 to R166) -/

/-- A FREE transmitter begins a frame that is no reply to a RESTART. -/
theorem keepsLink_begin {s : State} (hfree : s.sending = none) (slots : Vector (Option Question) 4) (frame : List Byte) :
    KeepsLink s { s with slots := slots, sending := some ⟨frame, false⟩ } := fun hs => by
  obtain ⟨hreply, -⟩ := hs.idle hfree
  refine ⟨{ hs with idle := .of_sending nofun, answering := fun hrestart => ?_, restarting := ?_ }, rfl, rfl, rfl⟩
  · have hnone := hs.answering hrestart
    simp [hreply, hfree] at hnone
  · rintro f ⟨⟩ ⟨⟩

/-- While a frame is being sent, queues and slots may change. -/
theorem keepsLink_of_busy {s : State} (hbusy : s.sending ≠ none) (slots : Vector (Option Question) 4)
    {notices reports : List Body} (hn : notices.length ≤ Config.maxNotices) (hr : reports.length ≤ Config.maxReports) :
    KeepsLink s { s with slots := slots, notices := notices, reports := reports } := fun hs =>
  ⟨{ hs with noticed := hn, reported := hr, idle := .of_sending hbusy }, rfl, rfl, rfl⟩

theorem queueNotice_keepsLink (s : State) (b : Body) : KeepsLink s (s.queueNotice b) := fun hs => by
  by_cases hroom : s.notices.length < Config.maxNotices
  · rw [queueNotice_of_room hs.idle hroom]
    split
    next hfree => exact keepsLink_begin hfree s.slots _ hs
    next hbusy => exact keepsLink_of_busy hbusy s.slots (by simpa using hroom) hs.reported hs
  · rw [queueNotice_of_full hroom]
    exact KeepsLink.of_link rfl hs

theorem queueReport_keepsLink (s : State) (b : Body) : KeepsLink s (s.queueReport b) := fun hs => by
  by_cases hroom : s.reports.length < Config.maxReports
  · rw [queueReport_of_room hs.idle hroom]
    split
    next hfree => exact keepsLink_begin hfree s.slots _ hs
    next hbusy => exact keepsLink_of_busy hbusy s.slots hs.noticed (by simpa using hroom) hs
  · rw [queueReport_of_full hroom]
    exact KeepsLink.of_link rfl hs

/-! ### Slots (R124, R126) -/

theorem takeSlot_keepsLink (s : State) (ref : ItemRef) (j : SlotNo) : KeepsLink s (s.takeSlot ref j) := fun hs => by
  cases hp : s.passage? ref.passage with
  | none =>
    unfold State.takeSlot
    rw [hp]
    exact KeepsLink.refl s hs
  | some p =>
    cases hit : p.items[ref.position]? with
    | none =>
      unfold State.takeSlot
      rw [hp, (item?_of_passage hp).trans hit]
      exact KeepsLink.refl s hs
    | some it =>
      rw [takeSlot_eq hp hit (fun hfree => (hs.idle hfree).imp_right And.left) j]
      split
      next hfree => exact (keepsLink_begin hfree _ _).followed rfl hs
      next hbusy => exact (keepsLink_of_busy hbusy _ hs.noticed hs.reported).followed rfl hs

theorem freeSlot_keepsLink (s : State) (j : SlotNo) : KeepsLink s (s.freeSlot j) := by
  unfold State.freeSlot
  split
  · exact KeepsLink.followed (t := s.setSlot j none)
      (fun hs => ⟨{ hs with idle := hs.idle.setSlot j }, rfl, rfl, rfl⟩) rfl
  · exact .refl s

theorem askAbout_keepsLink (s : State) (ref : ItemRef) : KeepsLink s (s.askAbout ref) := by
  unfold State.askAbout
  split
  · exact takeSlot_keepsLink s ref _
  · exact .of_link rfl

theorem handSlotsOn_keepsLink (s : State) : KeepsLink s s.handSlotsOn := by
  have hfuel (fuel : Nat) : ∀ s : State, KeepsLink s (State.handOn fuel s) := by
    induction fuel with
    | zero => exact .refl
    | succ fuel ih =>
      intro s
      rcases handOn_cases s with hdone | ⟨r, rest, j, hw, hj, hl⟩
      · rw [handOn_of_done _ hdone]
        exact .refl s
      · rw [handOn_of_head fuel hw hj hl]
        exact ((takeSlot_keepsLink _ r j).trans (ih _)).after rfl
  exact hfuel 4 s

end Sys2Proof.Machine
end

section
/-! SUPPORT. Verdicts, judging, attribution, passages and whole events keep the link unit lawful: each queues notices and reports,
and takes and frees slots (01 to 08). -/

namespace Sys2Proof.Machine

/-! ### Verdicts and judging (06) -/

section Kept
variable (s : State)

theorem passageAlarm_keepsLink (n : Nat) (r : Reason) (item : Option ItemNo) : KeepsLink s (s.passageAlarm n r item) := by
  have hfirst (p : Passage) : KeepsLink s (s.firstAlarm p r item) := by
    unfold State.firstAlarm
    dsimp only
    split
    · exact .of_link rfl
    · exact (queueNotice_keepsLink _ _).after rfl
  unfold State.passageAlarm
  split
  · exact .refl s
  · next p _ =>
    dsimp only
    have hmarked : KeepsLink s (if (p.judging.map (·.mark)).getD false then s else s.firstAlarm p r item) := by
      split
      · exact .refl s
      · exact hfirst p
    split
    · exact hmarked
    · exact hmarked.followed rfl

theorem giveVerdict_keepsLink (ref : ItemRef) (v : Verdict) (r : Reason) : KeepsLink s (s.giveVerdict ref v r) := by
  unfold State.giveVerdict
  split
  · exact .refl s
  · split
    · exact .refl s
    · dsimp only
      split
      · exact (passageAlarm_keepsLink _ _ _ _).after rfl
      · exact .of_link rfl

theorem giveFallback_keepsLink (ref : ItemRef) (r : Reason) : KeepsLink s (s.giveFallback ref r) := by
  unfold State.giveFallback
  split
  · exact giveVerdict_keepsLink s ref _ r
  · exact .refl s

theorem completeIfDone_keepsLink (n : Nat) : KeepsLink s (s.completeIfDone n) := by
  unfold State.completeIfDone
  split
  · exact .refl s
  · split
    · exact (queueReport_keepsLink s _).followed rfl
    · exact .refl s

theorem judgeItem_keepsLink (d : Direction) (ref : ItemRef) : KeepsLink s (s.judgeItem d ref) := by
  unfold State.judgeItem
  split
  · exact .refl s
  · split
    · split
      · exact giveVerdict_keepsLink s ref _ _
      · exact askAbout_keepsLink s ref
    · exact giveVerdict_keepsLink s ref _ _

theorem judgeItems_keepsLink (n : Nat) (d : Direction) (l : List Nat) (s : State) : KeepsLink s (judgeItems n d l s) := by
  induction l generalizing s with
  | nil => exact .refl s
  | cons i l ih => exact (judgeItem_keepsLink s d _).trans (ih _)

theorem judge_keepsLink (n : Nat) : KeepsLink s (s.judge n) := by
  unfold State.judge
  split
  · exact .refl s
  · dsimp only
    refine KeepsLink.trans ?_ (judgeItems_keepsLink _ _ _ _)
    split
    · exact (passageAlarm_keepsLink _ _ _ _).after rfl
    · exact .of_link rfl

/-! ### Questions that end (07) -/

theorem resolveSlot_keepsLink (j : SlotNo) (q : Question) (v : Verdict) (r : Reason) :
    KeepsLink s (s.resolveSlot j q v r) :=
  (((freeSlot_keepsLink s j).trans (giveVerdict_keepsLink _ _ _ _)).trans (completeIfDone_keepsLink _ _)).trans
    (handSlotsOn_keepsLink _)

theorem resolveStandalone_keepsLink : KeepsLink s s.resolveStandalone := by
  have hslots (l : List (SlotNo × Question)) : ∀ s, KeepsLink s (resolveSlots l s) := by
    induction l with
    | nil => exact .refl
    | cons x l ih =>
      exact fun s => (((freeSlot_keepsLink s x.1).trans (giveFallback_keepsLink _ _ _)).trans
        (completeIfDone_keepsLink _ _)).trans (ih _)
  have hwaiting (l : List ItemRef) : ∀ s, KeepsLink s (resolveWaiting l s) := by
    induction l with
    | nil => exact .refl
    | cons x l ih =>
      exact fun s => (((giveFallback_keepsLink _ _ _).trans (completeIfDone_keepsLink _ _)).trans (ih _)).after rfl
  exact (hslots _ s).trans (hwaiting _ _)

theorem forceItems_keepsLink (n : Nat) (l : List Nat) (s : State) : KeepsLink s (forceItems n l s) := by
  induction l generalizing s with
  | nil => exact .refl s
  | cons i l ih =>
    unfold forceItems
    split
    · next it _ =>
      split
      · exact ih s
      · dsimp only
        refine KeepsLink.trans (KeepsLink.trans ?_ (giveFallback_keepsLink _ _ _)) (ih _)
        split
        · exact freeSlot_keepsLink s _
        · exact .refl s
    · exact ih s

theorem withdrawQuestions_keepsLink (n : Nat) : KeepsLink s (s.withdrawQuestions n) := by
  refine KeepsLink.trans ?_ (handSlotsOn_keepsLink _)
  exact (forceItems_keepsLink _ _ _).after rfl

/-! ### Attribution and passages (01, 05) -/

/-- Attribution writes sightings, records and a counter. -/
theorem link_attribute (n : Nat) : (s.attribute n).link = s.link := by
  have hclaims (n : Nat) (d : Direction) (l : List Winner) :
      ∀ (s : State) (items : List Item), (claimAll n d l s items).1.link = s.link := by
    induction l with
    | nil => exact fun _ _ => rfl
    | cons w l ih =>
      intro s items
      unfold claimAll
      split
      · refine (ih _ _).trans ?_
        unfold State.claim
        split <;> rfl
      · exact ih _ _
  unfold State.attribute
  split
  · rfl
  · exact hclaims _ _ _ _ _

theorem settleNow_keepsLink (n : Nat) : KeepsLink s (s.settleNow n) :=
  ((KeepsLink.of_link (link_attribute s n)).trans (judge_keepsLink _ n)).trans (completeIfDone_keepsLink _ n)

theorem closePassage_keepsLink (p : Passage) (d : Direction) (e : Time) : KeepsLink s (s.closePassage p d e) := by
  unfold State.closePassage
  dsimp only
  split
  · exact (settleNow_keepsLink _ _).after rfl
  · exact .of_link rfl

theorem closeOpen_keepsLink (k : Lane) (d : Direction) (e : Time) : KeepsLink s (s.closeOpen k d e) := by
  unfold State.closeOpen
  split
  · exact closePassage_keepsLink s _ d e
  · exact .refl s

theorem forceCompletion_keepsLink (p : Passage) : KeepsLink s (s.forceCompletion p) := by
  have hsettled : KeepsLink s (if p.phase = .settling then (s.attribute p.number).judge p.number else s) := by
    split
    · exact (judge_keepsLink _ _).after (link_attribute s _)
    · exact .refl s
  have hwithdrawn := hsettled.trans (withdrawQuestions_keepsLink _ p.number)
  unfold State.forceCompletion
  dsimp only
  split
  · refine hwithdrawn.trans (KeepsLink.followed (t := State.queueReport _ _) ?_ rfl)
    exact (queueReport_keepsLink _ _).after rfl
  · exact hwithdrawn.followed rfl

theorem openPassage_keepsLink (k : Lane) (b : Option Beam) (n : Nat) (e : Time) (p : Option Time) :
    KeepsLink s (s.openPassage k b n e p) := by
  have hroom : KeepsLink s s.makeRoom := by
    unfold State.makeRoom
    split
    · exact .refl s
    · split
      · exact forceCompletion_keepsLink s _
      · exact .refl s
  exact hroom.followed rfl

theorem readReported_keepsLink (r : Read) (n : Nat) (st : SightState) : KeepsLink s (s.readReported r n st) := by
  refine List.foldlRecOn (motive := KeepsLink s) _ _ (.refl s) fun t ht k _ => ?_
  split
  · refine ht.trans ?_
    unfold State.qualifyingRead
    dsimp only
    split
    · exact openPassage_keepsLink t k _ _ _ _
    · split <;> exact .of_link rfl
  · exact ht

/-! ### The lane tracker and the beams (01) -/

theorem trackBreak_keepsLink (k : Lane) (x : Beam) (e : Time) : KeepsLink s (s.trackBreak k x e) := by
  unfold State.trackBreak
  split
  · exact (openPassage_keepsLink _ _ _ _ _ _).after rfl
  · split <;> exact .of_link rfl
  · split
    · dsimp only
      split
      · split <;> exact .of_link rfl
      · exact .of_link rfl
    · exact .refl s
  · exact .refl s

theorem trackClear_keepsLink (k : Lane) (x : Beam) (e : Time) : KeepsLink s (s.trackClear k x e) := by
  unfold State.trackClear
  split
  · split
    · exact (closeOpen_keepsLink _ _ _ _).after rfl
    · exact .refl s
  · split <;> exact .of_link rfl
  · split
    · exact .refl s
    · dsimp only
      split
      · exact (closePassage_keepsLink _ _ _ _).after rfl
      · exact .of_link rfl
  · split <;> exact .of_link rfl
  · exact .refl s

theorem trackFault_keepsLink (k : Lane) (e : Time) : KeepsLink s (s.trackFault k e) := by
  unfold State.trackFault
  split
  · exact .refl s
  · exact (closeOpen_keepsLink _ _ _ _).after rfl
  · exact .refl s

theorem trackRecovery_keepsLink (k : Lane) (e : Time) : KeepsLink s (s.trackRecovery k e) := by
  unfold State.trackRecovery
  split
  · split
    · exact .refl s
    · dsimp only
      split
      · split
        · exact (closePassage_keepsLink _ _ _ _).after rfl
        · exact .of_link rfl
      · exact .of_link rfl
  · exact .refl s

theorem issueClear_keepsLink (k : Lane) (x : Beam) (e : Time) : KeepsLink s (s.issueClear k x e) := by
  have hcleared : KeepsLink s ((s.modBeam k x fun b => { b with stuck := none }).trackClear k x e) :=
    (trackClear_keepsLink _ k x e).after rfl
  unfold State.issueClear
  dsimp only
  split
  · exact ((hcleared.followed (t' := State.modBeam _ k x _) rfl).trans (queueNotice_keepsLink _ _)).trans
      (trackRecovery_keepsLink _ k e)
  · exact hcleared

/-! ### Whole events -/

theorem endEvent_keepsLink (s0 : State) : KeepsLink s (s.endEvent s0) := by
  unfold State.endEvent
  refine KeepsLink.trans ?_ (recomputeLines_frame _).keepsLink
  split
  · exact (choose_frame s).keepsLink
  · exact .refl s

theorem beamFilterExpiry_keepsLink (k : Lane) (x : Beam) : KeepsLink s (beamFilterExpiry k x s) := by
  unfold beamFilterExpiry
  split
  · split
    · dsimp only
      split
      · refine KeepsLink.trans ?_ (endEvent_keepsLink _ s)
        split
        · exact (trackBreak_keepsLink _ k x _).after rfl
        · exact (issueClear_keepsLink _ k x _).after rfl
      · exact .of_link rfl
    · exact .refl s
  · exact .refl s

theorem stuckTimerExpiry_keepsLink (k : Lane) (x : Beam) : KeepsLink s (stuckTimerExpiry k x s) := by
  unfold stuckTimerExpiry
  split
  · split
    · exact (((queueNotice_keepsLink _ _).trans (trackFault_keepsLink _ k _)).trans (endEvent_keepsLink _ s)).after rfl
    · exact .refl s
  · exact .refl s

theorem presenceTimerExpiry_keepsLink (n : Nat) : KeepsLink s (presenceTimerExpiry n s) := by
  unfold presenceTimerExpiry
  split
  · split
    · split
      · exact (closePassage_keepsLink s _ _ _).trans (endEvent_keepsLink _ s)
      · exact .refl s
    · exact .refl s
  · exact .refl s

theorem settleTimerExpiry_keepsLink (n : Nat) : KeepsLink s (settleTimerExpiry n s) := by
  unfold settleTimerExpiry
  split
  · split
    · exact (settleNow_keepsLink s n).trans (endEvent_keepsLink _ s)
    · exact .refl s
  · exact .refl s

theorem fieldSettleExpiry_keepsLink : KeepsLink s (fieldSettleExpiry s) := by
  unfold fieldSettleExpiry
  split
  · split
    · refine KeepsLink.trans (KeepsLink.trans ?_ (openSlot_frame _ _).keepsLink) (recomputeLines_frame _).keepsLink
      split
      · exact (queueNotice_keepsLink _ _).after rfl
      · exact .refl s
    · exact .refl s
  · exact .refl s

theorem roundEnded_keepsLink (a : Antenna) (label : GrantLabel) (cause : Option EndCause) :
    KeepsLink s (s.roundEnded a label cause) := by
  unfold State.roundEnded
  split
  · split
    · exact .of_link rfl
    · exact (queueNotice_keepsLink _ _).after rfl
  · split <;> exact .of_link rfl
  · exact .refl s

theorem fieldOffAck_keepsLink : KeepsLink s (fieldOffAck s) := by
  unfold fieldOffAck
  split
  · refine KeepsLink.trans (KeepsLink.trans ?_ (choose_frame _).keepsLink) (recomputeLines_frame _).keepsLink
    split
    · exact (roundEnded_keepsLink _ _ _ _).after rfl
    · exact .of_link rfl
  · exact .refl s

theorem link_mergeRead (r : Read) : (s.mergeRead r).link = s.link := by
  have hevict : s.evictIfFull.link = s.link := by
    unfold State.evictIfFull
    split
    · rfl
    · split <;> rfl
  unfold State.mergeRead
  dsimp only
  split
  · rfl
  · exact hevict

theorem link_expireAge (i : ItemNo) : (s.expireAge i).link = s.link := by
  unfold State.expireAge
  split
  · split <;> rfl
  · rfl

theorem readMerge_keepsLink : KeepsLink s (readMerge s) := by
  unfold readMerge
  split
  · exact .refl s
  · next r rest _ =>
    have hremoved : KeepsLink s ({ s with intake := rest } : State).readRemoved :=
      (readRemoved_frame _).keepsLink.after rfl
    exact ((hremoved.followed (link_mergeRead _ r)).trans (readReported_keepsLink _ r _ _)).trans
      ((endEvent_keepsLink _ s).after (link_expireAge _ _))

theorem slotTimerExpiry_keepsLink (j : SlotNo) : KeepsLink s (slotTimerExpiry j s) := by
  unfold slotTimerExpiry
  split
  · split
    · exact ((resolveSlot_keepsLink _ _ _ _ _).trans (recomputeLines_frame _).keepsLink).after rfl
    · exact .refl s
  · exact .refl s

/-- The link becomes STANDALONE with its silence timer stopped (R159). -/
theorem silenceTimerExpiry_keepsLink : KeepsLink s (silenceTimerExpiry s) := by
  have hsilent : KeepsLink s { s with linked := false, silence := none } := fun hs =>
    ⟨{ hs with silent := fun _ => rfl }, rfl, rfl, rfl⟩
  unfold silenceTimerExpiry
  split
  · exact (hsilent.trans (resolveStandalone_keepsLink _)).trans (recomputeLines_frame _).keepsLink
  · exact .refl s

/-- A frame is discarded, and the receiver looks for the next mark (R157). -/
theorem discardFrame_keepsLink : KeepsLink s s.discardFrame := fun hs =>
  ⟨{ hs with receiving := ⟨⟨fun _ => rfl, fun _ => rfl⟩, rfl⟩ }, rfl, rfl, rfl⟩

theorem gapTimerExpiry_keepsLink : KeepsLink s (gapTimerExpiry s) := by
  unfold gapTimerExpiry
  split
  · exact discardFrame_keepsLink s
  · exact .refl s

/-! ### Events that leave the link part alone -/

theorem link_slotReport (rep : SlotReport) : (slotReport rep s).link = s.link := by
  have hcount (r : Round) (o : SlotOutcome) (amp : BitVec 12) : (s.countSlot r o amp).link = s.link := by
    cases o with
    | single t =>
      unfold State.countSlot State.takeSingle
      dsimp only
      split <;> rfl
    | empty | collision | noise | corrupt => rfl
  by_cases he : s.engine = .frame
  · cases hr : s.round with
    | none => unfold slotReport; rw [he, hr]
    | some r =>
      rw [slotReport_of_frame rep he hr]
      split
      · rw [(openSlot_frame _ _).link, hcount]
      · rw [(closeFrame_frame _ _).link, hcount]
  · rw [slotReport_of_not_frame s rep he]

theorem link_holdTimerExpiry : (holdTimerExpiry s).link = s.link := by
  unfold holdTimerExpiry
  split
  · split <;> rfl
  · rfl

theorem link_roundTimerExpiry : (roundTimerExpiry s).link = s.link := by
  unfold roundTimerExpiry
  split
  · split <;> rfl
  · rfl

theorem link_fieldFault : (fieldFault s).link = s.link := by
  unfold fieldFault
  split
  · split <;> rfl
  · rfl

theorem link_backgroundTimerExpiry : (backgroundTimerExpiry s).link = s.link := by
  unfold backgroundTimerExpiry
  split
  · exact (choose_frame _).link
  · rfl

theorem link_retryTimerExpiry (a : Antenna) : (retryTimerExpiry a s).link = s.link := by
  unfold retryTimerExpiry
  split
  · exact (choose_frame _).link
  · rfl

theorem link_keyRawChange (pressed : Bool) : (keyRawChange pressed s).link = s.link := by
  unfold keyRawChange
  split
  · rfl
  · split <;> rfl

theorem link_keyFilterExpiry : (keyFilterExpiry s).link = s.link := by
  unfold keyFilterExpiry
  split
  · split
    · dsimp only
      split <;> rfl
    · rfl
  · rfl

theorem link_alarmTimerExpiry (k : Lane) : (alarmTimerExpiry k s).link = s.link := by
  unfold alarmTimerExpiry
  split
  · dsimp only
    split <;> rfl
  · rfl

theorem link_pulseTimerExpiry (l : OutLine) : (pulseTimerExpiry l s).link = s.link := by
  unfold pulseTimerExpiry
  split <;> rfl

theorem link_testTimerExpiry (l : OutLine) : (testTimerExpiry l s).link = s.link := by
  unfold testTimerExpiry
  split <;> rfl

end Kept

end Sys2Proof.Machine
end

section
/-! SUPPORT. Every command and every step keeps the law of the link unit (09). -/

namespace Sys2Proof.Machine

/-! ### Messages taken (10) -/

section Kept
variable (s : State)

/-- A SET of SILENCE_LIMIT starts the silence timer only while LINKED (R160). -/
theorem silenceSet_keepsLink : KeepsLink s s.silenceSet := by
  unfold State.silenceSet
  split
  · exact fun hs => ⟨{ hs with silent := fun _ => rfl }, rfl, rfl, rfl⟩
  · split
    next hlinked => exact fun hs => ⟨{ hs with silent := fun hoff => by simp [hlinked] at hoff }, rfl, rfl, rfl⟩
    next => exact .refl s

theorem link_lanesChanged (old : Nat) : (s.lanesChanged old).link = s.link := by
  unfold State.lanesChanged
  refine ((choose_frame _).link.trans (withdrawBeyondLanes_frame _).link).trans ?_
  refine List.foldlRecOn (motive := fun t : State => t.link = s.link) _ _ rfl fun t ht k _ => ?_
  split
  · exact ht
  · split <;> exact ht

theorem storePair_keepsLink (pair : Nat × Int) : KeepsLink s (s.storePair pair) := by
  unfold State.storePair
  dsimp only
  split
  · split
    · exact .of_link rfl
    · exact .of_link (link_lanesChanged _ _)
  · exact (restartBackground_frame _).keepsLink.after rfl
  · exact .of_link rfl
  · exact (silenceSet_keepsLink _).after rfl
  · exact .of_link rfl

theorem takeSet_keepsLink (fields : List Byte) : KeepsLink s (takeSet fields s).state := by
  unfold takeSet
  dsimp only
  split
  · exact .refl s
  · split
    · exact .refl s
    · refine KeepsLink.trans ?_ (endEvent_keepsLink _ s)
      exact List.foldlRecOn (motive := KeepsLink s) _ _ (.refl s) fun t ht pair _ => ht.trans (storePair_keepsLink t pair)

/-- Of the commands SET touches the silence timer and RESTART makes a restart pending; the others leave the link part alone. -/
theorem link_takeCommand {k : Kind} (hset : k ≠ .set) (hrestart : k ≠ .restart) (fields : List Byte) :
    (takeCommand k fields s).state.link = s.link := by
  cases k with
  | set => exact absurd rfl hset
  | restart => exact absurd rfl hrestart
  | get => unfold takeCommand takeGet; dsimp only; split <;> rfl
  | classWrite =>
    unfold takeCommand takeClassWrite
    dsimp only
    split
    · split <;> rfl
    · rfl
  | classRead => unfold takeCommand takeClassRead; dsimp only; split <;> rfl
  | rateWrite => unfold takeCommand takeRateWrite; dsimp only; split <;> rfl
  | rateRead => unfold takeCommand takeRateRead; dsimp only; split <;> rfl
  | routeSet =>
    unfold takeCommand takeRouteSet
    dsimp only
    split
    · split <;> rfl
    · rfl
  | routeRead => unfold takeCommand takeRouteRead; dsimp only; split <;> rfl
  | patternSet => unfold takeCommand takePatternSet; dsimp only; split <;> rfl
  | acknowledge => unfold takeCommand takeAcknowledge; dsimp only; split <;> rfl
  | lineTest => unfold takeCommand takeLineTest; dsimp only; split <;> rfl
  | loanAdd =>
    refine List.foldlRecOn (motive := fun t : State => t.link = s.link) _ _ rfl fun t ht i _ => ?_
    rw [addLoan_loans_device]
    exact ht
  | countsClear =>
    unfold takeCommand takeCountsClear
    dsimp only
    split
    · rfl
    · split <;> rfl
  | statusReq | ownerSet | ownerRead | loanDrop | loanClear | answer | countsRead | statsRead | statsClear => rfl

theorem takeCommand_keepsLink {k : Kind} (hrestart : k ≠ .restart) (fields : List Byte) :
    KeepsLink s (takeCommand k fields s).state := by
  by_cases hset : k = .set
  · subst hset
    exact takeSet_keepsLink s fields
  · exact .of_link (link_takeCommand s hset hrestart fields)

theorem deliverAnswer_keepsLink (fields : List Byte) : KeepsLink s (s.deliverAnswer fields) := by
  refine KeepsLink.trans ?_ (recomputeLines_frame _).keepsLink
  unfold State.takeAnswer
  split
  · exact .of_link rfl
  · split
    · refine (resolveSlot_keepsLink _ _ _ _ _).after ?_
      rw [addLoan_loans_device]
      rfl
    · exact resolveSlot_keepsLink s _ _ _ _
    · exact resolveSlot_keepsLink s _ _ _ _
    · exact .of_link rfl

end Kept

/-! ### Frames taken (R161, R162) -/

section Frames
variable {s : State}

/-- A REPLY placed: it is sent at once or waits, and answers the RESTART that has become pending, if one has (R164, R168). -/
theorem placeReply_linkCore (hs : s.LinkCore) (hrunning : s.restartPending = false) (restart : Bool)
    (b : Body) : ({ s with restartPending := restart }.placeReply b).LinkCore := by
  unfold State.placeReply
  rcases Option.eq_none_or_eq_some s.sending with hsend | ⟨g, hsend⟩
  · rw [arbitrateTx_of_reply (s := { s with restartPending := restart, reply := some b }) hsend rfl]
    refine { hs with idle := .of_sending nofun, answering := fun h => .inr (congrArg some h), restarting := ?_ }
    rintro f ⟨⟩ hf
    exact ⟨hf, rfl⟩
  · rw [arbitrateTx_of_busy (s := { s with restartPending := restart, reply := some b }) hsend]
    refine { hs with idle := .of_sending ?_, answering := fun _ => .inl rfl, restarting := fun f hf hrestart => ?_ }
    · exact Option.ne_none_iff_exists'.mpr ⟨g, hsend⟩
    · have hpending := (hs.restarting f hf hrestart).1
      simp [hrunning] at hpending

/-- So it does after a command that has left reply slot and restart as they were. -/
theorem KeepsLink.answered {t : State} (h : KeepsLink s t) (hs : s.LinkCore) (hrunning : s.restartPending = false)
    (b : Body) : (t.placeReply b).LinkCore ∧ (t.placeReply b).buffers = s.buffers := by
  obtain ⟨ht, hbuffers, -, hrestart⟩ := h hs
  exact ⟨placeReply_linkCore ht (hrestart.trans hrunning) _ b,
    (placeReply_frame t b).buffers.trans hbuffers⟩

theorem takeFrame_linkCore (hs : s.LinkCore) (hrunning : s.restartPending = false) (body : Body) :
    (s.takeFrame body).LinkCore ∧ (s.takeFrame body).buffers = s.buffers := by
  unfold State.takeFrame
  split
  · exact ⟨hs, rfl⟩
  · next code fields =>
    split
    · exact (KeepsLink.refl s).answered hs hrunning _
    · next k hk =>
      split
      · split
        · obtain ⟨hcore, hbuffers, -⟩ := deliverAnswer_keepsLink s fields hs
          exact ⟨hcore, hbuffers⟩
        · by_cases hrestart : k = .restart
          · subst hrestart
            exact ⟨placeReply_linkCore hs hrunning true _, (placeReply_frame _ _).buffers⟩
          · exact (takeCommand_keepsLink s hrestart fields).answered hs hrunning _
      · exact (KeepsLink.refl s).answered hs hrunning _

/-- Frames are taken until none is left or the reply slot or a restart holds them back (R161). -/
theorem takeFrames_linkLaw (fuel : Nat) (hs : s.LinkCore) (hfuel : s.buffers.length ≤ fuel) :
    (takeFrames fuel s).linkLaw := by
  induction fuel generalizing s with
  | zero => exact (linkLaw_iff s).mpr ⟨hs, fun hne => absurd (List.length_eq_zero_iff.mp (Nat.le_zero.mp hfuel)) hne⟩
  | succ fuel ih =>
    unfold takeFrames
    split
    next hnone => exact (linkLaw_iff s).mpr ⟨hs, fun hne => absurd hnone hne⟩
    next body rest hbuf =>
      have hlen : rest.length + 1 = s.buffers.length := by rw [hbuf, List.length_cons]
      have hrest : ({ s with buffers := rest } : State).LinkCore :=
        { hs with buffered := Nat.le_trans (Nat.le_of_succ_le hlen.le) hs.buffered }
      split
      next hfree =>
        have hrunning : s.restartPending = false := by simpa using (Bool.and_eq_true_iff.mp hfree).2
        obtain ⟨hcore, hbuffers⟩ := takeFrame_linkCore hrest hrunning body
        refine ih hcore ?_
        rw [hbuffers]
        exact Nat.le_of_succ_le_succ (hlen.le.trans hfuel)
      next hheld =>
        refine (linkLaw_iff s).mpr ⟨hs, fun _ => ?_⟩
        by_contra hopen
        exact hheld (by simpa [State.Holding] using hopen)

theorem takeWaiting_linkLaw (hs : s.LinkCore) : s.takeWaiting.linkLaw := takeFrames_linkLaw _ hs (Nat.le_refl _)

/-- A good frame is buffered where there is room, and makes the link LINKED (R158, R159). -/
theorem arrive_linkCore (hs : s.LinkCore) (body : Body) : (s.arrive body).LinkCore := by
  have hbuffered : (if s.buffers.length < Config.maxBuffers then { s with buffers := s.buffers ++ [body] }
      else s.modDevice fun d => { d with overruns := bump d.overruns }).LinkCore := by
    split
    next hroom => exact { hs with buffered := by simpa using hroom }
    next => exact linkCore_of_link hs rfl
  have hheard {t : State} (ht : t.LinkCore) (silence : Option Time) :
      ({ t with linked := true, silence := silence } : State).LinkCore := { ht with silent := nofun }
  unfold State.arrive
  dsimp only
  split
  · exact hheard hbuffered _
  · exact linkCore_of_link (hheard hbuffered _) (recomputeLines_frame _).link

theorem receive_linkLaw (hs : s.LinkCore) (body : Body) : (s.receive body).linkLaw :=
  takeWaiting_linkLaw (arrive_linkCore hs body)

/-! ### Bytes (R156, R157) -/

/-- A byte is held inside a frame, with the gap timer running (R156). -/
theorem holdByte_linkLaw (hs : s.linkLaw) {rx : Receiver} (hinside : rx ≠ .hunt) (hok : rx.ok = true) :
    (s.holdByte rx).linkLaw := by
  have hkept : KeepsLink s (s.holdByte rx) := fun hcore =>
    ⟨{ hcore with receiving := ⟨⟨fun h => absurd h hinside, nofun⟩, hok⟩ }, rfl, rfl, rfl⟩
  exact hkept.linkLaw hs

theorem Receiver.ok_body {len : Nat} {got : List Byte} :
    (Receiver.body len got).ok = true ↔ 1 ≤ len ∧ len ≤ Config.maxBody ∧ got.length < len := by
  simp [Receiver.ok, and_assoc]

theorem Receiver.ok_check {len : Nat} {got : List Byte} {first : Option Byte} :
    (Receiver.check len got first).ok = true ↔ 1 ≤ len ∧ len ≤ Config.maxBody ∧ got.length = len := by
  simp [Receiver.ok, and_assoc]

theorem byteReceived_linkLaw (hs : s.linkLaw) (b : Byte) (stopBit : Bool) : (byteReceived b stopBit s).linkLaw := by
  have hdiscard : s.discardFrame.linkLaw := (discardFrame_keepsLink s).linkLaw hs
  have hcore := ((linkLaw_iff s).mp hs).1
  have hok := hcore.receiving.2
  unfold byteReceived
  split
  · split
    · exact holdByte_linkLaw hs nofun rfl
    · exact hs
  · split
    · exact holdByte_linkLaw hs nofun rfl
    · exact hdiscard
  · split
    · dsimp only
      split
      next hlen => exact holdByte_linkLaw hs nofun (Receiver.ok_body.mpr ⟨hlen.1, hlen.2, hlen.1⟩)
      next => exact hdiscard
    · exact hdiscard
  · next len got hrx =>
    obtain ⟨hlow, hhigh, hgot⟩ := Receiver.ok_body.mp (hrx ▸ hok)
    split
    · split
      next hmore => exact holdByte_linkLaw hs nofun (Receiver.ok_body.mpr ⟨hlow, hhigh, by simpa using hmore⟩)
      next hlast => exact holdByte_linkLaw hs nofun (Receiver.ok_check.mpr ⟨hlow, hhigh, by simp; omega⟩)
    · exact hdiscard
  · next len got hrx =>
    split
    · exact holdByte_linkLaw hs nofun (Receiver.ok_check.mpr (Receiver.ok_check.mp (hrx ▸ hok)))
    · exact hdiscard
  · split
    · unfold State.completeFrame
      split
      · exact receive_linkLaw (s := { s with rx := .hunt, gap := none })
          { hcore with receiving := ⟨⟨fun _ => rfl, fun _ => rfl⟩, rfl⟩ } _
      · exact hdiscard
    · exact hdiscard

/-! ### The end of a transmission (R164, R168) -/

theorem earliestQuestion_eq_none {l : List (SlotNo × Question)} (h : earliestQuestion l = none) : l = [] := by
  cases l with
  | nil => rfl
  | cons => cases h

/-- What a FREE transmitter does: it sends the reply, else a question, else the first notice, else the first report, else nothing
waits (R164). -/
theorem arbitrateTx_cases (h : s.sending = none) :
    (∃ b : Body, s.reply = some b ∧
      s.arbitrateTx = { s with sending := some ⟨frameOf b, s.restartPending⟩, reply := none }) ∨
    (s.reply = none ∧
      ((∃ (j : SlotNo) (q : Question), s.arbitrateTx = { s.setSlot j (some { q with asked := true }) with
          sending := some ⟨frameOf q.query, false⟩ }) ∨
        (∃ (b : Body) (rest : List Body), s.notices = b :: rest ∧
          s.arbitrateTx = { s with sending := some ⟨frameOf b, false⟩, notices := rest }) ∨
        (∃ (b : Body) (rest : List Body), s.reports = b :: rest ∧
          s.arbitrateTx = { s with sending := some ⟨frameOf b, false⟩, reports := rest }) ∨
        ((s.pendingSlots = [] ∧ s.notices = [] ∧ s.reports = []) ∧ s.arbitrateTx = s))) := by
  rcases Option.eq_none_or_eq_some s.reply with hreply | ⟨b, hreply⟩
  · refine .inr ⟨hreply, ?_⟩
    rcases Option.eq_none_or_eq_some (earliestQuestion s.pendingSlots) with hq | ⟨⟨j, q⟩, hq⟩
    · have hpending := earliestQuestion_eq_none hq
      by_cases hn : s.notices = []
      · by_cases hr : s.reports = []
        · exact .inr (.inr (.inr ⟨⟨hpending, hn, hr⟩, arbitrateTx_of_nothing hreply hpending hn hr⟩))
        · obtain ⟨b, rest, hr⟩ := List.exists_cons_of_ne_nil hr
          exact .inr (.inr (.inl ⟨b, rest, hr, arbitrateTx_of_report h hreply hpending hn hr⟩))
      · obtain ⟨b, rest, hn⟩ := List.exists_cons_of_ne_nil hn
        exact .inr (.inl ⟨b, rest, hn, arbitrateTx_of_notice h hreply hpending hn⟩)
    · exact .inl ⟨j, q, arbitrateTx_of_earliest h hreply hq⟩
  · exact .inl ⟨b, hreply, arbitrateTx_of_reply h hreply⟩

/-- A transmitter whose frame has left the line is lawful again once it has chosen the next one. -/
theorem arbitrateTx_linkCore (hs : s.LinkCore) {f : Sending} (hsend : s.sending = some f) (hf : f.restartReply = false) :
    ({ s with sending := none } : State).arbitrateTx.LinkCore := by
  have hnone : s.reply = none → s.restartPending = false := fun hreply =>
    Bool.eq_false_iff.mpr fun hrestart => by
      have hanswered := hs.answering hrestart
      simp [hreply, hsend, hf] at hanswered
  have hplain (hreply : s.reply = none) {slots : Vector (Option Question) 4} {notices reports : List Body}
      (hn : notices.length ≤ s.notices.length) (hr : reports.length ≤ s.reports.length) (frame : List Byte) :
      ({ s with slots := slots, notices := notices, reports := reports,
                sending := some ⟨frame, false⟩ } : State).LinkCore := by
    refine { hs with noticed := hn.trans hs.noticed, reported := hr.trans hs.reported, idle := .of_sending nofun,
                     answering := fun hrestart => ?_, restarting := ?_ }
    · exact absurd hrestart (Bool.eq_false_iff.mp (hnone hreply))
    · rintro g ⟨⟩ ⟨⟩
  rcases arbitrateTx_cases (s := { s with sending := none }) rfl with
    ⟨b, -, htx⟩ | ⟨hreply, ⟨j, q, htx⟩ | ⟨b, rest, hn, htx⟩ | ⟨b, rest, hr, htx⟩ | ⟨hidle, htx⟩⟩ <;> rw [htx]
  · refine { hs with idle := .of_sending nofun, answering := fun h => .inr (congrArg some h), restarting := ?_ }
    rintro g ⟨⟩ hg
    exact ⟨hg, rfl⟩
  · exact hplain hreply le_rfl le_rfl _
  · exact hplain hreply (by simp [show s.notices = b :: rest from hn]) le_rfl _
  · exact hplain hreply le_rfl (by simp [show s.reports = b :: rest from hr]) _
  · refine { hs with idle := fun _ => ⟨hreply, hidle⟩, answering := fun hrestart => ?_, restarting := nofun }
    exact absurd hrestart (Bool.eq_false_iff.mp (hnone hreply))

/-! ### Resets (R168, R169) -/

/-- After a reset nothing waits and nothing is sent. -/
theorem linkLaw_of_fresh (hslots : s.slots = Vector.replicate 4 none) (hbuffers : s.buffers = []) (hreply : s.reply = none)
    (hsending : s.sending = none) (hnotices : s.notices = []) (hreports : s.reports = [])
    (hrestart : s.restartPending = false) (hsilent : s.linked = false → s.silence = none) (hrx : s.rx = .hunt)
    (hgap : s.gap = none) : s.linkLaw := by
  have hpending : s.pendingSlots = [] := pendingSlots_of_all_asked fun j q hq => by
    simp [hslots] at hq
  refine (linkLaw_iff s).mpr ⟨{
    buffered := by simp [hbuffers]
    noticed := by simp [hnotices]
    reported := by simp [hreports]
    idle := fun _ => ⟨hreply, hpending, hnotices, hreports⟩
    answering := by simp [hrestart]
    restarting := by simp [hsending]
    silent := hsilent
    receiving := ⟨by simp [hrx, hgap], by rw [hrx]; rfl⟩ }, fun hne => absurd hbuffers hne⟩

theorem powerUp_linkLaw (s : State) (cause : RestartCause) (a b : Bool) : (s.powerUp cause a b).linkLaw :=
  linkLaw_of_fresh rfl rfl rfl rfl rfl rfl rfl (fun _ => rfl) rfl rfl

theorem restartNow_linkLaw (hfree : s.sending = none) : s.restartNow.linkLaw := by
  refine linkLaw_of_fresh rfl rfl rfl hfree rfl rfl rfl (fun hlinked => ?_) rfl rfl
  have hoff : s.linked = false := hlinked
  show (if s.linked && s.params.silenceLimit != 0 then _ else none) = none
  rw [hoff]
  rfl

/-- The event in which a RESTART's reply leaves the line is the restart, and nothing follows it (R168). -/
theorem frameLeftLine_of_restart {f : Sending} (hsend : s.sending = some f) (hf : f.restartReply = true) :
    frameLeftLine s = ({ s with sending := none } : State).restartNow := by
  unfold frameLeftLine
  rw [hsend]
  dsimp only
  rw [hf, if_pos rfl, arbitrateTx_of_nothing rfl (pendingSlots_of_all_asked fun j q hq => ?_) rfl rfl,
    takeWaiting_of_empty rfl]
  have hslots : ({ s with sending := none } : State).restartNow.slots = Vector.replicate 4 none := rfl
  simp [hslots] at hq

theorem frameLeftLine_linkLaw (hs : s.linkLaw) : (frameLeftLine s).linkLaw := by
  cases hsend : s.sending with
  | none =>
    unfold frameLeftLine
    rw [hsend]
    exact hs
  | some f =>
    cases hf : f.restartReply with
    | true =>
      rw [frameLeftLine_of_restart hsend hf]
      exact restartNow_linkLaw rfl
    | false =>
      rw [frameLeftLine_of_plain hsend hf]
      exact takeWaiting_linkLaw (arbitrateTx_linkCore ((linkLaw_iff s).mp hs).1 hsend hf)

/-! ### Every command, every step -/

theorem exec_linkLaw (i : Instr) {t : State} (hs : s.linkLaw) (hx : exec i s = .next t) : t.linkLaw := by
  have hsame {u : State} (hu : u.link = s.link) : u.linkLaw := (KeepsLink.of_link hu).linkLaw hs
  have hcore := ((linkLaw_iff s).mp hs).1
  cases i <;> obtain rfl := Host.Outcome.next.inj hx
  case powerOn => exact powerUp_linkLaw _ _ _ _
  case resetPin => exact powerUp_linkLaw _ _ _ _
  case beamRawChange => exact hsame rfl
  case beamFilterExpiry => exact (beamFilterExpiry_keepsLink s _ _).linkLaw hs
  case stuckTimerExpiry => exact (stuckTimerExpiry_keepsLink s _ _).linkLaw hs
  case keyRawChange => exact hsame (link_keyRawChange s _)
  case keyFilterExpiry => exact hsame (link_keyFilterExpiry s)
  case presenceTimerExpiry => exact (presenceTimerExpiry_keepsLink s _).linkLaw hs
  case settleTimerExpiry => exact (settleTimerExpiry_keepsLink s _).linkLaw hs
  case fieldSettleExpiry => exact (fieldSettleExpiry_keepsLink s).linkLaw hs
  case slotReport => exact hsame (link_slotReport s _)
  case holdTimerExpiry => exact hsame (link_holdTimerExpiry s)
  case roundTimerExpiry => exact hsame (link_roundTimerExpiry s)
  case fieldFault => exact hsame (link_fieldFault s)
  case fieldOffAck => exact (fieldOffAck_keepsLink s).linkLaw hs
  case backgroundTimerExpiry => exact hsame (link_backgroundTimerExpiry s)
  case retryTimerExpiry => exact hsame (link_retryTimerExpiry s _)
  case readMerge => exact (readMerge_keepsLink s).linkLaw hs
  case ageExpiry => exact hsame (link_expireAge s _)
  case loanLifeEnd => exact hsame rfl
  case slotTimerExpiry => exact (slotTimerExpiry_keepsLink s _).linkLaw hs
  case alarmTimerExpiry => exact hsame (link_alarmTimerExpiry s _)
  case pulseTimerExpiry => exact hsame (link_pulseTimerExpiry s _)
  case testTimerExpiry => exact hsame (link_testTimerExpiry s _)
  case byteReceived => exact byteReceived_linkLaw hs _ _
  case gapTimerExpiry => exact (gapTimerExpiry_keepsLink s).linkLaw hs
  case silenceTimerExpiry => exact (silenceTimerExpiry_keepsLink s).linkLaw hs
  case frameLeftLine => exact frameLeftLine_linkLaw hs
  all_goals exact receive_linkLaw hcore _

end Frames

/-- Settles O59: events other than frames keep what waits and why, frames are taken until something holds them back, and a frame
that has left the line is followed by the next. -/
theorem everyStepKeepsLink : Obligations.EveryStepKeepsLink := by
  intro s t hs hx
  unfold step at hx
  split at hx
  · next c rest _ => exact exec_linkLaw c (s := { s with pending := rest }) hs hx
  · split at hx
    · exact exec_linkLaw _ hs hx
    · obtain rfl := Host.Outcome.next.inj hx
      exact hs

end Sys2Proof.Machine
end

section
/-! SUPPORT. The message RESTART, and what the output lines are after the restart (08, section 8.4; R152, R168). -/

namespace Sys2Proof.Machine

/-! ### Sources after the restart (R145, R152) -/

/-- With every lane QUIET, no tracker in FAULT and every lane NORMAL, the one source that may be active is STANDALONE (R145). -/
theorem sourceActive_of_quiet {s : State} (hquiet : ∀ k : Lane, s.alarms[k].state = .quiet)
    (hfault : ∀ k : Lane, (s.trackers[k] == some .fault) = false) (hnormal : ∀ k : Lane, s.laneCondition k = .normal)
    (n : Source) : s.sourceActive n = (decide (n.val = 12) && !s.linked) := by
  unfold State.sourceActive
  split
  next hn => simp [hn]
  next hn =>
    dsimp only
    simp only [hquiet, hfault, hnormal, hn, decide_false, Bool.false_and]
    split
    · rfl
    · rfl
    · exact Bool.and_false _

theorem sourceActive_restartNow (s : State) (n : Source) :
    s.restartNow.sourceActive n = (decide (n.val = 12) && !s.linked) := by
  refine sourceActive_of_quiet (s := s.restartNow) (fun k => ?_) (resetTrackers_no_fault s.clearWorking.resetBeams)
    (fun k => ?_) n
  · have halarms : s.restartNow.alarms = Vector.replicate 4 {} := rfl
    simp [halarms]
  · have hantennas : s.restartNow.antennas = Vector.replicate 5 {} := rfl
    simp [State.laneCondition, State.countedOut, hantennas]

/-! ### Lines after the restart (R147, R152) -/

theorem follow_pulsed (l : LineState) (driven : Bool) (now : Time) (keeps : Resume → Bool) :
    (l.follow driven now keeps).pulsed = l.pulsed := by
  unfold LineState.follow
  split
  · split
    · split <;> rfl
    · rfl
  · rfl
  · rfl

section Line
variable (s : State) (l : OutLine)

/-- Each line at the restart is computed afresh from its phase as kept, its test ended. -/
theorem restartNow_line : ∃ driven keeps,
    s.restartNow.lines[l] = (s.lines[l].atRestart s.gateTime).follow driven 0 keeps := by
  have hline : s.clearWorking.lines[l] = s.lines[l].atRestart s.gateTime := perLine_getElem _ l
  rw [← hline]
  exact ⟨_, _, recomputeLines_line s.clearWorking.resetBeams.resetTrackers l⟩

theorem restartNow_pulsed : s.restartNow.lines[l].pulsed = s.lines[l].pulsed := by
  obtain ⟨driven, keeps, hline⟩ := restartNow_line s l
  rw [hline, follow_pulsed]
  rfl

theorem restartNow_test : s.restartNow.lines[l].test = none := by
  obtain ⟨driven, keeps, hline⟩ := restartNow_line s l
  rw [hline, follow_test]
  rfl

/-- Only STANDALONE drives a line after the restart. -/
theorem restartNow_active : s.restartNow.lines[l].active = (s.routed 12 l && !s.linked) := by
  have hdriven : s.restartNow.lines[l].active = s.restartNow.lineDriven l := recomputeLines_agrees _ l
  have hrouted (n : Source) : s.restartNow.routed n l = s.routed n l := rfl
  rw [hdriven, State.lineDriven, restartNow_test]
  simp [allSources, sourceActive_restartNow, hrouted]

/-- A line that stays active keeps its level (R152). -/
theorem restartNow_level (hwas : s.lines[l].active = true) (hstays : s.restartNow.lines[l].active = true) :
    s.restartNow.lines[l].level = s.lines[l].level := by
  obtain ⟨driven, keeps, hline⟩ := restartNow_line s l
  rw [hline, follow_active] at hstays
  have hagrees : (s.lines[l].atRestart s.gateTime).active = driven := hwas.trans hstays.symm
  rw [hline, follow_of_agrees _ _ _ _ hagrees]
  rfl

end Line

/-! ### Timers after the restart (R58, R159, R184) -/

/-- Gate time starts again from 0. -/
theorem after_zero (ms : Nat) : after 0 ms = BitVec.ofNat 32 ms := BitVec.zero_add _

theorem restartNow_bgTimer (s : State) : s.restartNow.bgTimer = some (BitVec.ofNat 32 s.params.bgInterval) :=
  congrArg some (after_zero _)

theorem restartNow_silence (s : State) : s.restartNow.silence =
    if s.linked = true ∧ s.params.silenceLimit ≠ 0 then some (BitVec.ofNat 32 (s.params.silenceLimit * 1000)) else none := by
  have hdef : s.restartNow.silence =
      if s.linked && s.params.silenceLimit != 0 then some (after 0 (s.params.silenceLimit * 1000)) else none := rfl
  rw [hdef, after_zero]
  simp only [Bool.and_eq_true, bne_iff_ne]

/-! ### The message (R168) -/

/-- Settles O7: RESTART is taken and answered as a message is; the event in which its reply leaves the line is the restart. -/
theorem restartFollowsItsReply : Obligations.RestartFollowsItsReply := by
  refine ⟨fun s h => congrArg Host.Outcome.next ?_, fun s f hsend hf =>
    ⟨({ s with sending := none } : State).restartNow, congrArg Host.Outcome.next (frameLeftLine_of_restart hsend hf), ?_⟩⟩
  · exact receive_of_taken h (k := .restart) (fields := []) rfl rfl nofun rfl rfl
  · refine ⟨⟨rfl, rfl, rfl, rfl, rfl, rfl, rfl, rfl, fun l => restartNow_pulsed _ l⟩,
      ⟨rfl, rfl, rfl, rfl, rfl, rfl, rfl, rfl, rfl, rfl⟩,
      ⟨rfl, rfl, rfl, restartNow_bgTimer _, rfl, rfl, rfl, rfl, rfl, rfl, rfl⟩,
      ⟨rfl, fun l => ⟨restartNow_test _ l, restartNow_active _ l, restartNow_level _ l⟩⟩,
      ⟨rfl, rfl, rfl, rfl, rfl, rfl, rfl, rfl, rfl, restartNow_silence _⟩⟩

end Sys2Proof.Machine
end

section
/-! SUPPORT. The receiver of the serial line: bytes held, frames discarded, frames completed, and good frames that wait or are
lost (09, sections 9.2 to 9.4). -/

namespace Sys2Proof.Machine

/-! ### Good frames that wait or are lost (R158, R161) -/

/-- A message of a kind is a good frame that completes (log entry 3). -/
theorem exec_command (k : Kind) (f : List Byte) (s : State) : exec (k.command f) s = .next (s.receive (k.code :: f)) := by
  cases k <;> rfl

section Held
variable {s : State}

/-- While something holds frames back none is taken. -/
theorem takeWaiting_of_holding (h : s.Holding) : s.takeWaiting = s := by
  have hclosed : ¬(s.reply.isNone && !s.restartPending) = true := fun hopen => by
    obtain ⟨hreply, hrestart⟩ := Bool.and_eq_true_iff.mp hopen
    rcases h with h | h
    · simp [Option.isNone_iff_eq_none.mp hreply] at h
    · simp [h] at hrestart
  unfold State.takeWaiting takeFrames
  split
  · rfl
  · split
    · rfl
    · rw [if_neg hclosed]

theorem holding_arrive (h : s.Holding) (body : Body) : (s.arrive body).Holding := by
  unfold State.arrive
  dsimp only
  split <;> split <;> exact h

/-- With a buffer free a frame is heard and buffered. -/
theorem arrive_of_room (h : s.buffers.length < Config.maxBuffers) (body : Body) :
    s.arrive body = { s.heard with buffers := s.buffers ++ [body] } := by
  unfold State.arrive State.heard
  rw [if_pos h]
  dsimp only
  split <;> rfl

/-- With both buffers full a frame is heard and lost, counted as an overrun. -/
theorem arrive_of_full (h : ¬s.buffers.length < Config.maxBuffers) (body : Body) :
    s.arrive body = { s.heard with device := { s.device with overruns := min (s.device.overruns + 1) 65535 } } := by
  unfold State.arrive State.heard
  rw [if_neg h]
  dsimp only
  split <;> rfl

/-- A message that something holds back arrives, and no more. -/
theorem exec_command_of_holding (h : s.Holding) (k : Kind) (f : List Byte) :
    exec (k.command f) s = .next (s.arrive (k.code :: f)) :=
  (exec_command k f s).trans (congrArg Host.Outcome.next (takeWaiting_of_holding (holding_arrive h _)))

end Held

/-! ### One byte (R155 to R157) -/

section Byte
variable {s : State}

/-- A byte error inside a frame discards the frame. -/
theorem byteReceived_of_error (h : s.rx ≠ .hunt) (b : Byte) : byteReceived b false s = s.discardFrame := by
  unfold byteReceived
  split
  next hhunt => exact absurd hhunt h
  all_goals rfl

/-- In HUNT all but the mark is passed over. -/
theorem byteReceived_of_hunt (h : s.rx = .hunt) {b : Byte} {stop : Bool} (hb : ¬(b = 0xC3 ∧ stop = true)) :
    byteReceived b stop s = s := by
  unfold byteReceived
  rw [h]
  refine if_neg fun hmark => hb ?_
  obtain ⟨hstop, hb⟩ := Bool.and_eq_true_iff.mp hmark
  exact ⟨eq_of_beq hb, hstop⟩

theorem byteReceived_of_mark (h : s.rx = .hunt) : byteReceived mark true s = s.holdByte (.length none) := by
  unfold byteReceived
  rw [h]
  rfl

theorem byteReceived_of_firstLength (h : s.rx = .length none) (b : Byte) :
    byteReceived b true s = s.holdByte (.length (some b)) := by
  unfold byteReceived
  rw [h]
  rfl

/-- The second length byte: a length of 1 to 400 opens the body, any other discards the frame. -/
theorem byteReceived_of_secondLength {hi : Byte} (h : s.rx = .length (some hi)) (b : Byte) :
    byteReceived b true s =
      if 1 ≤ beNat [hi, b] ∧ beNat [hi, b] ≤ Config.maxBody then s.holdByte (.body (beNat [hi, b]) [])
      else s.discardFrame := by
  unfold byteReceived
  rw [h]
  rfl

/-- A body byte, which may be the last. -/
theorem byteReceived_of_body {len : Nat} {got : List Byte} (h : s.rx = .body len got) (b : Byte) :
    byteReceived b true s =
      if got.length + 1 < len then s.holdByte (.body len (got ++ [b])) else s.holdByte (.check len (got ++ [b]) none) := by
  unfold byteReceived
  rw [h]
  rfl

theorem byteReceived_of_firstCheck {len : Nat} {got : List Byte} (h : s.rx = .check len got none) (b : Byte) :
    byteReceived b true s = s.holdByte (.check len got (some b)) := by
  unfold byteReceived
  rw [h]
  rfl

theorem byteReceived_of_secondCheck {len : Nat} {got : List Byte} {hi : Byte} (h : s.rx = .check len got (some hi))
    (b : Byte) : byteReceived b true s = s.completeFrame got [hi, b] := by
  unfold byteReceived
  rw [h]
  rfl

end Byte

/-- Settles O49: a frame that is held back arrives and no more; the receiver byte by byte. -/
theorem framesWaitOrAreLost : Obligations.FramesWaitOrAreLost := by
  refine ⟨fun s k f h => ?_, fun s b => ⟨fun hgap => congrArg Host.Outcome.next (if_pos hgap),
    fun hrx => congrArg Host.Outcome.next (byteReceived_of_error hrx b),
    fun hrx stop hb => congrArg Host.Outcome.next (byteReceived_of_hunt hrx hb),
    fun hrx => congrArg Host.Outcome.next (byteReceived_of_mark hrx),
    fun hrx => congrArg Host.Outcome.next (byteReceived_of_firstLength hrx b), fun hi hrx => ?_,
    fun len got hi hrx hcheck => ?_⟩⟩
  · have hheld : s.Holding := h.imp_left Option.isSome_iff_ne_none.mpr
    refine ⟨fun hroom => ?_, fun hfull => ?_⟩
    · rw [exec_command_of_holding hheld, arrive_of_room hroom]
    · rw [exec_command_of_holding hheld, arrive_of_full (Nat.not_lt.mpr hfull)]
  · have hlen : beNat [hi, b] = hi.toNat * 256 + b.toNat := by simp [beNat]
    refine congrArg Host.Outcome.next ((byteReceived_of_secondLength hrx b).trans ?_)
    rw [hlen]
    split
    next hgood => exact (if_neg (by have : Config.maxBody = 400 := rfl; omega)).symm
    next hbad => exact (if_pos (by have : Config.maxBody = 400 := rfl; omega)).symm
  · exact congrArg Host.Outcome.next ((byteReceived_of_secondCheck hrx b).trans (if_neg hcheck))

/-! ### The bytes of a frame (R155) -/

/-- Bytes received one after another. -/
def State.hearBytes (s : State) (bytes : List Byte) : State := bytes.foldl (fun t b => byteReceived b true t) s

theorem execAll_bytes (bytes : List Byte) (s : State) :
    execAll (bytes.map fun b => .byteReceived b true) s = .next (s.hearBytes bytes) := by
  induction bytes generalizing s with
  | nil => rfl
  | cons b rest ih => exact ih _

theorem hearBytes_append (s : State) (front rest : List Byte) :
    s.hearBytes (front ++ rest) = (s.hearBytes front).hearBytes rest := List.foldl_append

theorem toBytes_two (n : Nat) : ∃ hi lo : Byte, toBytes 2 n = [hi, lo] := ⟨_, _, rfl⟩

/-- Mark and length bytes of a body of 1 to 400 bytes open the body. -/
theorem hearBytes_header {s : State} (h : s.rx = .hunt) {len : Nat} (hlow : 1 ≤ len) (hhigh : len ≤ Config.maxBody) :
    s.hearBytes (mark :: toBytes 2 len) = s.holdByte (.body len []) := by
  have hmax : Config.maxBody = 400 := rfl
  have hread : beNat (toBytes 2 len) = len := by
    rw [beNat_toBytes]
    exact Nat.mod_eq_of_lt (by omega)
  obtain ⟨hi, lo, hbytes⟩ := toBytes_two len
  rw [hbytes] at hread ⊢
  calc s.hearBytes [mark, hi, lo]
      = byteReceived lo true (byteReceived hi true (s.holdByte (.length none))) := by
        rw [← byteReceived_of_mark h]
        rfl
    _ = byteReceived lo true (s.holdByte (.length (some hi))) := by
        rw [byteReceived_of_firstLength (s := s.holdByte (.length none)) rfl]
        rfl
    _ = s.holdByte (.body len []) := by
        rw [byteReceived_of_secondLength (s := s.holdByte (.length (some hi))) rfl, hread, if_pos ⟨hlow, hhigh⟩]
        rfl

/-- The rest of a body, up to its last byte. -/
theorem hearBytes_body (s : State) (b : Byte) (rest got : List Byte) :
    (s.holdByte (.body (got.length + (rest.length + 1)) got)).hearBytes (b :: rest) =
      s.holdByte (.check (got.length + (rest.length + 1)) (got ++ b :: rest) none) := by
  induction rest generalizing b got with
  | nil =>
    refine (byteReceived_of_body (s := s.holdByte _) rfl b).trans ?_
    rw [if_neg (by simp)]
    rfl
  | cons c rest ih =>
    have hlen : got.length + ((c :: rest).length + 1) = (got ++ [b]).length + (rest.length + 1) := by simp; omega
    have hfirst : byteReceived b true (s.holdByte (.body (got.length + ((c :: rest).length + 1)) got)) =
        s.holdByte (.body ((got ++ [b]).length + (rest.length + 1)) (got ++ [b])) := by
      refine (byteReceived_of_body (s := s.holdByte _) rfl b).trans ?_
      rw [if_pos (by simp), hlen]
      rfl
    have hrest := ih c (got ++ [b])
    rw [← hlen, List.append_assoc] at hrest
    rw [← hlen] at hfirst
    exact (congrArg (State.hearBytes · (c :: rest)) hfirst).trans hrest

/-- The check bytes of a body complete its frame. -/
theorem hearBytes_check {s : State} (hrx : s.rx = .hunt) (hgap : s.gap = none) (len : Nat) (body : Body) :
    (s.holdByte (.check len body none)).hearBytes (checkBytes body) = s.receive body := by
  have hidle : ({ s with rx := .hunt, gap := none } : State) = s := by rw [← hrx, ← hgap]
  obtain ⟨hi, lo, hbytes⟩ : ∃ hi lo : Byte, checkBytes body = [hi, lo] := toBytes_two _
  rw [hbytes]
  calc (s.holdByte (.check len body none)).hearBytes [hi, lo]
      = byteReceived lo true (s.holdByte (.check len body (some hi))) := by
        exact congrArg (byteReceived lo true) (byteReceived_of_firstCheck (s := s.holdByte (.check len body none)) rfl hi)
    _ = (s.holdByte (.check len body (some hi))).completeFrame body [hi, lo] :=
        byteReceived_of_secondCheck (s := s.holdByte _) rfl lo
    _ = ({ s with rx := .hunt, gap := none } : State).receive body := if_pos hbytes.symm
    _ = s.receive body := by rw [hidle]

/-- The frame of a body of 1 to 400 bytes, received from HUNT, is that body received (R155, R156). -/
theorem hearBytes_frameOf {s : State} (hrx : s.rx = .hunt) (hgap : s.gap = none) {code : Byte} {f : List Byte}
    (hlen : f.length ≤ 399) : s.hearBytes (frameOf (code :: f)) = s.receive (code :: f) := by
  have hhigh : (code :: f).length ≤ Config.maxBody := Nat.succ_le_succ hlen
  have hlow : 1 ≤ (code :: f).length := Nat.succ_pos _
  have hbody := hearBytes_body s code f []
  rw [List.length_nil, Nat.zero_add, List.nil_append] at hbody
  have hparts : frameOf (code :: f) = (mark :: toBytes 2 (code :: f).length) ++ (code :: f) ++ checkBytes (code :: f) := rfl
  rw [hparts, hearBytes_append, hearBytes_append, hearBytes_header hrx hlow hhigh, List.length_cons, hbody,
    hearBytes_check hrx hgap]

/-- Settles O51: the bytes of a frame come to its body received, which is what its command is. -/
theorem bytesMakeTheCommand : Obligations.BytesMakeTheCommand := by
  intro s f hrx hgap hlen
  have hframe (code : Byte) : execAll ((frameOf (code :: f)).map fun b => .byteReceived b true) s =
      .next (s.receive (code :: f)) := by
    rw [execAll_bytes, hearBytes_frameOf hrx hgap hlen]
  exact ⟨fun k => (hframe k.code).trans (exec_command k f s).symm, hframe⟩

end Sys2Proof.Machine
end

section
/-! SUPPORT. Frames refused: kinds that are not accepted, lengths outside a kind's, indexes out of range (09, section 9.4; 10). -/

namespace Sys2Proof.Machine

/-! ### Kinds and their lengths (R170, R172) -/

theorem kindOf_code (k : Kind) : kindOf k.code = some k := by cases k <;> rfl

/-- A code that is not accepted names no kind. -/
theorem kindOf_of_not_accepted {code : Byte} (h : code ∉ acceptedCodes) : kindOf code = none := by
  have hcodes : allKinds.map Kind.code = acceptedCodes := by decide
  refine List.find?_eq_none.mpr fun k hk hcode => h ?_
  rw [← hcodes, ← eq_of_beq hcode]
  exact List.mem_map_of_mem hk

/-- The body lengths that the kind table allows, the kind byte counted (R172). -/
def Kind.bodyLengths (k : Kind) : List Nat :=
  match k with
  | .set => (List.range 20).map fun i => 4 + 3 * i
  | .get => (List.range 20).map fun i => 2 + i
  | .loanAdd | .loanDrop => (List.range 16).map fun i => 9 + 8 * i
  | .classWrite => [21]
  | .rateWrite => [8]
  | .ownerSet | .answer => [11]
  | .routeSet | .patternSet | .lineTest => [3]
  | .classRead | .rateRead | .routeRead | .acknowledge => [2]
  | .countsClear => [1, 2]
  | .statusReq | .ownerRead | .loanClear | .countsRead | .statsRead | .statsClear | .restart => [1]

/-- A body of 1 to `most` entries of `size` bytes each, after the kind byte. -/
theorem mem_entryLengths {size : Nat} (hsize : 0 < size) (most n : Nat) :
    n + 1 ∈ ((List.range most).map fun i => (size + 1) + size * i) ↔ n % size = 0 ∧ 1 ≤ n / size ∧ n / size ≤ most := by
  rw [List.mem_map]
  constructor
  · rintro ⟨i, hi, hlen⟩
    obtain rfl : size * (i + 1) = n := by rw [Nat.mul_succ]; omega
    rw [Nat.mul_mod_right, Nat.mul_div_cancel_left _ hsize]
    exact ⟨rfl, Nat.succ_pos i, List.mem_range.mp hi⟩
  · rintro ⟨hwhole, hlow, hhigh⟩
    refine ⟨n / size - 1, List.mem_range.mpr (by omega), ?_⟩
    have hn : size * (n / size - 1 + 1) = n := by
      rw [Nat.sub_add_cancel hlow]
      exact Nat.mul_div_cancel' (Nat.dvd_of_mod_eq_zero hwhole)
    rw [Nat.mul_succ] at hn
    omega

/-- The part's own test of a length is the kind table's (R172). -/
theorem mem_bodyLengths (k : Kind) (n : Nat) : n + 1 ∈ k.bodyLengths ↔ k.lengthOk n = true := by
  have hpairs := mem_entryLengths (by decide : 0 < 3) 20 n
  have hitems := mem_entryLengths (by decide : 0 < 8) 16 n
  have hids := mem_entryLengths Nat.one_pos 20 n
  cases k
  case set => simpa [Kind.bodyLengths, Kind.lengthOk, and_assoc] using hpairs
  case get => simpa [Kind.bodyLengths, Kind.lengthOk, Nat.mod_one] using hids
  case loanAdd | loanDrop => simpa [Kind.bodyLengths, Kind.lengthOk, and_assoc] using hitems
  case countsClear => simp [Kind.bodyLengths, Kind.lengthOk]; omega
  all_goals simp [Kind.bodyLengths, Kind.lengthOk]

/-! ### Frames refused (R162) -/

theorem takeFrame_of_badKind (s : State) {code : Byte} (h : code ∉ acceptedCodes) (f : List Byte) :
    s.takeFrame (code :: f) = s.placeReply (replyBody code .badKind []) := by
  unfold State.takeFrame
  simp only [kindOf_of_not_accepted h]

theorem takeFrame_of_badLength (s : State) {k : Kind} {f : List Byte} (h : f.length + 1 ∉ k.bodyLengths) :
    s.takeFrame (k.code :: f) = s.placeReply (replyBody k.code .badLength []) := by
  unfold State.takeFrame
  simp only [kindOf_code, if_neg (mt (mem_bodyLengths k f.length).mpr h)]

section Ready
variable {s : State}

theorem reply_heard (h : s.ready) : s.heard.reply = none := by
  obtain ⟨_, hreply, _⟩ := h
  rw [heard_eq]
  exact hreply

/-- A frame that is heard and changes nothing else is answered. -/
theorem receive_of_refusal (h : s.ready) {body : Body} {code : Byte} {r : Result}
    (hrefused : s.heard.takeFrame body = s.heard.placeReply (replyBody code r [])) :
    s.receive body = s.heard.answered code r [] := by
  rw [receive_of_ready h, hrefused, placeReply_of_empty (reply_heard h)]

/-- A command of an allowed length that its rule refuses with BAD_INDEX. -/
theorem exec_of_badIndex (h : s.ready) (k : Kind) {f : List Byte} (hlen : k.lengthOk f.length = true) (hk : k ≠ .answer)
    (hrefused : takeCommand k f s.heard = refuse s.heard .badIndex) :
    exec (k.command f) s = .next (s.heard.answered k.code .badIndex []) := by
  rw [exec_command, receive_of_taken h (kindOf_code k) hlen hk hrefused rfl]

end Ready

/-! ### Indexes out of range (R26, R48, R103, R141, R146, R148, R149, R183) -/

/-- A field of one byte is that byte, and 0 beyond the end. -/
theorem fieldNat_one (f : List Byte) (i : Nat) : fieldNat f i 1 = (f.getD i 0).toNat := by
  induction f generalizing i with
  | nil => simp [fieldNat, beNat]
  | cons b rest ih =>
    cases i with
    | zero => exact fieldNat_first b rest
    | succ i => exact ih i

theorem actionOf_of_high {n : Nat} (h : 3 ≤ n) : actionOf n = none := by
  unfold actionOf
  split
  case h_4 => rfl
  all_goals omega

theorem not_paramIdOk (b : Byte) : (!paramIdOk b.toNat) = true ↔ b = 0 ∨ 28 ≤ b.toNat := by
  have hzero : b = 0 ↔ b.toNat = 0 := BitVec.toNat_eq
  simp only [paramIdOk, Bool.not_eq_true', Bool.and_eq_false_iff, decide_eq_false_iff_not, hzero]
  omega

section Taken
variable (s : State)

theorem takeClassWrite_of_badIndex {f : List Byte} (h : 8 ≤ fieldNat f 0 1 ∨ 3 ≤ fieldNat f 16 1) :
    takeClassWrite f s = refuse s .badIndex := by
  unfold takeClassWrite
  dsimp only
  split
  next hentry => rw [actionOf_of_high (h.resolve_left (Nat.not_le.mpr hentry))]
  next => rfl

theorem takeClassRead_of_badIndex {f : List Byte} (h : 8 ≤ fieldNat f 0 1) : takeClassRead f s = refuse s .badIndex :=
  dif_neg (Nat.not_lt.mpr h)

theorem takeRateWrite_of_badIndex {f : List Byte} (h : 4 ≤ fieldNat f 0 1) : takeRateWrite f s = refuse s .badIndex :=
  dif_neg (Nat.not_lt.mpr h)

theorem takeRateRead_of_badIndex {f : List Byte} (h : 4 ≤ fieldNat f 0 1) : takeRateRead f s = refuse s .badIndex :=
  dif_neg (Nat.not_lt.mpr h)

theorem takeGet_of_badIndex {f : List Byte} (h : ∃ b ∈ f, b = 0 ∨ 28 ≤ b.toNat) : takeGet f s = refuse s .badIndex := by
  obtain ⟨b, hb, hid⟩ := h
  exact if_pos (List.any_eq_true.mpr ⟨b, hb, (not_paramIdOk b).mpr hid⟩)

theorem takeRouteSet_of_badIndex {f : List Byte} (h : 13 ≤ fieldNat f 0 1 ∨ 64 ≤ fieldNat f 1 1) :
    takeRouteSet f s = refuse s .badIndex := by
  unfold takeRouteSet
  dsimp only
  split
  next hsource => exact if_neg (Nat.not_lt.mpr (h.resolve_left (Nat.not_le.mpr hsource)))
  next => rfl

theorem takeRouteRead_of_badIndex {f : List Byte} (h : 13 ≤ fieldNat f 0 1) : takeRouteRead f s = refuse s .badIndex :=
  dif_neg (Nat.not_lt.mpr h)

theorem takePatternSet_of_badIndex {f : List Byte} (h : 6 ≤ fieldNat f 0 1) : takePatternSet f s = refuse s .badIndex :=
  dif_neg (Nat.not_lt.mpr h)

theorem takeAcknowledge_of_badIndex {f : List Byte} (h : 16 ≤ fieldNat f 0 1) :
    takeAcknowledge f s = refuse s .badIndex :=
  if_neg (Nat.not_lt.mpr h)

theorem takeLineTest_of_badIndex {f : List Byte} (h : 6 ≤ fieldNat f 0 1) : takeLineTest f s = refuse s .badIndex :=
  dif_neg (Nat.not_lt.mpr h)

theorem takeCountsClear_of_badIndex {f : List Byte} (hsome : f.length ≠ 0) (h : 4 ≤ fieldNat f 0 1) :
    takeCountsClear f s = refuse s .badIndex :=
  (if_neg hsome).trans (dif_neg (Nat.not_lt.mpr h))

end Taken

/-- Settles O48: kind, then length, then each message's index, each test failing before the message has any effect. -/
theorem refusedFrames : Obligations.RefusedFrames := by
  intro s h
  refine ⟨fun code f hcode => congrArg Host.Outcome.next (receive_of_refusal h (takeFrame_of_badKind _ hcode f)),
    fun k f hlen => (exec_command k f s).trans
      (congrArg Host.Outcome.next (receive_of_refusal h (takeFrame_of_badLength _ hlen))),
    fun f hlen hindex => ?classWrite, fun f hlen hindex => ?rateWrite, fun f hlow hhigh hid => ?get, fun n b => ?short⟩
  case classWrite =>
    rw [← fieldNat_one, ← fieldNat_one] at hindex
    exact exec_of_badIndex h .classWrite (by rw [hlen]; rfl) nofun (takeClassWrite_of_badIndex _ hindex)
  case rateWrite =>
    rw [← fieldNat_one] at hindex
    exact exec_of_badIndex h .rateWrite (by rw [hlen]; rfl) nofun (takeRateWrite_of_badIndex _ hindex)
  case get =>
    have hok : Kind.get.lengthOk f.length = true := by simp [Kind.lengthOk, hlow, hhigh]
    exact exec_of_badIndex h .get hok nofun (takeGet_of_badIndex _ hid)
  case short =>
    refine ⟨fun hindex => ?_, fun hindex => ?_, fun hindex => ?_, fun hindex => ?_, fun hindex => ⟨?_, ?_⟩,
      fun hindex => ?_, fun hindex => ?_⟩
    · exact exec_of_badIndex h .classRead rfl nofun (takeClassRead_of_badIndex _ (by rwa [fieldNat_first]))
    · exact exec_of_badIndex h .rateRead rfl nofun (takeRateRead_of_badIndex _ (by rwa [fieldNat_first]))
    · exact exec_of_badIndex h .routeSet rfl nofun (takeRouteSet_of_badIndex _ (by rwa [fieldNat_first, fieldNat_second]))
    · exact exec_of_badIndex h .routeRead rfl nofun (takeRouteRead_of_badIndex _ (by rwa [fieldNat_first]))
    · exact exec_of_badIndex h .patternSet rfl nofun (takePatternSet_of_badIndex _ (by rwa [fieldNat_first]))
    · exact exec_of_badIndex h .lineTest rfl nofun (takeLineTest_of_badIndex _ (by rwa [fieldNat_first]))
    · exact exec_of_badIndex h .acknowledge rfl nofun (takeAcknowledge_of_badIndex _ (by rwa [fieldNat_first]))
    · exact exec_of_badIndex h .countsClear rfl nofun (takeCountsClear_of_badIndex _ nofun (by rwa [fieldNat_first]))

end Sys2Proof.Machine
end

section
/-! SUPPORT. What one step does on an empty queue (R184, log entries 1 and 11). -/

namespace Sys2Proof.Machine

/-- The first due expiry runs before gate time moves (log entry 1). -/
theorem step_of_due {s : State} {c : Instr} {rest : List Instr} (hqueue : s.pending = [])
    (hdue : s.dueEvents = c :: rest) : step s = exec c s := by
  simp only [step, hqueue, hdue]

theorem step_of_nothing_due {s : State} (hqueue : s.pending = []) (hdue : s.dueEvents = []) :
    step s = .next s.tick := by
  simp only [step, hqueue, hdue]

/-- Settles O2: with nothing due a millisecond passes, which `tick` writes out; otherwise the first due expiry runs. -/
theorem idleStepPassesTime : Obligations.IdleStepPassesTime := by
  intro s hqueue
  refine ⟨fun hnone => ?tick, fun c rest hdue => ?expiry⟩
  case tick => exact step_of_nothing_due hqueue hnone
  case expiry => exact step_of_due hqueue hdue

end Sys2Proof.Machine
end

section
/-! SUPPORT. Every command has a next state and leaves the queue as it is (log entries 23 and 28), and a step runs the queue's front
command. -/

namespace Sys2Proof.Machine

section Queue
variable (s : State)

/-! ### Events of the gate, the radio and the tables -/

theorem pending_keyRawChange (pressed : Bool) : (keyRawChange pressed s).pending = s.pending := by
  unfold keyRawChange
  split
  · rfl
  · split <;> rfl

theorem pending_keyFilterExpiry : (keyFilterExpiry s).pending = s.pending := by
  unfold keyFilterExpiry
  split
  · split
    · dsimp only
      split <;> rfl
    · rfl
  · rfl

theorem pending_holdTimerExpiry : (holdTimerExpiry s).pending = s.pending := by
  unfold holdTimerExpiry
  split
  · split <;> rfl
  · rfl

theorem pending_roundTimerExpiry : (roundTimerExpiry s).pending = s.pending := by
  unfold roundTimerExpiry
  split
  · split <;> rfl
  · rfl

theorem pending_fieldFault : (fieldFault s).pending = s.pending := by
  unfold fieldFault
  split
  · split <;> rfl
  · rfl

theorem pending_backgroundTimerExpiry : (backgroundTimerExpiry s).pending = s.pending := by
  unfold backgroundTimerExpiry
  split
  · exact (choose_frame _).pending
  · rfl

theorem pending_retryTimerExpiry (a : Antenna) : (retryTimerExpiry a s).pending = s.pending := by
  unfold retryTimerExpiry
  split
  · exact (choose_frame _).pending
  · rfl

theorem pending_alarmTimerExpiry (k : Lane) : (alarmTimerExpiry k s).pending = s.pending := by
  unfold alarmTimerExpiry
  split
  · dsimp only
    split <;> rfl
  · rfl

theorem pending_pulseTimerExpiry (l : OutLine) : (pulseTimerExpiry l s).pending = s.pending := by
  unfold pulseTimerExpiry
  split <;> rfl

theorem pending_testTimerExpiry (l : OutLine) : (testTimerExpiry l s).pending = s.pending := by
  unfold testTimerExpiry
  split <;> rfl

theorem pending_gapTimerExpiry : (gapTimerExpiry s).pending = s.pending := by
  unfold gapTimerExpiry
  split <;> rfl

theorem pending_silenceTimerExpiry : (silenceTimerExpiry s).pending = s.pending := by
  unfold silenceTimerExpiry
  split
  · exact (resolveStandalone_frame _).pending
  · rfl

/-! ### Messages (10) -/

theorem pending_addLoan (i : ItemNo) : (s.addLoan i).pending = s.pending := by rw [addLoan_loans_device]

theorem pending_lanesChanged (old : Nat) : (s.lanesChanged old).pending = s.pending := by
  unfold State.lanesChanged
  refine ((choose_frame _).pending.trans (withdrawBeyondLanes_frame _).pending).trans ?_
  refine List.foldlRecOn (motive := fun t : State => t.pending = s.pending) _ _ rfl fun t ht k _ => ?_
  split
  · exact ht
  · split <;> exact ht

theorem pending_silenceSet : s.silenceSet.pending = s.pending := by
  unfold State.silenceSet
  split
  · rfl
  · split <;> rfl

theorem pending_storePair (pair : Nat × Int) : (s.storePair pair).pending = s.pending := by
  unfold State.storePair
  dsimp only
  split
  · split
    · rfl
    · exact pending_lanesChanged _ _
  · exact (restartBackground_frame _).pending
  · rfl
  · exact pending_silenceSet _
  · rfl

theorem pending_takeSet (fields : List Byte) : (takeSet fields s).state.pending = s.pending := by
  unfold takeSet
  dsimp only
  split
  · rfl
  · split
    · rfl
    · refine (endEvent_frame _ s).pending.trans ?_
      exact List.foldlRecOn (motive := fun t : State => t.pending = s.pending) _ _ rfl fun t ht pair _ =>
        (pending_storePair t pair).trans ht

/-- A command taken, whether refused or not, has no effect on the queue. -/
theorem pending_takeCommand (k : Kind) (fields : List Byte) : (takeCommand k fields s).state.pending = s.pending := by
  cases k with
  | set => exact pending_takeSet s fields
  | loanAdd =>
    exact List.foldlRecOn (motive := fun t : State => t.pending = s.pending) _ _ rfl fun t ht i _ =>
      (pending_addLoan t i).trans ht
  | get | classRead | rateWrite | rateRead | routeRead | patternSet | acknowledge | lineTest =>
    dsimp only [takeCommand, takeGet, takeClassRead, takeRateWrite, takeRateRead, takeRouteRead, takePatternSet,
      takeAcknowledge, takeLineTest]
    split <;> rfl
  | classWrite | routeSet =>
    dsimp only [takeCommand, takeClassWrite, takeRouteSet]
    split
    · split <;> rfl
    · rfl
  | countsClear =>
    dsimp only [takeCommand, takeCountsClear]
    split
    · rfl
    · split <;> rfl
  | statusReq | ownerSet | ownerRead | loanDrop | loanClear | answer | countsRead | statsRead | statsClear | restart => rfl

theorem pending_takeAnswer (slot : Nat) (item : ItemNo) (result : Nat) :
    (s.takeAnswer slot item result).pending = s.pending := by
  unfold State.takeAnswer
  split
  · rfl
  · split
    · exact (resolveSlot_frame _ _ _ _ _).pending.trans (pending_addLoan s item)
    · exact (resolveSlot_frame _ _ _ _ _).pending
    · exact (resolveSlot_frame _ _ _ _ _).pending
    · rfl

/-! ### Frames (R156 to R158, R161 to R164) -/

theorem pending_takeFrame (body : Body) : (s.takeFrame body).pending = s.pending := by
  unfold State.takeFrame
  split
  · rfl
  · split
    · exact (placeReply_frame _ _).pending
    · split
      · split
        · exact pending_takeAnswer s _ _ _
        · exact (placeReply_frame _ _).pending.trans (pending_takeCommand s _ _)
      · exact (placeReply_frame _ _).pending

theorem pending_takeFrames (fuel : Nat) : (takeFrames fuel s).pending = s.pending := by
  induction fuel generalizing s with
  | zero => rfl
  | succ fuel ih =>
    unfold takeFrames
    split
    · rfl
    · split
      · exact (ih _).trans (pending_takeFrame _ _)
      · rfl

theorem pending_arrive (body : Body) : (s.arrive body).pending = s.pending := by
  unfold State.arrive
  dsimp only
  split
  · split <;> rfl
  · refine (recomputeLines_frame _).pending.trans ?_
    split <;> rfl

theorem pending_receive (body : Body) : (s.receive body).pending = s.pending :=
  (pending_takeFrames _ _).trans (pending_arrive s body)

theorem pending_completeFrame (got check : List Byte) : (s.completeFrame got check).pending = s.pending := by
  unfold State.completeFrame
  split
  · exact pending_receive _ got
  · rfl

theorem pending_byteReceived (b : Byte) (stopBit : Bool) : (byteReceived b stopBit s).pending = s.pending := by
  unfold byteReceived
  split
  · split <;> rfl
  · split <;> rfl
  · split
    · dsimp only
      split <;> rfl
    · rfl
  · split
    · split <;> rfl
    · rfl
  · split <;> rfl
  · split
    · exact pending_completeFrame s _ _
    · rfl

theorem pending_frameLeftLine : (frameLeftLine s).pending = s.pending := by
  unfold frameLeftLine
  split
  · rfl
  · refine ((pending_takeFrames _ _).trans (arbitrateTx_frame _).pending).trans ?_
    split <;> rfl

end Queue

/-! ### Every command -/

/-- No command faults and none is refused (log entry 28). -/
theorem exec_completes (i : Instr) (s : State) : ∃ t, exec i s = .next t := by
  cases i <;> exact ⟨_, rfl⟩

/-- A command leaves the queue as it is (log entry 23): a reset carries it over, every message goes through `State.receive`, and
the other events stay in their frames. -/
theorem exec_pending (i : Instr) {s t : State} (hx : exec i s = .next t) : t.pending = s.pending := by
  cases i <;> obtain rfl := Host.Outcome.next.inj hx
  case powerOn => rfl
  case resetPin => rfl
  case beamRawChange => rfl
  case beamFilterExpiry => exact (beamFilterExpiry_frame _ _ s).pending
  case stuckTimerExpiry => exact (stuckTimerExpiry_frame _ _ s).pending
  case keyRawChange => exact pending_keyRawChange s _
  case keyFilterExpiry => exact pending_keyFilterExpiry s
  case presenceTimerExpiry => exact (presenceTimerExpiry_frame _ s).pending
  case settleTimerExpiry => exact (settleTimerExpiry_frame _ s).pending
  case fieldSettleExpiry => exact (fieldSettleExpiry_frame s).pending
  case slotReport => exact (slotReport_frame _ s).pending
  case holdTimerExpiry => exact pending_holdTimerExpiry s
  case roundTimerExpiry => exact pending_roundTimerExpiry s
  case fieldFault => exact pending_fieldFault s
  case fieldOffAck => exact (fieldOffAck_frame s).pending
  case backgroundTimerExpiry => exact pending_backgroundTimerExpiry s
  case retryTimerExpiry => exact pending_retryTimerExpiry s _
  case readMerge => exact (readMerge_frame s).pending
  case ageExpiry => exact (expireAge_frame s _).pending
  case loanLifeEnd => rfl
  case slotTimerExpiry => exact (slotTimerExpiry_frame _ s).pending
  case alarmTimerExpiry => exact pending_alarmTimerExpiry s _
  case pulseTimerExpiry => exact pending_pulseTimerExpiry s _
  case testTimerExpiry => exact pending_testTimerExpiry s _
  case byteReceived => exact pending_byteReceived s _ _
  case gapTimerExpiry => exact pending_gapTimerExpiry s
  case silenceTimerExpiry => exact pending_silenceTimerExpiry s
  case frameLeftLine => exact pending_frameLeftLine s
  all_goals exact pending_receive s _

/-- Settles O3: a command completes, and wherever it ends the queue is the one it began with. -/
theorem everyCommandCompletes : Obligations.EveryCommandCompletes := by
  intro c s
  obtain ⟨t, ht⟩ := exec_completes c s
  exact ⟨t, ht, exec_pending c ht⟩

/-! ### A step with a command waiting -/

theorem step_of_queue {s : State} {c : Instr} {rest : List Instr} (hqueue : s.pending = c :: rest) :
    step s = exec c { s with pending := rest } := by
  simp only [step, hqueue]

/-- Settles O1: with a command waiting, neither a due expiry nor gate time has its turn. -/
theorem stepRunsFrontCommand : Obligations.StepRunsFrontCommand :=
  fun _ _ _ hqueue => step_of_queue hqueue

end Sys2Proof.Machine
end

section
/-! SUPPORT. The state after power-on and the laws that the steps keep. -/

namespace Sys2Proof.Machine

/-- No counter is above its maximum when all are cleared (R51, R64, R187). -/
theorem reset_counterLaw : State.reset.counterLaw := by
  refine ⟨fun a => ?_, ?_, fun k => ?_⟩
  · fin_cases a <;> decide
  · decide
  · fin_cases k <;> decide

/-- With no record in the table every lane in service has a tracker that agrees with that (R27). -/
theorem reset_passageLaw : State.reset.passageLaw := by
  refine ⟨Nat.zero_le _, List.nodup_nil, Nat.le_refl 1, by decide, List.nodup_nil, fun p hp => ?_, fun k => ?_⟩
  · cases hp
  · fin_cases k <;> exact ⟨rfl, rfl⟩

/-- Settles O60: the laws of radio and lines as their own steps start from them, the others with their tables empty. -/
theorem resetMeetsLaws : Obligations.ResetMeetsLaws := by
  have hquery : State.reset.queryLaw :=
    queryLaw_of_askLaw (askLaw_of_empty rfl (fun j => by fin_cases j <;> rfl) rfl)
  have hradio : State.reset.RadioLaw := (reset_radioLaw (p := {}) (by decide +kernel)).of_radio_eq rfl
  refine ⟨hradio.params, hradio.antennas, hradio.field, hradio.frame, reset_lineLaw, reset_passageLaw,
    ⟨Nat.zero_le _, .nil, fun e he => ?_⟩, ⟨Nat.zero_le _, List.nodup_nil⟩, reset_counterLaw, hquery,
    linkLaw_of_fresh rfl rfl rfl rfl rfl rfl rfl (fun _ => rfl) rfl rfl⟩
  cases he

end Sys2Proof.Machine
end

section
/-! SUPPORT. The passage table between the parts of an event (01, section 1.2): each record sound, the OPEN records standing as
the lanes' trackers need them, and at most one record whose judging is under way. -/

namespace Sys2Proof.Machine

/-! ### One record -/

/-- A record but for what it waits for: number, persons, items and the fields that are present in its state (R12, R18, R96). -/
structure Passage.Sound (p : Passage) : Prop where
  number : Within 1 65535 p.number
  persons : p.persons ≤ Config.maxPersons
  items : p.items.length ≤ Config.maxItems
  direction : p.phase = .open_ ↔ p.direction = none
  closed : p.phase = .open_ ↔ p.closed = none
  settle : p.phase ≠ .settling → p.settle = none
  presence : p.presence.isSome = true ↔ p.phase = .open_ ∧ p.flags.synthetic = true
  synthetic : p.flags.synthetic = true ↔ p.firstBeam = none
  idle : p.phase ≠ .judging → p.items = [] ∧ p.judging = none
  tally : ∀ g ∈ p.judging, g.undecided = p.items.countP fun it => it.ruling.isNone

/-- A record that waits for what will move it on: its settle timer, or an item without verdict (R21, R121). -/
structure Passage.Awaiting (p : Passage) : Prop where
  settling : p.phase = .settling → p.settle.isSome = true
  judging : p.phase = .judging → ∃ g ∈ p.judging, 0 < g.undecided

theorem Passage.lawful_iff (p : Passage) : p.lawful ↔ p.Sound ∧ p.Awaiting := by
  constructor
  · rintro ⟨hlow, hhigh, hpersons, hitems, hdirection, hclosed, hsettle, hpresence, hsynthetic, hidle, hjudging⟩
    refine ⟨⟨⟨hlow, hhigh⟩, hpersons, hitems, hdirection, hclosed, fun h => ?_, hpresence, hsynthetic, hidle,
      fun g hg => ?_⟩, hsettle.mp, fun h => ?_⟩
    · simpa using mt hsettle.mpr h
    · by_cases h : p.phase = .judging
      · have hcount := (hjudging h).2
        rw [Option.mem_def.mp hg] at hcount
        exact Option.some.inj hcount
      · rw [(hidle h).2] at hg
        cases hg
    · obtain ⟨hpos, hcount⟩ := hjudging h
      obtain ⟨g, hg, hcount⟩ := Option.map_eq_some_iff.mp hcount
      exact ⟨g, hg, hcount ▸ hpos⟩
  · rintro ⟨hs, hw⟩
    refine ⟨hs.number.1, hs.number.2, hs.persons, hs.items, hs.direction, hs.closed, ⟨hw.settling, fun h => ?_⟩, hs.presence,
      hs.synthetic, hs.idle, fun h => ?_⟩
    · by_contra hphase
      rw [hs.settle hphase] at h
      cases h
    · obtain ⟨g, hg, hpos⟩ := hw.judging h
      have hcount := hs.tally g hg
      exact ⟨hcount ▸ hpos, by rw [Option.mem_def.mp hg, Option.map_some, hcount]⟩

/-- Where a record stands on its way: its number, its state, and whether it is being judged. -/
def Passage.stage (p : Passage) : Nat × Phase × Bool := (p.number, p.phase, p.judging.isSome)

/-- An OPEN record as the lanes' trackers see it. -/
structure Standing where
  number : Nat
  lane : Lane
  first : Option Beam

/-- A record as the lanes' trackers see it, while it is OPEN. -/
def Passage.standing? (p : Passage) : Option Standing :=
  if p.phase = .open_ then some ⟨p.number, p.lane, p.firstBeam⟩ else none

/-! ### The table -/

/-- The OPEN records as the lanes' trackers see them. -/
def State.standing (s : State) : List Standing := s.passages.filterMap Passage.standing?

/-- The passage table is in order: every record sound and, but for the one at stage `loose`, waiting for what will move it on;
the OPEN records are those of `st`. -/
structure State.Orderly (s : State) (loose : Option (Nat × Phase × Bool)) (st : List Standing) : Prop where
  room : s.passages.length ≤ Config.maxPassages
  distinct : s.numbers.Nodup
  next : Within 1 65535 s.nextPassage
  sound : ∀ p ∈ s.passages, p.Sound
  awaiting : ∀ p ∈ s.passages, p.Awaiting ∨ loose = some p.stage
  standing : s.standing = st

section Orderly
variable {s t : State} {loose loose' : Option (Nat × Phase × Bool)} {st : List Standing}

/-- The order of the table depends on the table and the number to be given next. -/
theorem State.Orderly.of_table (hs : s.Orderly loose st) (hp : t.passages = s.passages) (hn : t.nextPassage = s.nextPassage) :
    t.Orderly loose st := by
  refine ⟨hp ▸ hs.room, ?_, hn ▸ hs.next, hp ▸ hs.sound, hp ▸ hs.awaiting, ?_⟩
  · rw [State.numbers, hp]
    exact hs.distinct
  · rw [State.standing, hp]
    exact hs.standing

theorem State.Orderly.of_send (hs : s.Orderly loose st) (h : SendFrame s t) : t.Orderly loose st :=
  hs.of_table h.passages h.nextPassage

/-- A record in order may be told apart from the others. -/
theorem State.Orderly.loosen (hs : s.Orderly none st) (x : Nat × Phase × Bool) : s.Orderly (some x) st :=
  { hs with awaiting := fun p hp => (hs.awaiting p hp).imp_right nofun }

theorem State.Orderly.table (hs : s.Orderly loose st) : s.Table := by
  refine ⟨hs.distinct, fun v hv => ?_⟩
  obtain ⟨p, hp, rfl⟩ := List.mem_map.mp hv
  have hsound := hs.sound p hp
  refine ⟨fun h => ?_, fun u hu => ?_⟩
  · obtain ⟨hitems, hnone⟩ := hsound.idle h
    exact ⟨hitems, by simp [Passage.view, hnone]⟩
  · obtain ⟨g, hg, rfl⟩ := Option.map_eq_some_iff.mp hu
    exact hsound.tally g hg

/-- A change of one record keeps the order when that record stays sound. -/
theorem State.Orderly.modRecord (hs : s.Orderly loose st) {n : Nat} {f : Passage → Passage}
    (hnumber : ∀ p, (f p).number = p.number)
    (hrecord : ∀ p ∈ s.passages, p.number = n → (f p).Sound ∧ ((f p).Awaiting ∨ loose' = some (f p).stage))
    (hothers : ∀ x, loose = some x → x.1 = n ∨ loose' = loose) :
    (s.modPassage n f).Orderly loose' (s.modPassage n f).standing := by
  refine ⟨by simpa [State.modPassage] using hs.room, (numbers_modPassage s n hnumber).symm ▸ hs.distinct, hs.next, ?_, ?_, rfl⟩
  · intro q hq
    obtain ⟨p, hp, rfl⟩ := List.mem_map.mp hq
    split
    next hn => exact (hrecord p hp (beq_iff_eq.mp hn)).1
    next => exact hs.sound p hp
  · intro q hq
    obtain ⟨p, hp, rfl⟩ := List.mem_map.mp hq
    split
    next hn => exact (hrecord p hp (beq_iff_eq.mp hn)).2
    next hn =>
      refine (hs.awaiting p hp).imp_right fun h => ?_
      exact ((hothers _ h).resolve_left fun heq => hn (beq_iff_eq.mpr heq)).trans h

/-- And as the trackers see it, when they see that record as before. -/
theorem State.Orderly.modPassage (hs : s.Orderly loose st) {n : Nat} {f : Passage → Passage}
    (hnumber : ∀ p, (f p).number = p.number)
    (hrecord : ∀ p ∈ s.passages, p.number = n → (f p).Sound ∧ (f p).standing? = p.standing? ∧
      ((f p).Awaiting ∨ loose' = some (f p).stage))
    (hothers : ∀ x, loose = some x → x.1 = n ∨ loose' = loose) :
    (s.modPassage n f).Orderly loose' st := by
  have hsame : (s.modPassage n f).standing = st := by
    rw [← hs.standing]
    simp only [State.standing, State.modPassage, List.filterMap_map]
    refine List.filterMap_congr fun p hp => ?_
    simp only [Function.comp_apply]
    split
    next hn => exact (hrecord p hp (beq_iff_eq.mp hn)).2.1
    next => rfl
  have hmod := hs.modRecord hnumber (loose' := loose')
    (fun p hp hn => ⟨(hrecord p hp hn).1, (hrecord p hp hn).2.2⟩) hothers
  rwa [hsame] at hmod

/-- A change of one record that keeps its stage and moves it no further. -/
theorem State.Orderly.touch (hs : s.Orderly loose st) {n : Nat} {f : Passage → Passage}
    (hnumber : ∀ p, (f p).number = p.number)
    (hrecord : ∀ p ∈ s.passages, p.number = n → p.Sound → (f p).Sound ∧ (f p).standing? = p.standing? ∧
      (f p).stage = p.stage ∧ (p.Awaiting → (f p).Awaiting)) :
    (s.modPassage n f).Orderly loose st := by
  refine hs.modPassage hnumber (fun p hp hn => ?_) fun _ _ => .inr rfl
  obtain ⟨hsound, hstanding, hstage, hawaits⟩ := hrecord p hp hn (hs.sound p hp)
  rw [hstage]
  exact ⟨hsound, hstanding, (hs.awaiting p hp).imp_left hawaits⟩

theorem standing_freePassage_of_not_open {n : Nat} (h : ∀ p ∈ s.passages, p.number = n → p.phase ≠ .open_) :
    (s.freePassage n).standing = s.standing := by
  simp only [State.standing, State.freePassage, List.filterMap_filter]
  refine List.filterMap_congr fun p hp => ?_
  by_cases hn : p.number = n
  · simp [Passage.standing?, h p hp hn, hn]
  · simp [hn]

/-- A record freed that was not OPEN. -/
theorem State.Orderly.freePassage (hs : s.Orderly loose st) {n : Nat}
    (h : ∀ p ∈ s.passages, p.number = n → p.phase ≠ .open_) (hloose : ∀ x, loose = some x → x.1 = n) :
    (s.freePassage n).Orderly none st := by
  refine ⟨(List.length_filter_le _ _).trans hs.room, hs.distinct.sublist (numbers_freePassage s n), hs.next, ?_, ?_,
    (standing_freePassage_of_not_open h).trans hs.standing⟩
  · exact fun p hp => hs.sound p (List.mem_of_mem_filter hp)
  · intro p hp
    obtain ⟨hp, hn⟩ := List.mem_filter.mp hp
    refine .inl ((hs.awaiting p hp).resolve_right fun hx => ?_)
    exact (bne_iff_ne.mp hn) (hloose _ hx)

end Orderly

/-! ### Items changed, verdicts given -/

section Judged
variable {s : State} {loose : Option (Nat × Phase × Bool)} {st : List Standing}

/-- A change of the slot of an item. -/
theorem State.Orderly.modItem (hs : s.Orderly loose st) (r : ItemRef) {f : Item → Item}
    (hf : ∀ it, (f it).ruling = it.ruling) : (s.modItem r f).Orderly loose st := by
  rw [modItem_eq_modPassage]
  refine hs.touch (fun _ => rfl) fun p _ _ hp => ⟨?_, rfl, rfl, fun hw => ⟨hw.settling, hw.judging⟩⟩
  refine { hp with items := ?_, idle := fun h => ?_, tally := fun g hg => ?_ }
  · exact (List.length_modify _ _ _).trans_le hp.items
  · obtain ⟨hitems, hnone⟩ := hp.idle h
    exact ⟨by simp [Passage.modItem, hitems], hnone⟩
  · refine (hp.tally g hg).trans (countP_modify_of_same (fun it => ?_) _ _).symm
    rw [hf]

/-- An alarm of a passage marks its record at most, and moves no record on (R118). -/
theorem State.Orderly.passageAlarm (hs : s.Orderly loose st) (n : Nat) (reason : Reason) (item : Option ItemNo) :
    (s.passageAlarm n reason item).Orderly loose st := by
  have hfirst (p : Passage) : (s.firstAlarm p reason item).Orderly loose st := by
    have hmark : (s.modPassage p.number fun q =>
        { q with judging := q.judging.map fun j => { j with mark := true } }).Orderly loose st := by
      refine hs.touch (fun _ => rfl) fun q _ _ hq => ⟨?_, rfl, ?_, fun hw => ⟨hw.settling, fun h => ?_⟩⟩
      · refine { hq with idle := fun h => ?_, tally := fun g hg => ?_ }
        · obtain ⟨hitems, hnone⟩ := hq.idle h
          exact ⟨hitems, by simp [hnone]⟩
        · obtain ⟨g', hg', rfl⟩ := Option.map_eq_some_iff.mp hg
          exact hq.tally g' hg'
      · simp [Passage.stage]
      · obtain ⟨g, hg, hpos⟩ := hw.judging h
        exact ⟨{ g with mark := true }, by simp [Option.mem_def.mp hg], hpos⟩
    unfold State.firstAlarm
    dsimp only
    split
    · exact hmark.of_table rfl rfl
    · exact (hmark.of_table (t := (s.modPassage p.number _).modCounts p.lane _) rfl rfl).of_send (queueNotice_frame _ _)
  unfold State.passageAlarm
  split
  · exact hs
  next p _ =>
    dsimp only
    split <;> split
    · exact hs
    · exact hfirst p
    · exact hs.of_table rfl rfl
    · exact (hfirst p).of_table rfl rfl

/-- A verdict in the passage whose judging is under way (R117). -/
theorem State.Orderly.giveVerdict {n : Nat} (hs : s.Orderly (some (n, .judging, true)) st) {r : ItemRef} (hr : r.passage = n)
    (v : Verdict) (reason : Reason) : (s.giveVerdict r v reason).Orderly (some (n, .judging, true)) st := by
  subst hr
  cases hit : s.item? r with
  | none => rwa [giveVerdict_of_no_item hit]
  | some it =>
    by_cases hruling : it.ruling = none
    · obtain ⟨q, hq, hphase, hitem⟩ := hs.table.judging_of_item hit
      have hdecided : (s.modPassage r.passage fun p => p.decide r.position ⟨v, reason⟩).Orderly
          (some (r.passage, .judging, true)) st := by
        have hrecord (p : Passage) (hp : p ∈ s.passages) (hn : p.number = r.passage) : p = q :=
          Option.some.inj ((passage?_of_mem hs.distinct hp).symm.trans (hn ▸ hq))
        refine hs.modPassage (fun p => p.decide_number _ _) (fun p hp hn => ?_) fun _ _ => .inr rfl
        obtain rfl := hrecord p hp hn
        have hsound := hs.sound p hp
        refine ⟨?_, rfl, ?_⟩
        · refine { hsound with items := ?_, idle := fun h => absurd hphase h, tally := fun g hg => ?_ }
          · exact (List.length_modify _ _ _).trans_le hsound.items
          · obtain ⟨g', hg', rfl⟩ := Option.map_eq_some_iff.mp hg
            have hlost := countP_modify_of_lost (p := fun it : Item => it.ruling.isNone)
              (f := fun it => { it with ruling := some ⟨v, reason⟩ }) hitem (by simp [hruling]) rfl
            exact (congrArg (· - 1) (hsound.tally g' hg')).trans hlost.symm
        · have hjudged : p.judging.isSome = true := by
            rcases hs.awaiting p hp with hw | hl
            · obtain ⟨g, hg, -⟩ := hw.judging hphase
              exact Option.isSome_of_mem hg
            · exact (congrArg (·.2.2) (Option.some.inj hl)).symm
          refine .inr (congrArg some ?_)
          simp only [Passage.stage, Passage.decide, Passage.countOff, Passage.modItem, Option.isSome_map, hn, hphase, hjudged]
      rw [giveVerdict_of_unruled hit hruling]
      dsimp only
      split
      · exact hdecided.passageAlarm _ _ _
      · exact hdecided
    · rwa [giveVerdict_of_ruled hit hruling]

/-- A passage judged to its end is reported and freed, and no record is left loose (R22, R121). -/
theorem State.Orderly.completeIfDone {n : Nat} (hs : s.Orderly (some (n, .judging, true)) st) :
    (s.completeIfDone n).Orderly none st := by
  unfold State.completeIfDone
  split
  next hnone =>
    refine { hs with awaiting := fun p hp => .inl ((hs.awaiting p hp).resolve_right fun h => ?_) }
    have hn : n = p.number := congrArg Prod.fst (Option.some.inj h)
    rw [hn, passage?_of_mem hs.distinct hp] at hnone
    cases hnone
  next p hp =>
    obtain ⟨hmem, hnumber⟩ := passage?_mem hp
    have honly (q : Passage) (hq : q ∈ s.passages) (hn : q.number = n) : q = p :=
      Option.some.inj ((passage?_of_mem hs.distinct hq).symm.trans (hn ▸ hp))
    split
    next hdone =>
      refine (hs.of_send (queueReport_frame s _)).freePassage (fun q hq hn => ?_) fun x hx => ?_
      · rw [honly q ((queueReport_frame s _).passages ▸ hq) hn, hdone.1]
        exact nofun
      · rw [← Option.some.inj hx]
    next hnot =>
      refine { hs with awaiting := fun q hq => .inl ?_ }
      rcases hs.awaiting q hq with hw | hl
      · exact hw
      · obtain ⟨hn, hphase, hjudged⟩ : n = q.number ∧ Phase.judging = q.phase ∧ true = q.judging.isSome := by
          simpa [Passage.stage] using hl
        obtain rfl := honly q hq hn.symm
        obtain ⟨g, hg⟩ := Option.isSome_iff_exists.mp hjudged.symm
        refine ⟨fun h => absurd (hphase.trans h) nofun, fun _ => ⟨g, hg, Nat.pos_of_ne_zero fun hzero => hnot ⟨hphase.symm, ?_⟩⟩⟩
        rw [hg, Option.map_some, hzero]

end Judged

end Sys2Proof.Machine
end

section
/-! SUPPORT. The operations of the check unit keep the passage table in order (06, 07). -/

namespace Sys2Proof.Machine

variable {s : State} {loose : Option (Nat × Phase × Bool)} {st : List Standing}

/-! ### Slots (R124, R126, R132) -/

theorem State.Orderly.freeSlot (hs : s.Orderly loose st) (j : SlotNo) : (s.freeSlot j).Orderly loose st := by
  unfold State.freeSlot
  split
  · exact (hs.of_table (t := s.setSlot j none) rfl rfl).modItem _ fun _ => rfl
  · exact hs

theorem State.Orderly.takeSlot (hs : s.Orderly loose st) (r : ItemRef) (j : SlotNo) : (s.takeSlot r j).Orderly loose st := by
  cases hit : s.item? r with
  | none => rwa [takeSlot_of_no_item hit]
  | some it =>
    obtain ⟨p, hp, -⟩ := passage?_of_item? hit
    rw [takeSlot_of_item hp hit]
    have hput := hs.of_table (t := { s.setSlot j (some (s.questionFor r j p it)) with nextOrder := s.nextOrder + 1 }) rfl rfl
    exact (hput.modItem r (f := fun i => { i with slot := some j }) fun _ => rfl).of_send (arbitrateTx_frame _)

theorem State.Orderly.askAbout (hs : s.Orderly loose st) (r : ItemRef) : (s.askAbout r).Orderly loose st := by
  unfold State.askAbout
  split
  · exact hs.takeSlot r _
  · exact hs.of_table rfl rfl

theorem State.Orderly.handOn (fuel : Nat) (hs : s.Orderly loose st) : (State.handOn fuel s).Orderly loose st := by
  induction fuel generalizing s with
  | zero => exact hs
  | succ fuel ih =>
    unfold State.handOn
    split
    next r rest j _ _ =>
      split
      · exact ih ((hs.of_table (t := { s with waiting := rest }) rfl rfl).takeSlot r j)
      · exact hs
    next => exact hs

theorem State.Orderly.handSlotsOn (hs : s.Orderly loose st) : s.handSlotsOn.Orderly loose st := hs.handOn 4

/-! ### Questions that end (R128, R131, R133) -/

/-- A verdict for an item, and the completion of its passage that it may bring (R117, R121). -/
theorem State.Orderly.decided (hs : s.Orderly none st) (r : ItemRef) (v : Verdict) (reason : Reason) :
    ((s.giveVerdict r v reason).completeIfDone r.passage).Orderly none st :=
  ((hs.loosen _).giveVerdict rfl v reason).completeIfDone

theorem State.Orderly.resolveSlot (hs : s.Orderly none st) (j : SlotNo) (q : Question) (v : Verdict) (reason : Reason) :
    (s.resolveSlot j q v reason).Orderly none st :=
  ((hs.freeSlot j).decided q.ref v reason).handSlotsOn

theorem State.Orderly.resolveSlots (l : List (SlotNo × Question)) (hs : s.Orderly none st) :
    (resolveSlots l s).Orderly none st := by
  induction l generalizing s with
  | nil => exact hs
  | cons x l ih =>
    rw [Machine.resolveSlots, giveFallback_eq]
    exact ih ((hs.freeSlot x.1).decided x.2.ref _ _)

theorem State.Orderly.resolveWaiting (l : List ItemRef) (hs : s.Orderly none st) : (resolveWaiting l s).Orderly none st := by
  induction l generalizing s with
  | nil => exact hs
  | cons r l ih =>
    rw [Machine.resolveWaiting, giveFallback_eq]
    exact ih ((hs.of_table (t := { s with waiting := l }) rfl rfl).decided r _ _)

theorem State.Orderly.resolveStandalone (hs : s.Orderly none st) : s.resolveStandalone.Orderly none st :=
  (hs.resolveSlots _).resolveWaiting _

/-! ### Judging (R111 to R115) -/

theorem State.Orderly.judgeItem {n : Nat} (hs : s.Orderly (some (n, .judging, true)) st) (d : Direction) {r : ItemRef}
    (hr : r.passage = n) : (s.judgeItem d r).Orderly (some (n, .judging, true)) st := by
  unfold State.judgeItem
  split
  · exact hs
  · split
    · split
      · exact hs.giveVerdict hr _ _
      · exact hs.askAbout r
    · exact hs.giveVerdict hr _ _

theorem State.Orderly.judgeItems {n : Nat} (d : Direction) (l : List Nat) (hs : s.Orderly (some (n, .judging, true)) st) :
    (judgeItems n d l s).Orderly (some (n, .judging, true)) st := by
  induction l generalizing s with
  | nil => exact hs
  | cons i l ih => exact ih (hs.judgeItem d rfl)

/-- The judging event of a passage attributed, none of whose items has a verdict yet (R111). -/
theorem State.Orderly.judge {p : Passage} (hs : s.Orderly (some (p.number, .judging, false)) st)
    (hp : s.passage? p.number = some p) (hphase : p.phase = .judging) (hfresh : ∀ it ∈ p.items, it.ruling = none) :
    (s.judge p.number).Orderly (some (p.number, .judging, true)) st := by
  have hsetUp : (s.modPassage p.number s.setUp).Orderly (some (p.number, .judging, true)) st := by
    refine hs.modPassage (fun _ => rfl) (fun q hq hn => ?_) fun x hx => .inl (by rw [← Option.some.inj hx])
    obtain rfl : q = p := Option.some.inj ((passage?_of_mem hs.distinct hq).symm.trans (hn ▸ hp))
    have hsound := hs.sound q hq
    refine ⟨{ hsound with items := ?_, idle := fun h => absurd hphase h, tally := fun g hg => ?_ }, rfl, .inr ?_⟩
    · exact (List.length_map _).trans_le hsound.items
    · obtain rfl : (⟨false, q.items.length⟩ : Judging) = g := Option.some.inj hg
      change q.items.length = (q.items.map fun it => { it with classFields := some (s.classOf it) }).countP _
      rw [List.countP_map]
      exact (List.countP_eq_length.mpr fun it hit => by simp [hfresh it hit]).symm
    · simp [Passage.stage, State.setUp, hphase]
  rw [judge_of_passage hp]
  dsimp only
  split
  · exact (hsetUp.passageAlarm _ _ _).judgeItems _ _
  · exact hsetUp.judgeItems _ _

/-! ### Attribution (R86 to R97) -/

/-- No more item records than there were and claims that were kept (R95). -/
theorem claimAll_items_length (n : Nat) (d : Direction) (l : List Winner) (s : State) (items : List Item) :
    (claimAll n d l s items).2.length ≤ items.length + l.length := by
  induction l generalizing s items with
  | nil => exact Nat.le_refl _
  | cons w l ih =>
    unfold claimAll
    rw [List.length_cons]
    split
    · refine (ih _ _).trans ?_
      rw [List.length_append, List.length_singleton]
      omega
    · exact (ih _ _).trans (by omega)

/-- A record attributed has no more items than its item list holds (R94). -/
theorem attribute_items_length {n : Nat} {p q : Passage} (hp : s.passage? n = some p)
    (hq : (s.attribute n).passage? n = some q) : q.items.length ≤ Config.maxItems := by
  unfold State.attribute at hq
  rw [hp] at hq
  dsimp only at hq
  generalize hu : s.modDevice _ = u at hq
  have hlength := claimAll_items_length n (p.direction.getD .unknown)
    ((s.winners p (p.direction.getD .unknown)).take Config.maxItems) u []
  have hsightings := claimAll_sightings n (p.direction.getD .unknown)
    ((s.winners p (p.direction.getD .unknown)).take Config.maxItems) u []
  generalize claimAll n _ _ u [] = run at hq hlength hsightings
  have hfound : run.1.passage? n = some p := by
    rw [hsightings, ← hu]
    exact hp
  rw [passage?_modPassage_same hfound (by exact fun _ => rfl)] at hq
  obtain rfl := Option.some.inj hq
  refine hlength.trans ?_
  rw [List.length_nil, List.length_take]
  omega

/-- Attribution of a SETTLING passage: it becomes JUDGING with its items fresh, and waits for its judging (R86, R96). -/
theorem State.Orderly.attributed {p : Passage} (hs : s.Orderly loose st) (hp : s.passage? p.number = some p)
    (hphase : p.phase = .settling) (hloose : ∀ x, loose = some x → x.1 = p.number) :
    (s.attribute p.number).Orderly (some (p.number, .judging, false)) st ∧
      ∃ q, q.number = p.number ∧ (s.attribute p.number).passage? p.number = some q ∧ q.phase = .judging ∧
        ∀ it ∈ q.items, it.ruling = none := by
  obtain ⟨items, overflow, sightings, device, hfresh, heq⟩ := attribute_spec hp
  have hbase : ({ s with sightings := sightings, device := device } : State).Orderly loose st := hs.of_table rfl rfl
  have hfound : (s.attribute p.number).passage? p.number = some (p.listed items overflow) := by
    rw [heq]
    exact passage?_modPassage_same (s := { s with sightings := sightings, device := device }) hp fun _ => rfl
  have hitems : items.length ≤ Config.maxItems := attribute_items_length hp hfound
  refine ⟨?_, p.listed items overflow, rfl, hfound, rfl, fun it hit => (hfresh it hit).1⟩
  rw [heq]
  refine hbase.modPassage (fun _ => rfl) (fun q hq hn => ?_) fun x hx => .inl (hloose x hx)
  obtain rfl : q = p := Option.some.inj ((passage?_of_mem hs.distinct hq).symm.trans (hn ▸ hp))
  have hsound := hs.sound q hq
  have hopen : q.phase ≠ .open_ := by rw [hphase]; exact nofun
  obtain ⟨-, hnone⟩ := hsound.idle (by rw [hphase]; exact nofun)
  refine ⟨?_, ?_, .inr ?_⟩
  · exact {
      number := hsound.number
      persons := hsound.persons
      items := hitems
      direction := ⟨nofun, fun h => absurd (hsound.direction.mpr h) hopen⟩
      closed := ⟨nofun, fun h => absurd (hsound.closed.mpr h) hopen⟩
      settle := fun _ => rfl
      presence := ⟨fun h => absurd (hsound.presence.mp h).1 hopen, fun h => absurd h.1 nofun⟩
      synthetic := hsound.synthetic
      idle := fun h => absurd rfl h
      tally := fun g hg => absurd (hnone.symm.trans hg) nofun }
  · simp [Passage.standing?, Passage.listed, hphase]
  · simp [Passage.stage, Passage.listed, hnone]

/-- A SETTLING passage attributed and judged (R21, R97, R111). -/
theorem State.Orderly.attributeJudge {p : Passage} (hs : s.Orderly loose st) (hp : s.passage? p.number = some p)
    (hphase : p.phase = .settling) (hloose : ∀ x, loose = some x → x.1 = p.number) :
    ((s.attribute p.number).judge p.number).Orderly (some (p.number, .judging, true)) st := by
  obtain ⟨hattributed, q, hn, hq, hjudging, hfresh⟩ := hs.attributed hp hphase hloose
  rw [← hn] at hattributed hq ⊢
  exact hattributed.judge hq hjudging hfresh

theorem State.Orderly.settleNow {p : Passage} (hs : s.Orderly loose st) (hp : s.passage? p.number = some p)
    (hphase : p.phase = .settling) (hloose : ∀ x, loose = some x → x.1 = p.number) :
    (s.settleNow p.number).Orderly none st :=
  (hs.attributeJudge hp hphase hloose).completeIfDone

/-! ### Forced completion (R23, R134) -/

theorem State.Orderly.forceItems {n : Nat} (l : List Nat) (hs : s.Orderly (some (n, .judging, true)) st) :
    (forceItems n l s).Orderly (some (n, .judging, true)) st := by
  induction l generalizing s with
  | nil => exact hs
  | cons i l ih =>
    rw [forceItems_cons]
    refine ih ?_
    unfold State.forceItem
    split
    · split
      · exact hs
      · rw [giveFallback_eq]
        split
        · exact (hs.freeSlot _).giveVerdict rfl _ _
        · exact hs.giveVerdict rfl _ _
    · exact hs

theorem State.Orderly.withdrawQuestions {n : Nat} (hs : s.Orderly (some (n, .judging, true)) st) :
    (s.withdrawQuestions n).Orderly (some (n, .judging, true)) st := by
  have hrest : ({ s with waiting := s.waiting.filter fun r => r.passage != n } : State).Orderly
      (some (n, .judging, true)) st := hs.of_table rfl rfl
  exact (hrest.forceItems _).handSlotsOn

theorem mem_standing {x : Standing} :
    x ∈ s.standing ↔ ∃ p ∈ s.passages, p.phase = .open_ ∧ x = ⟨p.number, p.lane, p.firstBeam⟩ := by
  simp only [State.standing, List.mem_filterMap, Passage.standing?]
  refine exists_congr fun p => and_congr_right fun _ => ?_
  by_cases h : p.phase = .open_ <;> simp [h, eq_comm]

/-- A record that was not OPEN is not OPEN while the OPEN records stand as they did. -/
theorem State.Orderly.not_open {t : State} (hs : s.Orderly loose st) {loose' : Option (Nat × Phase × Bool)}
    (ht : t.Orderly loose' st) {p : Passage} (hp : p ∈ s.passages) (hphase : p.phase ≠ .open_) :
    ∀ q ∈ t.passages, q.number = p.number → q.phase ≠ .open_ := fun q hq hn hopen => by
  have hmem : (⟨q.number, q.lane, q.firstBeam⟩ : Standing) ∈ s.standing :=
    hs.standing ▸ ht.standing ▸ mem_standing.mpr ⟨q, hq, hopen, rfl⟩
  obtain ⟨p', hp', hopen', heq⟩ := mem_standing.mp hmem
  have hnumber : p'.number = p.number := (congrArg Standing.number heq).symm.trans hn
  exact hphase (List.inj_on_of_nodup_map hs.distinct hp' hp hnumber ▸ hopen')

theorem not_mem_numbers_freePassage (s : State) (n : Nat) : n ∉ (s.freePassage n).numbers := by
  simp [State.numbers, State.freePassage]

/-- A record completed by force leaves the table, which is in order again (R23). -/
theorem State.Orderly.forceCompletion {p : Passage} (hs : s.Orderly none st) (hp : p ∈ s.passages)
    (hphase : p.phase ≠ .open_) :
    (s.forceCompletion p).Orderly none st ∧ p.number ∉ (s.forceCompletion p).numbers := by
  unfold State.forceCompletion
  dsimp only
  generalize hs1 : (if p.phase = .settling then (s.attribute p.number).judge p.number else s) = s1
  have h1 : s1.Orderly (some (p.number, .judging, true)) st ∧ s1.numbers = s.numbers := by
    subst hs1
    split
    next h =>
      exact ⟨hs.attributeJudge (passage?_of_mem hs.distinct hp) h nofun,
        (numbers_judge _ _).trans (attribute_numbering s _).1⟩
    next => exact ⟨hs.loosen _, rfl⟩
  obtain ⟨h1, hnumbers⟩ := h1
  have h2 := h1.withdrawQuestions
  have hflag : ((s1.withdrawQuestions p.number).modPassage p.number fun q =>
      { q with flags := { q.flags with forced := true } }).Orderly (some (p.number, .judging, true)) st :=
    h2.touch (fun _ => rfl) fun q _ _ hq => ⟨{ hq with }, rfl, rfl, fun hw => ⟨hw.settling, hw.judging⟩⟩
  have hnumbers' : ((s1.withdrawQuestions p.number).modPassage p.number fun q =>
      { q with flags := { q.flags with forced := true } }).numbers = s.numbers :=
    ((numbers_modPassage _ _ (by exact fun _ => rfl)).trans (numbers_withdrawQuestions _ _)).trans hnumbers
  generalize ht : State.modDevice _ _ = t
  have h4 : t.Orderly (some (p.number, .judging, true)) st := ht ▸ hflag.of_table rfl rfl
  have h4n : p.number ∈ t.numbers := by
    rw [← ht]
    exact hnumbers'.symm ▸ List.mem_map_of_mem hp
  split
  next q _ =>
    have hreport := h4.of_send (queueReport_frame t (reportBody q))
    exact ⟨hreport.freePassage (hs.not_open hreport hp hphase) fun x hx => by rw [← Option.some.inj hx],
      not_mem_numbers_freePassage _ _⟩
  next hnone =>
    obtain ⟨q, hq, hn⟩ := List.mem_map.mp h4n
    rw [← hn, passage?_of_mem h4.distinct hq] at hnone
    cases hnone

/-! ### Room for one more record (R23) -/

theorem standing_numbers_sublist (s : State) : (s.standing.map Standing.number).Sublist s.numbers := by
  unfold State.standing State.numbers
  induction s.passages with
  | nil => exact .slnil
  | cons p l ih =>
    by_cases h : p.phase = .open_
    · simpa [Passage.standing?, h] using ih.cons_cons p.number
    · simpa [Passage.standing?, h] using ih.cons p.number

/-- With at most one OPEN passage in a lane a full table holds a record that is not OPEN. -/
theorem exists_not_open (happart : (s.standing.map Standing.lane).Nodup) (hfull : 16 ≤ s.passages.length) :
    ∃ p ∈ s.passages, p.phase ≠ .open_ := by
  by_contra hall
  have hall : ∀ p ∈ s.passages, p.phase = .open_ := by simpa using hall
  have hlength : s.standing.length = s.passages.length := by
    have hsome : s.standing = s.passages.map fun p => ⟨p.number, p.lane, p.firstBeam⟩ := by
      rw [State.standing, ← List.filterMap_eq_map]
      exact List.filterMap_congr fun p hp => if_pos (hall p hp)
    rw [hsome, List.length_map]
  have hlanes : (s.standing.map Standing.lane).length ≤ 4 := List.Nodup.length_le_card happart
  rw [List.length_map] at hlanes
  omega

/-- The record forced is one that is not OPEN, and with such a record in the table there is one (R23). -/
theorem forcedChoice_spec (s : State) :
    (s.forcedChoice = none → ∀ p ∈ s.passages, p.phase = .open_) ∧
      ∀ p, s.forcedChoice = some p → p ∈ s.passages ∧ p.phase ≠ .open_ := by
  unfold State.forcedChoice
  cases hl : s.passages.filter fun p => p.phase != .open_ with
  | nil => exact ⟨fun _ p hp => by simpa using List.filter_eq_nil_iff.mp hl p hp, fun p hp => absurd hp.symm (Option.some_ne_none p)⟩
  | cons x xs =>
    refine ⟨fun hp => absurd hp (Option.some_ne_none _), fun p hp => ?_⟩
    have hmem : p ∈ x :: xs := by
      obtain rfl := Option.some.inj hp
      exact List.foldlRecOn (motive := fun b => b ∈ x :: xs) xs _ (List.mem_cons_self ..) fun b hb y hy => by
        split
        · exact List.mem_cons_of_mem _ hy
        · exact hb
    rw [← hl, List.mem_filter] at hmem
    exact ⟨hmem.1, bne_iff_ne.mp hmem.2⟩

/-- With at most one OPEN passage in a lane room is made for one more record (R23). -/
theorem State.Orderly.makeRoom (hs : s.Orderly none st) (happart : (st.map Standing.lane).Nodup) :
    s.makeRoom.Orderly none st ∧ s.makeRoom.passages.length < Config.maxPassages := by
  by_cases hroom : s.passages.length < Config.maxPassages
  · have hsame : s.makeRoom = s := if_pos hroom
    rw [hsame]
    exact ⟨hs, hroom⟩
  · obtain ⟨hnone, hsome⟩ := forcedChoice_spec s
    cases hp : s.forcedChoice with
    | none =>
      obtain ⟨p, hmem, hphase⟩ := exists_not_open (hs.standing.symm ▸ happart) (not_lt.mp hroom)
      exact absurd (hnone hp p hmem) hphase
    | some p =>
      have hforced : s.makeRoom = s.forceCompletion p := by
        unfold State.makeRoom
        rw [if_neg hroom, hp]
      obtain ⟨hmem, hphase⟩ := hsome p hp
      obtain ⟨horder, hgone⟩ := hs.forceCompletion hmem hphase
      have hsub := (makeRoom_numbering s).1
      rw [hforced] at hsub ⊢
      refine ⟨horder, lt_of_not_ge fun hle => hgone ?_⟩
      have heq : (s.forceCompletion p).numbers = s.numbers := hsub.eq_of_length_le (by
        have := hs.room
        simpa [State.numbers] using this.trans hle)
      rw [heq]
      exact List.mem_map_of_mem hmem

end Sys2Proof.Machine
end

section
/-! SUPPORT. Opening and closing of passages and the lanes' trackers keep the passage table in order and each tracker in
agreement with it (01, section 1.2). -/

namespace Sys2Proof.Machine

/-! ### Trackers and the OPEN records -/

/-- The first beam of the OPEN passage that a lane may have in each state of its tracker (01, section 1.2). -/
def trackerFits (t : Option Tracker) (first : Option (Option Beam)) : Prop :=
  match t with
  | none | some .clear | some .waitClear => first = none
  | some (.opening b) | some (.crossing b) | some (.leaving b _) => first = some (some b)
  | some .fault => ∀ b ∈ first, b = none

/-- The OPEN record of a lane. -/
def standingIn (st : List Standing) (k : Lane) : Option Standing := st.find? fun x => x.lane == k

/-- At most one OPEN passage in a lane; a lane has a tracker exactly while in service, and it agrees with the lane's OPEN
passage (R18, R24). -/
structure State.TrackedBy (s : State) (st : List Standing) : Prop where
  apart : (st.map Standing.lane).Nodup
  served : ∀ k : Lane, s.trackers[k].isSome = s.laneInService k
  fits : ∀ k : Lane, trackerFits s.trackers[k] ((standingIn st k).map Standing.first)

theorem openPassage?_standing (s : State) (k : Lane) :
    (s.openPassage? k).map (fun p => (⟨p.number, p.lane, p.firstBeam⟩ : Standing)) = standingIn s.standing k := by
  have hany (p : Passage) : p.standing?.any (fun x => x.lane == k) = (p.lane == k && p.phase == .open_) := by
    unfold Passage.standing?
    by_cases h : p.phase = .open_ <;> simp [h]
  unfold standingIn State.standing State.openPassage?
  simp only [List.find?_filterMap, hany]
  cases h : s.passages.find? fun p => p.lane == k && p.phase == .open_ with
  | none => rfl
  | some p =>
    have hp := List.find?_some h
    simp only [Bool.and_eq_true, beq_iff_eq] at hp
    rw [Option.map_some, Option.bind_some, Passage.standing?, if_pos hp.2]

theorem trackerAgrees_iff {p : Option Passage} (hp : ∀ q ∈ p, q.Sound) (t : Option Tracker) :
    trackerAgrees t p = true ↔ trackerFits t (p.map Passage.firstBeam) := by
  have hnone : p.isNone = true ↔ p.map Passage.firstBeam = none := by simp
  have hsynthetic : (p.all fun q => q.flags.synthetic) = true ↔ ∀ b ∈ p.map Passage.firstBeam, b = none := by
    cases p with
    | none => simp
    | some q => simpa using (hp q rfl).synthetic
  unfold trackerAgrees trackerFits
  split
  · exact hnone
  · exact hnone
  · exact hnone
  · exact beq_iff_eq
  · exact beq_iff_eq
  · exact beq_iff_eq
  · exact hsynthetic

/-- The law of the statements, as the order of the table and the agreement of the trackers. -/
theorem passageLaw_iff (s : State) : s.passageLaw ↔ s.Orderly none s.standing ∧ s.TrackedBy s.standing := by
  have hlanes : (s.passages.filter fun p => p.phase == .open_).map Passage.lane = s.standing.map Standing.lane := by
    unfold State.standing
    induction s.passages with
    | nil => rfl
    | cons p l ih => by_cases h : p.phase = .open_ <;> simp [Passage.standing?, h, ih]
  have hfirst (k : Lane) : (s.openPassage? k).map Passage.firstBeam = (standingIn s.standing k).map Standing.first := by
    rw [← openPassage?_standing, Option.map_map]
    rfl
  have hopen (hsound : ∀ p ∈ s.passages, p.Sound) (k : Lane) : ∀ q ∈ s.openPassage? k, q.Sound :=
    fun q hq => hsound q (openPassage?_mem hq).1
  constructor
  · rintro ⟨hroom, hdistinct, hlow, hhigh, happart, hlawful, htrackers⟩
    have hsound : ∀ p ∈ s.passages, p.Sound := fun p hp => ((p.lawful_iff).mp (hlawful p hp)).1
    refine ⟨⟨hroom, hdistinct, ⟨hlow, hhigh⟩, hsound, fun p hp => .inl ((p.lawful_iff).mp (hlawful p hp)).2, rfl⟩,
      hlanes ▸ happart, fun k => (htrackers k).1, fun k => ?_⟩
    rw [← hfirst]
    exact (trackerAgrees_iff (hopen hsound k) _).mp (htrackers k).2
  · rintro ⟨hs, ht⟩
    refine ⟨hs.room, hs.distinct, hs.next.1, hs.next.2, hlanes ▸ ht.apart, fun p hp => ?_, fun k => ⟨ht.served k, ?_⟩⟩
    · exact (p.lawful_iff).mpr ⟨hs.sound p hp, (hs.awaiting p hp).resolve_right nofun⟩
    · rw [trackerAgrees_iff (hopen hs.sound k), hfirst]
      exact ht.fits k

theorem passageLaw_of {s : State} {st : List Standing} (hs : s.Orderly none st) (ht : s.TrackedBy st) : s.passageLaw := by
  rw [passageLaw_iff, hs.standing]
  exact ⟨hs, ht⟩

section Opening
variable {s : State} {st : List Standing}

/-! ### Marks (R20) -/

theorem Passage.mark_cases (p : Passage) (c : LaneCondition) : ∃ one blind,
    p.mark c = { p with flags := { p.flags with oneAntenna := one, blind := blind } } := by
  unfold Passage.mark
  split
  · cases c
    · exact ⟨_, _, rfl⟩
    · exact ⟨_, _, rfl⟩
    · exact ⟨_, _, rfl⟩
  · exact ⟨_, _, rfl⟩

theorem Passage.Sound.mark {p : Passage} (hp : p.Sound) (c : LaneCondition) : (p.mark c).Sound := by
  obtain ⟨one, blind, heq⟩ := p.mark_cases c
  rw [heq]
  exact { hp with }

theorem Passage.Awaiting.mark {p : Passage} (hp : p.Awaiting) (c : LaneCondition) : (p.mark c).Awaiting := by
  obtain ⟨one, blind, heq⟩ := p.mark_cases c
  rw [heq]
  exact ⟨hp.settling, hp.judging⟩

theorem Passage.mark_standing? (p : Passage) (c : LaneCondition) : (p.mark c).standing? = p.standing? := by
  obtain ⟨one, blind, heq⟩ := p.mark_cases c
  rw [heq]
  rfl

/-- Passages marked afresh keep their order (R20). -/
theorem State.Orderly.markPassages (hs : s.Orderly none st) : s.markPassages.Orderly none st := by
  have hnumbers : s.markPassages.numbers = s.numbers := numbers_congr (asking_markPassages s)
  refine ⟨?_, hnumbers ▸ hs.distinct, hs.next, fun q hq => ?_, fun q hq => ?_, ?_⟩
  · simpa [State.markPassages] using hs.room
  · obtain ⟨p, hp, rfl⟩ := List.mem_map.mp hq
    exact (hs.sound p hp).mark _
  · obtain ⟨p, hp, rfl⟩ := List.mem_map.mp hq
    exact .inl (((hs.awaiting p hp).resolve_right nofun).mark _)
  · rw [← hs.standing]
    simp only [State.standing, State.markPassages, List.filterMap_map, Function.comp_def, Passage.mark_standing?]

/-! ### Opening (R9, R16, R19) -/

/-- A passage opened in a lane without one joins a table in order (R9, R16, R19, R20, R23). -/
theorem State.Orderly.openPassage (hs : s.Orderly none st) (happart : (st.map Standing.lane).Nodup) (k : Lane)
    (first : Option Beam) {persons : Nat} (hpersons : persons ≤ Config.maxPersons) (opened : Time) {presence : Option Time}
    (hpresence : presence.isSome = first.isNone) :
    ∃ n, (s.openPassage k first persons opened presence).Orderly none (st ++ [⟨n, k, first⟩]) := by
  obtain ⟨hroom, hlength⟩ := hs.makeRoom happart
  have hmax : Config.maxPassages = 16 := rfl
  unfold State.openPassage
  dsimp only
  generalize hnum : freeNumber _ _ _ = n
  have hfresh : n ∉ s.makeRoom.numbers := by
    have h := freeNumber_fresh (used := s.makeRoom.numbers) hroom.next (by simp [State.numbers]; omega)
    rw [← hnum]
    simpa [State.numbers] using h
  have hn : Within 1 65535 n := hnum ▸ freeNumber_range hroom.next
  generalize hp : Passage.mark _ _ = p
  have hsound : p.Sound := by
    rw [← hp]
    refine Passage.Sound.mark ?_ _
    exact {
      number := hn
      persons := hpersons
      items := Nat.zero_le _
      direction := by simp
      closed := by simp
      settle := fun _ => rfl
      presence := by simp [hpresence]
      synthetic := by simp
      idle := fun _ => ⟨rfl, rfl⟩
      tally := nofun }
  have hawaiting : p.Awaiting := by
    rw [← hp]
    exact Passage.Awaiting.mark (by exact ⟨nofun, nofun⟩) _
  have hstanding : p.standing? = some ⟨n, k, first⟩ := by
    rw [← hp, Passage.mark_standing?]
    rfl
  have hnumber : p.number = n := by
    rw [← hp]
    obtain ⟨one, blind, heq⟩ := Passage.mark_cases _ _
    rw [heq]
  refine ⟨n, ?_, ?_, nextNumber_range hn, ?_, ?_, ?_⟩
  · rw [List.length_append, List.length_singleton]
    omega
  · simp only [State.numbers, List.map_append, List.map_cons, List.map_nil, hnumber]
    exact List.nodup_append.mpr ⟨hroom.distinct, List.nodup_singleton n, fun a ha b hb => by
      rw [List.mem_singleton.mp hb]
      exact fun heq => hfresh (heq ▸ ha)⟩
  · exact fun q hq => (List.mem_append.mp hq).elim (hroom.sound q) fun hq => List.mem_singleton.mp hq ▸ hsound
  · exact fun q hq => (List.mem_append.mp hq).elim (hroom.awaiting q) fun hq => .inl (List.mem_singleton.mp hq ▸ hawaiting)
  · rw [← hroom.standing]
    simp only [State.standing, List.filterMap_append, List.filterMap_cons, hstanding, List.filterMap_nil]

/-! ### Closing (R10, R12, R14, R17) -/

/-- An OPEN passage closed leaves the table in order without it (R21). -/
theorem State.Orderly.closePassage (hs : s.Orderly none st) {p : Passage} (hp : p ∈ s.passages) (hphase : p.phase = .open_)
    (d : Direction) (stamp : Time) :
    (s.closePassage p d stamp).Orderly none (st.filter fun x => x.number != p.number) := by
  have hfound := passage?_of_mem hs.distinct hp
  have honly (q : Passage) (hq : q ∈ s.passages) (hn : q.number = p.number) : q = p :=
    List.inj_on_of_nodup_map hs.distinct hq hp hn
  have hnumber (timer : Option Time) : ∀ q : Passage, (q.closedBy d stamp timer).number = q.number := fun _ => rfl
  have hstanding (timer : Option Time) : (s.modPassage p.number fun q => q.closedBy d stamp timer).standing =
      st.filter fun x => x.number != p.number := by
    rw [← hs.standing]
    simp only [State.standing, State.modPassage, List.filterMap_map, List.filter_filterMap]
    refine List.filterMap_congr fun q hq => ?_
    simp only [Function.comp_apply]
    by_cases hn : q.number = p.number
    · have hq := honly q hq hn
      simp [hq, Passage.standing?, Passage.closedBy, hphase, Option.filter]
    · by_cases ho : q.phase = .open_ <;> simp [hn, ho, Passage.standing?, Option.filter]
  have hclosed (timer : Option Time) {loose : Option (Nat × Phase × Bool)}
      (hloose : timer.isSome = true ∨ loose = some (p.number, .settling, false)) :
      (s.modPassage p.number fun q => q.closedBy d stamp timer).Orderly loose (st.filter fun x => x.number != p.number) := by
    rw [← hstanding timer]
    refine hs.modRecord (hnumber timer) (fun q hq hn => ?_) nofun
    obtain rfl := honly q hq hn
    have hsound := hs.sound q hq
    obtain ⟨hitems, hnone⟩ := hsound.idle (by rw [hphase]; exact nofun)
    refine ⟨?_, hloose.imp (fun h => ⟨fun _ => h, nofun⟩) fun h => ?_⟩
    · exact {
        number := hsound.number
        persons := hsound.persons
        items := hsound.items
        direction := ⟨nofun, nofun⟩
        closed := ⟨nofun, nofun⟩
        settle := fun h => absurd rfl h
        presence := ⟨nofun, fun h => absurd h.1 nofun⟩
        synthetic := hsound.synthetic
        idle := fun _ => ⟨hitems, hnone⟩
        tally := hsound.tally }
    · rw [h]
      simp [Passage.stage, Passage.closedBy, hnone]
  unfold State.closePassage
  dsimp only
  split
  · have hopen := (hclosed none (.inr rfl)).of_table (t := (s.modPassage p.number fun q => q.closedBy d stamp none).modCounts
      p.lane fun c => c.addClosed d p.persons) rfl rfl
    have hfound' : (s.modPassage p.number fun q => q.closedBy d stamp none).passage? p.number =
        some (p.closedBy d stamp none) := passage?_modPassage_same hfound (hnumber none)
    exact hopen.settleNow (p := p.closedBy d stamp none) hfound' rfl fun x hx => by rw [← Option.some.inj hx]; rfl
  · exact (hclosed (some _) (.inl rfl)).of_table rfl rfl

end Opening

end Sys2Proof.Machine
end

section
/-! SUPPORT. The lanes' trackers and the merge of a read keep the law of the passage table (R9 to R17). -/

namespace Sys2Proof.Machine

section Tracked
variable {s t : State} {st st' : List Standing}

/-! ### The OPEN record of a lane -/

theorem mem_of_standingIn {k : Lane} {x : Standing} (h : standingIn st k = some x) : x ∈ st ∧ x.lane = k :=
  ⟨List.mem_of_find?_eq_some h, by simpa using List.find?_some h⟩

theorem standingIn_eq_none_iff {k : Lane} : standingIn st k = none ↔ ∀ x ∈ st, x.lane ≠ k := by
  simp [standingIn, List.find?_eq_none]

theorem standingIn_append {x : Standing} (h : standingIn st x.lane = none) (j : Lane) :
    standingIn (st ++ [x]) j = if j = x.lane then some x else standingIn st j := by
  unfold standingIn at *
  rw [List.find?_append]
  by_cases hj : j = x.lane
  · subst hj
    simp [h]
  · have hne : (x.lane == j) = false := beq_false_of_ne fun heq => hj heq.symm
    simp [hj, hne]

/-- With one OPEN passage in a lane, the lane has none once that one is gone. -/
theorem standingIn_filter (hnumbers : (st.map Standing.number).Nodup) (happart : (st.map Standing.lane).Nodup) {k : Lane}
    {x : Standing} (hx : standingIn st k = some x) (j : Lane) :
    standingIn (st.filter fun y => y.number != x.number) j = if j = k then none else standingIn st j := by
  obtain ⟨hmem, hlane⟩ := mem_of_standingIn hx
  have hsame : ∀ y ∈ st, (y.number = x.number ↔ y.lane = k) := fun y hy =>
    ⟨fun h => (List.inj_on_of_nodup_map hnumbers hy hmem h).symm ▸ hlane,
      fun h => congrArg Standing.number (List.inj_on_of_nodup_map happart hy hmem (h.trans hlane.symm))⟩
  split
  next hj =>
    subst hj
    refine standingIn_eq_none_iff.mpr fun y hy hyj => ?_
    obtain ⟨hy, hn⟩ := List.mem_filter.mp hy
    exact bne_iff_ne.mp hn ((hsame y hy).mpr hyj)
  next hj =>
    unfold standingIn
    rw [List.find?_filter]
    refine List.find?_congr fun y hy => ?_
    by_cases hyj : y.lane = j
    · have hn : y.number ≠ x.number := fun hn => hj (hyj ▸ (hsame y hy).mp hn)
      simp [hyj, hn]
    · simp [hyj]

/-! ### Agreement -/

theorem State.TrackedBy.of_same (h : s.TrackedBy st) (htrackers : t.trackers = s.trackers)
    (hparams : t.params.lanes = s.params.lanes) : t.TrackedBy st := by
  refine ⟨h.apart, fun k => ?_, fun k => htrackers ▸ h.fits k⟩
  rw [htrackers, h.served k, State.laneInService, State.laneInService, hparams]

/-- A lane in service whose tracker changes with its OPEN passage. -/
theorem State.TrackedBy.change (h : s.TrackedBy st) (k : Lane) {x : Option Tracker}
    (htrackers : t.trackers = s.trackers.set k x) (hparams : t.params = s.params)
    (hserved : x.isSome = s.trackers[k].isSome) (happart : (st'.map Standing.lane).Nodup)
    (hothers : ∀ j ≠ k, standingIn st' j = standingIn st j) (hfits : trackerFits x ((standingIn st' k).map Standing.first)) :
    t.TrackedBy st' := by
  have hget (j : Lane) : t.trackers[j] = if j = k then x else s.trackers[j] := by
    rw [htrackers, Fin.getElem_fin, Vector.getElem_set]
    by_cases hj : j = k
    · simp [hj]
    · have hval : k.val ≠ j.val := fun heq => hj (Fin.ext heq.symm)
      rw [if_neg hval, if_neg hj]
      rfl
  refine ⟨happart, fun j => ?_, fun j => ?_⟩
  · have hlane : t.laneInService j = s.laneInService j := by rw [State.laneInService, State.laneInService, hparams]
    rw [hget, hlane, ← h.served j]
    split
    next hj => rw [hserved, hj]
    next => rfl
  · rw [hget]
    split
    next hj => rwa [hj]
    next hj =>
      rw [hothers j hj]
      exact h.fits j

/-- A lane's tracker moved while its OPEN passage stays. -/
theorem setTracker_passageLaw (h : s.passageLaw) {k : Lane} {x : Tracker} (hk : s.trackers[k].isSome = true)
    (hfits : trackerFits (some x) ((standingIn s.standing k).map Standing.first)) :
    (s.setTracker k (some x)).passageLaw := by
  obtain ⟨hs, ht⟩ := (passageLaw_iff s).mp h
  exact passageLaw_of (hs.of_table rfl rfl) (ht.change k rfl rfl hk.symm ht.apart (fun _ _ => rfl) hfits)

/-- A lane without an OPEN passage gets one, and its tracker moves with it (R9, R16). -/
theorem openPassage_passageLaw (h : s.passageLaw) {k : Lane} {x : Option Tracker} (hserved : x.isSome = s.trackers[k].isSome)
    (hnone : standingIn s.standing k = none) {first : Option Beam} (hfits : trackerFits x (some first)) {persons : Nat}
    (hpersons : persons ≤ Config.maxPersons) (opened : Time) {presence : Option Time}
    (hpresence : presence.isSome = first.isNone) :
    ((s.setTracker k x).openPassage k first persons opened presence).passageLaw := by
  obtain ⟨hs, ht⟩ := (passageLaw_iff s).mp h
  obtain ⟨n, hopened⟩ := (hs.of_table (t := s.setTracker k x) rfl rfl).openPassage ht.apart k first hpersons opened hpresence
  have hframe := openPassage_frame (s.setTracker k x) k first persons opened presence
  refine passageLaw_of hopened (ht.change k hframe.trackers hframe.params hserved ?_ (fun j hj => ?_) ?_)
  · rw [List.map_append]
    exact List.nodup_append.mpr ⟨ht.apart, List.nodup_singleton _, fun a ha b hb => by
      obtain ⟨y, hy, rfl⟩ := List.mem_map.mp ha
      rw [List.mem_singleton.mp hb]
      exact standingIn_eq_none_iff.mp hnone y hy⟩
  · rw [standingIn_append hnone, if_neg hj]
  · rw [standingIn_append hnone, if_pos rfl]
    exact hfits

/-- A lane's OPEN passage closed, its tracker with it (R10, R12, R14, R15). -/
theorem closePassage_passageLaw (h : s.passageLaw) {k : Lane} {x : Tracker} (hk : s.trackers[k].isSome = true)
    (hfits : trackerFits (some x) none) {p : Passage} (hp : s.openPassage? k = some p) (d : Direction) (stamp : Time) :
    ((s.setTracker k (some x)).closePassage p d stamp).passageLaw := by
  obtain ⟨hs, ht⟩ := (passageLaw_iff s).mp h
  obtain ⟨hmem, hphase⟩ := openPassage?_mem hp
  have hstanding : standingIn s.standing k = some ⟨p.number, p.lane, p.firstBeam⟩ := by
    rw [← openPassage?_standing, hp, Option.map_some]
  have hclosed := (hs.of_table (t := s.setTracker k (some x)) rfl rfl).closePassage hmem hphase d stamp
  have hframe := closePassage_frame (s.setTracker k (some x)) p d stamp
  have hfilter := standingIn_filter (hs.distinct.sublist (standing_numbers_sublist s)) ht.apart hstanding
  refine passageLaw_of hclosed (ht.change k hframe.trackers hframe.params hk.symm ?_ (fun j hj => ?_) ?_)
  · exact ht.apart.sublist (List.Sublist.map _ List.filter_sublist)
  · exact (hfilter j).trans (if_neg hj)
  · rw [(hfilter k).trans (if_pos rfl)]
    exact hfits

theorem closeOpen_passageLaw (h : s.passageLaw) {k : Lane} {x : Tracker} (hk : s.trackers[k].isSome = true)
    (hfits : trackerFits (some x) none) (d : Direction) (stamp : Time) :
    ((s.setTracker k (some x)).closeOpen k d stamp).passageLaw := by
  have hsame : (s.setTracker k (some x)).openPassage? k = s.openPassage? k := rfl
  unfold State.closeOpen
  rw [hsame]
  cases hp : s.openPassage? k with
  | some p => exact closePassage_passageLaw h hk hfits hp d stamp
  | none =>
    refine setTracker_passageLaw h hk ?_
    rw [← openPassage?_standing, hp]
    exact hfits

/-! ### The lane tracker (R9 to R15) -/

theorem trackBreak_passageLaw (h : s.passageLaw) (k : Lane) (x : Beam) (stamp : Time) :
    (s.trackBreak k x stamp).passageLaw := by
  obtain ⟨hs, ht⟩ := (passageLaw_iff s).mp h
  have hfits := ht.fits k
  unfold State.trackBreak
  split
  next htracker =>
    rw [htracker] at hfits
    exact openPassage_passageLaw h (by rw [htracker]; rfl) (Option.map_eq_none_iff.mp hfits) (by exact rfl) (by decide) stamp rfl
  next first htracker =>
    rw [htracker] at hfits
    split
    · exact h
    · exact setTracker_passageLaw h (by rw [htracker]; rfl) hfits
  next first cleared htracker =>
    rw [htracker] at hfits
    have hcrossing : (s.setTracker k (some (.crossing first))).passageLaw :=
      setTracker_passageLaw h (by rw [htracker]; rfl) hfits
    split
    · dsimp only
      split
      · split
        next p hp =>
          obtain ⟨hs', ht'⟩ := (passageLaw_iff _).mp hcrossing
          refine passageLaw_of (hs'.touch (fun _ => rfl) fun q _ _ hq => ⟨?_, rfl, rfl, fun hw => ⟨hw.settling, hw.judging⟩⟩)
            (ht'.of_same rfl rfl)
          exact { hq with persons := Nat.min_le_right _ _ }
        next => exact hcrossing
      · exact hcrossing
    · exact h
  next => exact h

theorem trackClear_passageLaw (h : s.passageLaw) (k : Lane) (x : Beam) (stamp : Time) :
    (s.trackClear k x stamp).passageLaw := by
  obtain ⟨hs, ht⟩ := (passageLaw_iff s).mp h
  have hfits := ht.fits k
  unfold State.trackClear
  split
  next first htracker =>
    split
    · exact closeOpen_passageLaw h (by rw [htracker]; rfl) (by exact rfl) _ _
    · exact h
  next first htracker =>
    rw [htracker] at hfits
    split <;> exact setTracker_passageLaw h (by rw [htracker]; rfl) hfits
  next first cleared htracker =>
    split
    · exact h
    · dsimp only
      split
      next p hp => exact closePassage_passageLaw h (by rw [htracker]; rfl) (by exact rfl) hp _ _
      next hp =>
        rw [htracker, ← openPassage?_standing, hp] at hfits
        cases hfits
  next htracker =>
    rw [htracker] at hfits
    split
    · exact setTracker_passageLaw h (by rw [htracker]; rfl) hfits
    · exact h
  next => exact h

theorem trackFault_passageLaw (h : s.passageLaw) (k : Lane) (stamp : Time) : (s.trackFault k stamp).passageLaw := by
  unfold State.trackFault
  split
  · exact h
  next htracker => exact closeOpen_passageLaw h (by rw [htracker]; rfl) (fun b hb => absurd hb (Option.not_mem_none b)) _ _
  · exact h

/-- A tracker set afresh fits a lane without an OPEN passage (R15, R24, R27). -/
theorem freshTracker_fits (s : State) (k : Lane) : trackerFits (some (s.freshTracker k)) none := by
  unfold State.freshTracker
  split <;> rfl

theorem trackRecovery_passageLaw (h : s.passageLaw) (k : Lane) (stamp : Time) : (s.trackRecovery k stamp).passageLaw := by
  obtain ⟨hs, ht⟩ := (passageLaw_iff s).mp h
  have hfits := ht.fits k
  unfold State.trackRecovery
  split
  next htracker =>
    have hk : s.trackers[k].isSome = true := by rw [htracker]; rfl
    split
    · exact h
    · dsimp only
      split
      next p hp =>
        have hsynthetic : p.flags.synthetic = true := by
          rw [htracker, ← openPassage?_standing, hp] at hfits
          exact (hs.sound p (openPassage?_mem hp).1).synthetic.mpr (hfits _ rfl)
        rw [if_pos hsynthetic]
        exact closePassage_passageLaw h hk (freshTracker_fits s k) hp _ _
      next hp =>
        refine setTracker_passageLaw h hk ?_
        rw [← openPassage?_standing, hp]
        exact freshTracker_fits s k
  next => exact h

/-! ### The merge of a read (R16) -/

theorem qualifyingRead_passageLaw (h : s.passageLaw) {k : Lane} (hk : s.trackers[k] = some .fault) (time : Time) :
    (s.qualifyingRead k time).passageLaw := by
  have hsame : s.setTracker k (some .fault) = s := by
    have : s.trackers.set k (some .fault) = s.trackers := by
      rw [← hk]
      exact Vector.set_getElem_self _
    unfold State.setTracker
    rw [this]
  unfold State.qualifyingRead
  dsimp only
  split
  next hp =>
    rw [← hsame]
    refine openPassage_passageLaw h (by rw [hk]) ?_ (by exact fun b hb => (Option.some.inj hb).symm) (by decide) time rfl
    rw [← openPassage?_standing, hp, Option.map_none]
  next p hp =>
    split
    next hsynthetic =>
      obtain ⟨hs, ht⟩ := (passageLaw_iff s).mp h
      obtain ⟨hmem, hphase⟩ := openPassage?_mem hp
      refine passageLaw_of (hs.touch (fun _ => rfl) fun q hq hn hsound => ⟨?_, rfl, rfl, fun hw => ⟨hw.settling, hw.judging⟩⟩)
        (ht.of_same rfl rfl)
      obtain rfl := List.inj_on_of_nodup_map hs.distinct hq hmem hn
      exact { hsound with presence := ⟨fun _ => ⟨hphase, hsynthetic⟩, fun _ => rfl⟩ }
    next => exact h

theorem readReported_passageLaw (h : s.passageLaw) (r : Read) (strength : Nat) (state : SightState) :
    (s.readReported r strength state).passageLaw := by
  unfold State.readReported
  refine (List.foldlRecOn (motive := fun t : State => t.passageLaw ∧ t.trackers = s.trackers) _ _ ⟨h, rfl⟩
    fun t ht k _ => ?_).1
  obtain ⟨hlaw, htrackers⟩ := ht
  split
  next hq =>
    simp only [Bool.and_eq_true, beq_iff_eq] at hq
    exact ⟨qualifyingRead_passageLaw hlaw (htrackers ▸ hq.1.1) _, (qualifyingRead_frame _ _ _).trackers.trans htrackers⟩
  next => exact ⟨hlaw, htrackers⟩

end Tracked

end Sys2Proof.Machine
end

section
/-! SUPPORT. What a change of LANES makes of each lane (R5, R24, R144). -/

namespace Sys2Proof.Machine

/-- What beam unit, passage unit and alarm unit hold for a lane. -/
structure LanePart where
  beams : LaneBeams
  tracker : Option Tracker
  alarm : LaneAlarm

/-- A lane's part of the state. -/
def State.lanePart (s : State) (k : Lane) : LanePart := ⟨s.beams[k], s.trackers[k], s.alarms[k]⟩

/-- A lane as a change of LANES leaves it: fresh as it enters service, bare as it leaves (R5, R24, R144). -/
def LanePart.turn (x : LanePart) (enters leaves : Bool) (expiry : Time) : LanePart :=
  if enters then
    ⟨⟨x.beams.inner.enterService expiry, x.beams.outer.enterService expiry⟩,
      some (if x.beams.inner.filtered == .clear && x.beams.outer.filtered == .clear then .clear else .waitClear), x.alarm⟩
  else if leaves then ⟨⟨x.beams.inner.leaveService, x.beams.outer.leaveService⟩, none, ⟨.quiet, none⟩⟩
  else x

/-- One lane of a change of LANES from `old` to the value that `u` stores. -/
def State.turnLane (u : State) (old : Nat) (t : State) (k : Lane) : State :=
  if u.laneInService k && !decide (k.val < old) then t.laneEnters k
  else if !u.laneInService k && decide (k.val < old) then t.laneLeaves k
  else t

theorem lanesChanged_eq (s : State) (old : Nat) :
    s.lanesChanged old = ((allLanes.foldl (s.turnLane old) s).withdrawBeyondLanes).choose := rfl

/-- Only beams, trackers and alarms differ. -/
def TurnFrame (s t : State) : Prop := t = { s with beams := t.beams, trackers := t.trackers, alarms := t.alarms }

theorem TurnFrame.trans {s t u : State} (h : TurnFrame s t) (k : TurnFrame t u) : TurnFrame s u := by
  cases s; cases t; cases u; simp_all [TurnFrame]

theorem turnLane_frame (u : State) (old : Nat) (t : State) (k : Lane) : TurnFrame t (u.turnLane old t k) := by
  unfold State.turnLane
  split
  · rfl
  · split <;> rfl

theorem turnLane_part (u : State) (old : Nat) (t : State) (k j : Lane) :
    (u.turnLane old t k).lanePart j =
      if j = k then (t.lanePart k).turn (u.laneInService k && !decide (k.val < old))
        (!u.laneInService k && decide (k.val < old)) (t.stuckExpiry t.gateTime)
      else t.lanePart j := by
  have hset {α : Type} (v : Vector α 4) (x : α) : (v.set k x)[j] = if j = k then x else v[j] := by
    rw [Fin.getElem_fin, Vector.getElem_set]
    by_cases hj : j = k
    · simp [hj]
    · have hval : k.val ≠ j.val := fun heq => hj (Fin.ext heq.symm)
      rw [if_neg hval, if_neg hj]
      rfl
  unfold State.turnLane LanePart.turn
  by_cases hj : j = k
  · subst hj
    split
    · simp [State.lanePart, State.laneEnters, State.freshTracker, State.laneClear, modAt]
    · split
      · simp [State.lanePart, State.laneLeaves, State.quietLane, modAt]
      · simp
  · rw [if_neg hj]
    split
    · simp only [State.lanePart, State.laneEnters, State.setTracker_beams, State.setTracker_trackers,
        State.setTracker_alarms, modAt, hset, if_neg hj]
    · split
      · simp only [State.lanePart, State.laneLeaves, State.quietLane, State.setAlarm_beams, State.setAlarm_trackers,
          State.setAlarm_alarms, State.setTracker_beams, State.setTracker_trackers, State.setTracker_alarms, modAt, hset,
          if_neg hj]
      · rfl

/-- The lanes turned one after another, each on its own. -/
theorem lanesFold_part (u : State) (old : Nat) {l : List Lane} (hl : l.Nodup) (t : State) :
    TurnFrame t (l.foldl (u.turnLane old) t) ∧ ∀ j, (l.foldl (u.turnLane old) t).lanePart j =
      if j ∈ l then (t.lanePart j).turn (u.laneInService j && !decide (j.val < old))
        (!u.laneInService j && decide (j.val < old)) (t.stuckExpiry t.gateTime)
      else t.lanePart j := by
  induction l generalizing t with
  | nil => exact ⟨rfl, fun j => by simp⟩
  | cons k l ih =>
    obtain ⟨hk, hl⟩ := List.nodup_cons.mp hl
    obtain ⟨hframe, hpart⟩ := ih hl (u.turnLane old t k)
    have hturn := turnLane_frame u old t k
    have hexpiry : (u.turnLane old t k).stuckExpiry (u.turnLane old t k).gateTime = t.stuckExpiry t.gateTime := by
      rw [hturn]
      rfl
    refine ⟨hturn.trans hframe, fun j => ?_⟩
    rw [List.foldl_cons, hpart, hexpiry, turnLane_part]
    by_cases hj : j = k
    · subst hj
      simp [hk]
    · simp [hj]

theorem allLanes_nodup : allLanes.Nodup := by decide

theorem mem_allLanes (k : Lane) : k ∈ allLanes := by fin_cases k <;> decide

/-- Every lane turned (R5, R24, R144). -/
theorem allLanesFold_part (u : State) (old : Nat) (t : State) (j : Lane) :
    (allLanes.foldl (u.turnLane old) t).lanePart j = (t.lanePart j).turn (u.laneInService j && !decide (j.val < old))
      (!u.laneInService j && decide (j.val < old)) (t.stuckExpiry t.gateTime) := by
  rw [(lanesFold_part u old allLanes_nodup t).2, if_pos (mem_allLanes j)]

end Sys2Proof.Machine
end
section
/-! SUPPORT. Every command and every step keeps the law of the passage table (01). -/

namespace Sys2Proof.Machine

section Kept
variable {s t : State}

/-! ### What keeps the law -/

/-- The law depends on the table, the number to be given next, the trackers and LANES. -/
theorem passageLaw_of_same (h : s.passageLaw) (hpassages : t.passages = s.passages) (hnext : t.nextPassage = s.nextPassage)
    (htrackers : t.trackers = s.trackers) (hlanes : t.params.lanes = s.params.lanes) : t.passageLaw := by
  obtain ⟨hs, ht⟩ := (passageLaw_iff s).mp h
  exact passageLaw_of (hs.of_table hpassages hnext) (ht.of_same htrackers hlanes)

theorem LineFrame.passageLaw (hf : LineFrame s t) (h : s.passageLaw) : t.passageLaw :=
  passageLaw_of_same h hf.passages hf.nextPassage hf.trackers (by rw [hf.params])

theorem RadioFrame.passageLaw (hf : RadioFrame s t) (h : s.passageLaw) : t.passageLaw :=
  passageLaw_of_same h hf.passages hf.nextPassage hf.trackers (by rw [hf.params])

theorem SendFrame.passageLaw (hf : SendFrame s t) (h : s.passageLaw) : t.passageLaw :=
  passageLaw_of_same h hf.passages hf.nextPassage hf.trackers (by rw [hf.params])

/-- What leaves trackers and parameters alone and keeps the table in order. -/
theorem passageLaw_of_orderly (h : s.passageLaw) (hs : s.Orderly none s.standing → t.Orderly none s.standing)
    (hf : GateFrame s t) : t.passageLaw := by
  obtain ⟨hs', ht⟩ := (passageLaw_iff s).mp h
  exact passageLaw_of (hs hs') (ht.of_same hf.trackers (by rw [hf.params]))

/-- With no record in the table the trackers of the lanes in service fit a lane without a passage. -/
theorem passageLaw_of_empty (hp : s.passages = []) (hnext : Within 1 65535 s.nextPassage)
    (ht : ∀ k : Lane, s.trackers[k].isSome = s.laneInService k ∧ trackerFits s.trackers[k] none) : s.passageLaw := by
  have hstanding : s.standing = [] := by simp [State.standing, hp]
  refine passageLaw_of (st := []) ⟨by simp [hp], by simp [State.numbers, hp], hnext, by simp [hp], by simp [hp], hstanding⟩
    ⟨List.nodup_nil, fun k => (ht k).1, fun k => (ht k).2⟩

theorem modBeam_passageLaw (h : s.passageLaw) (k : Lane) (x : Beam) (f : BeamState → BeamState) :
    (s.modBeam k x f).passageLaw :=
  passageLaw_of_same h rfl rfl rfl rfl

theorem endEvent_passageLaw (h : s.passageLaw) (s0 : State) : (s.endEvent s0).passageLaw := by
  unfold State.endEvent
  split
  · exact (recomputeLines_frame _).passageLaw ((choose_frame s).passageLaw h)
  · exact (recomputeLines_frame _).passageLaw h

/-! ### Events of the beam unit and the passage unit (01) -/

theorem issueClear_passageLaw (h : s.passageLaw) (k : Lane) (x : Beam) (stamp : Time) :
    (s.issueClear k x stamp).passageLaw := by
  have hclear := trackClear_passageLaw (modBeam_passageLaw h k x fun b => { b with stuck := none }) k x stamp
  unfold State.issueClear
  dsimp only
  split
  · refine trackRecovery_passageLaw ((queueNotice_frame _ _).passageLaw ?_) k stamp
    exact modBeam_passageLaw hclear k x _
  · exact hclear

theorem beamFilterExpiry_passageLaw (h : s.passageLaw) (k : Lane) (x : Beam) : (beamFilterExpiry k x s).passageLaw := by
  unfold beamFilterExpiry
  split
  · split
    · dsimp only
      split
      · refine endEvent_passageLaw ?_ s
        split
        · exact trackBreak_passageLaw (modBeam_passageLaw (modBeam_passageLaw h k x _) k x _) k x _
        · exact issueClear_passageLaw (modBeam_passageLaw h k x _) k x _
      · exact modBeam_passageLaw h k x _
    · exact h
  · exact h

theorem stuckTimerExpiry_passageLaw (h : s.passageLaw) (k : Lane) (x : Beam) : (stuckTimerExpiry k x s).passageLaw := by
  unfold stuckTimerExpiry
  split
  · split
    · refine endEvent_passageLaw (trackFault_passageLaw ((queueNotice_frame _ _).passageLaw ?_) k _) s
      exact modBeam_passageLaw h k x _
    · exact h
  · exact h

/-- Only a lane in FAULT has a synthetic passage OPEN (R16). -/
theorem tracker_of_synthetic (h : s.passageLaw) {p : Passage} (hp : p ∈ s.passages) (hphase : p.phase = .open_)
    (hpresence : p.presence.isSome = true) : s.openPassage? p.lane = some p ∧ s.trackers[p.lane] = some .fault := by
  obtain ⟨hs, ht⟩ := (passageLaw_iff s).mp h
  have hsound := hs.sound p hp
  have hstanding : (⟨p.number, p.lane, p.firstBeam⟩ : Standing) ∈ s.standing := mem_standing.mpr ⟨p, hp, hphase, rfl⟩
  obtain ⟨q, hq⟩ : ∃ q, s.openPassage? p.lane = some q :=
    Option.isSome_iff_exists.mp (List.find?_isSome.mpr ⟨p, hp, by simp [hphase]⟩)
  have hsame : standingIn s.standing p.lane = some ⟨q.number, q.lane, q.firstBeam⟩ := by
    rw [← openPassage?_standing, hq, Option.map_some]
  obtain ⟨hmem, hlane⟩ := mem_of_standingIn hsame
  have heq := List.inj_on_of_nodup_map ht.apart hmem hstanding hlane
  obtain rfl : q = p := List.inj_on_of_nodup_map hs.distinct (openPassage?_mem hq).1 hp (congrArg Standing.number heq)
  refine ⟨hq, ?_⟩
  have hfirst : q.firstBeam = none := hsound.synthetic.mp (hsound.presence.mp hpresence).2
  have hfits := ht.fits q.lane
  rw [hsame, Option.map_some, hfirst] at hfits
  unfold trackerFits at hfits
  split at hfits <;> simp_all

theorem presenceTimerExpiry_passageLaw (h : s.passageLaw) (n : Nat) : (presenceTimerExpiry n s).passageLaw := by
  unfold presenceTimerExpiry
  split
  next p hp =>
    split
    next e he =>
      split
      next hdue =>
        obtain ⟨hopen, htracker⟩ := tracker_of_synthetic h (passage?_mem hp).1 hdue.1 (by rw [he]; rfl)
        have hsame : s.setTracker p.lane (some .fault) = s := by
          have hset : s.trackers.set p.lane (some .fault) = s.trackers := by
            rw [← htracker]
            exact Vector.set_getElem_self _
          unfold State.setTracker
          rw [hset]
        have hclosed := closePassage_passageLaw h (x := .fault) (by rw [htracker]; rfl)
          (fun b hb => absurd hb (Option.not_mem_none b)) hopen .unknown e
        rw [hsame] at hclosed
        exact endEvent_passageLaw hclosed s
      next => exact h
    next => exact h
  next => exact h

theorem settleTimerExpiry_passageLaw (h : s.passageLaw) (n : Nat) : (settleTimerExpiry n s).passageLaw := by
  unfold settleTimerExpiry
  split
  next p hp =>
    obtain rfl : p.number = n := (passage?_mem hp).2
    split
    next hdue =>
      refine endEvent_passageLaw ?_ s
      exact passageLaw_of_orderly h (fun hs => hs.settleNow hp hdue.1 nofun) (settleNow_frame s _)
    next => exact h
  next => exact h

theorem readMerge_passageLaw (h : s.passageLaw) : (readMerge s).passageLaw := by
  unfold readMerge
  split
  · exact h
  next r rest _ =>
    dsimp only
    have hremoved : ({ s with intake := rest } : State).readRemoved.passageLaw :=
      (readRemoved_frame _).passageLaw (passageLaw_of_same h rfl rfl rfl rfl)
    generalize ({ s with intake := rest } : State).readRemoved = u at hremoved
    have hmerge := mergeRead_frame u r
    have hmerged : (u.mergeRead r).passageLaw := passageLaw_of_same hremoved (mergeRead_passages u r)
      (mergeRead_nextPassage u r) hmerge.trackers (by rw [hmerge.params])
    have hreported := readReported_passageLaw hmerged r (u.strength r) (u.mergedEntry r).state
    refine endEvent_passageLaw ?_ s
    have hage := expireAge_frame ((u.mergeRead r).readReported r (u.strength r) (u.mergedEntry r).state) r.item
    refine passageLaw_of_same hreported (expireAge_passages _ _) ?_ hage.trackers (by rw [hage.params])
    unfold State.expireAge
    split
    · split <;> rfl
    · rfl

end Kept

end Sys2Proof.Machine
end

section
/-! SUPPORT. Events and messages that leave the passage unit, the tables and the counts alone. -/

namespace Sys2Proof.Machine

/-! ### Events of the key, the radio, the alarms and the lines -/

/-- Only what key, intake, alarms, lines and radio hold differs. -/
def AsideFrame (s t : State) : Prop :=
  t = { s with
        key := t.key, intake := t.intake, alarms := t.alarms, lines := t.lines, grant := t.grant,
        lastGranted := t.lastGranted, lastBackground := t.lastBackground, bgTimer := t.bgTimer, antennas := t.antennas,
        engine := t.engine, round := t.round, field := t.field, linkCounters := t.linkCounters, air := t.air,
        storedExp := t.storedExp }

namespace AsideFrame
variable {s t u : State}

theorem refl (s : State) : AsideFrame s s := rfl

theorem trans (h : AsideFrame s t) (k : AsideFrame t u) : AsideFrame s u := by
  cases s; cases t; cases u; simp_all [AsideFrame]

theorem of_radio (h : RadioFrame s t) : AsideFrame s t := by
  cases s; cases t; simp_all [AsideFrame, RadioFrame]

theorem of_line (h : LineFrame s t) : AsideFrame s t := by
  cases s; cases t; simp_all [AsideFrame, LineFrame]

theorem gateTime (h : AsideFrame s t) : t.gateTime = s.gateTime := by rw [h]
theorem restartCause (h : AsideFrame s t) : t.restartCause = s.restartCause := by rw [h]
theorem params (h : AsideFrame s t) : t.params = s.params := by rw [h]
theorem beams (h : AsideFrame s t) : t.beams = s.beams := by rw [h]
theorem trackers (h : AsideFrame s t) : t.trackers = s.trackers := by rw [h]
theorem passages (h : AsideFrame s t) : t.passages = s.passages := by rw [h]
theorem nextPassage (h : AsideFrame s t) : t.nextPassage = s.nextPassage := by rw [h]
theorem counts (h : AsideFrame s t) : t.counts = s.counts := by rw [h]
theorem rates (h : AsideFrame s t) : t.rates = s.rates := by rw [h]
theorem owner (h : AsideFrame s t) : t.owner = s.owner := by rw [h]
theorem sightings (h : AsideFrame s t) : t.sightings = s.sightings := by rw [h]
theorem classes (h : AsideFrame s t) : t.classes = s.classes := by rw [h]
theorem loans (h : AsideFrame s t) : t.loans = s.loans := by rw [h]
theorem routes (h : AsideFrame s t) : t.routes = s.routes := by rw [h]
theorem speed (h : AsideFrame s t) : t.speed = s.speed := by rw [h]
theorem rx (h : AsideFrame s t) : t.rx = s.rx := by rw [h]
theorem gap (h : AsideFrame s t) : t.gap = s.gap := by rw [h]
theorem buffers (h : AsideFrame s t) : t.buffers = s.buffers := by rw [h]
theorem reports (h : AsideFrame s t) : t.reports = s.reports := by rw [h]
theorem linked (h : AsideFrame s t) : t.linked = s.linked := by rw [h]
theorem silence (h : AsideFrame s t) : t.silence = s.silence := by rw [h]
theorem restartPending (h : AsideFrame s t) : t.restartPending = s.restartPending := by rw [h]
theorem device (h : AsideFrame s t) : t.device = s.device := by rw [h]

end AsideFrame

section Aside
variable (s : State)

theorem keyRawChange_aside (pressed : Bool) : AsideFrame s (keyRawChange pressed s) := by
  unfold keyRawChange
  split
  · rfl
  · split <;> rfl

theorem keyFilterExpiry_aside : AsideFrame s (keyFilterExpiry s) := by
  unfold keyFilterExpiry
  split
  · split
    · dsimp only
      split <;> rfl
    · rfl
  · rfl

theorem countSlot_aside (r : Round) (o : SlotOutcome) (amp : BitVec 12) : AsideFrame s (s.countSlot r o amp) := by
  cases o with
  | single t =>
    unfold State.countSlot State.takeSingle
    dsimp only
    split <;> rfl
  | empty | collision | noise | corrupt => rfl

theorem slotReport_aside (rep : SlotReport) : AsideFrame s (slotReport rep s) := by
  by_cases he : s.engine = .frame
  · cases hr : s.round with
    | none =>
      unfold slotReport
      rw [he, hr]
      exact .refl s
    | some r =>
      rw [slotReport_of_frame rep he hr]
      split
      · exact (countSlot_aside s r _ _).trans (.of_radio (openSlot_frame _ _))
      · exact (countSlot_aside s r _ _).trans (.of_radio (closeFrame_frame _ _))
  · rw [slotReport_of_not_frame s rep he]
    exact .refl s

theorem holdTimerExpiry_aside : AsideFrame s (holdTimerExpiry s) := by
  unfold holdTimerExpiry
  split
  · split <;> rfl
  · rfl

theorem roundTimerExpiry_aside : AsideFrame s (roundTimerExpiry s) := by
  unfold roundTimerExpiry
  split
  · split <;> rfl
  · rfl

theorem fieldFault_aside : AsideFrame s (fieldFault s) := by
  unfold fieldFault
  split
  · split <;> rfl
  · rfl

theorem backgroundTimerExpiry_aside : AsideFrame s (backgroundTimerExpiry s) := by
  unfold backgroundTimerExpiry
  split
  · exact AsideFrame.trans (t := { s with bgTimer := none }) rfl (.of_radio (choose_frame _))
  · rfl

theorem retryTimerExpiry_aside (a : Antenna) : AsideFrame s (retryTimerExpiry a s) := by
  unfold retryTimerExpiry
  split
  · exact AsideFrame.trans (t := s.modAntenna a fun x => { x with retry := .due }) rfl (.of_radio (choose_frame _))
  · rfl

theorem alarmTimerExpiry_aside (k : Lane) : AsideFrame s (alarmTimerExpiry k s) := by
  unfold alarmTimerExpiry
  split
  · dsimp only
    split <;> rfl
  · rfl

theorem pulseTimerExpiry_aside (l : OutLine) : AsideFrame s (pulseTimerExpiry l s) := by
  unfold pulseTimerExpiry
  split <;> rfl

theorem testTimerExpiry_aside (l : OutLine) : AsideFrame s (testTimerExpiry l s) := by
  unfold testTimerExpiry
  split <;> rfl

theorem endEvent_aside (s0 : State) : AsideFrame s (s.endEvent s0) := by
  unfold State.endEvent
  split
  · exact (AsideFrame.of_radio (choose_frame s)).trans (.of_line (recomputeLines_frame _))
  · exact .of_line (recomputeLines_frame s)

end Aside

/-! ### Messages other than SET (10) -/

/-- Only what a command other than SET writes differs. -/
def CommandFrame (s t : State) : Prop :=
  t = { s with
        classes := t.classes, rates := t.rates, owner := t.owner, routes := t.routes, lines := t.lines, alarms := t.alarms,
        loans := t.loans, device := t.device, counts := t.counts, linkCounters := t.linkCounters,
        restartPending := t.restartPending }

theorem CommandFrame.trans {s t u : State} (h : CommandFrame s t) (k : CommandFrame t u) : CommandFrame s u := by
  cases s; cases t; cases u; simp_all [CommandFrame]

theorem CommandFrame.params {s t : State} (h : CommandFrame s t) : t.params = s.params := by rw [h]
theorem CommandFrame.trackers {s t : State} (h : CommandFrame s t) : t.trackers = s.trackers := by rw [h]
theorem CommandFrame.passages {s t : State} (h : CommandFrame s t) : t.passages = s.passages := by rw [h]
theorem CommandFrame.nextPassage {s t : State} (h : CommandFrame s t) : t.nextPassage = s.nextPassage := by rw [h]
theorem CommandFrame.sightings {s t : State} (h : CommandFrame s t) : t.sightings = s.sightings := by rw [h]

theorem addLoan_command (s : State) (i : ItemNo) : CommandFrame s (s.addLoan i) := by
  rw [addLoan_loans_device]
  rfl

theorem takeCommand_command {k : Kind} (hk : k ≠ .set) (fields : List Byte) (s : State) :
    CommandFrame s (takeCommand k fields s).state := by
  cases k with
  | set => exact absurd rfl hk
  | loanAdd =>
    exact List.foldlRecOn (motive := CommandFrame s) _ _ rfl fun t ht i _ => ht.trans (addLoan_command t i)
  | get | classRead | rateWrite | rateRead | routeRead | patternSet | acknowledge | lineTest =>
    dsimp only [takeCommand, takeGet, takeClassRead, takeRateWrite, takeRateRead, takeRouteRead, takePatternSet,
      takeAcknowledge, takeLineTest]
    split <;> rfl
  | classWrite | routeSet =>
    dsimp only [takeCommand, takeClassWrite, takeRouteSet]
    split
    · split <;> rfl
    · rfl
  | countsClear =>
    dsimp only [takeCommand, takeCountsClear]
    split
    · rfl
    · split <;> rfl
  | statusReq | ownerSet | ownerRead | loanDrop | loanClear | answer | countsRead | statsRead | statsClear | restart => rfl

/-! ### What receiver, transmitter and restart carry along (09) -/

/-- A property of the state that every act of the link unit keeps. -/
structure Carried (P : State → Prop) : Prop where
  arrive : ∀ {s : State} (body : Body), P s → P (s.arrive body)
  removed : ∀ {s : State} (rest : List Body), P s → P { s with buffers := rest }
  reply : ∀ {s : State} (body : Body), P s → P (s.placeReply body)
  command : ∀ {s : State} (k : Kind) (fields : List Byte), P s → P (takeCommand k fields s).state
  answer : ∀ {s : State} (fields : List Byte), P s → P (s.deliverAnswer fields)
  receiver : ∀ {s : State} (rx : Receiver) (gap : Option Time), P s → P { s with rx := rx, gap := gap }
  discard : ∀ {s : State}, P s → P s.discardFrame
  sent : ∀ {s : State}, P s → P { s with sending := none }
  restart : ∀ {s : State}, P s → P s.restartNow
  transmit : ∀ {s : State}, P s → P s.arbitrateTx

namespace Carried
variable {P : State → Prop} {s : State}

theorem takeFrame (hc : Carried P) (h : P s) (body : Body) : P (s.takeFrame body) := by
  unfold State.takeFrame
  split
  · exact h
  · split
    · exact hc.reply _ h
    · split
      · split
        · exact hc.answer _ h
        · exact hc.reply _ (hc.command _ _ h)
      · exact hc.reply _ h

theorem takeFrames (hc : Carried P) (fuel : Nat) (h : P s) : P (takeFrames fuel s) := by
  induction fuel generalizing s with
  | zero => exact h
  | succ fuel ih =>
    unfold Machine.takeFrames
    split
    · exact h
    next body rest _ =>
      split
      · exact ih (hc.takeFrame (hc.removed rest h) body)
      · exact h

theorem receive (hc : Carried P) (h : P s) (body : Body) : P (s.receive body) := hc.takeFrames _ (hc.arrive body h)

theorem byteReceived (hc : Carried P) (h : P s) (b : Byte) (stopBit : Bool) : P (byteReceived b stopBit s) := by
  have hhold (rx : Receiver) : P (s.holdByte rx) := hc.receiver _ _ h
  unfold Machine.byteReceived
  split
  · split
    · exact hhold _
    · exact h
  · split
    · exact hhold _
    · exact hc.discard h
  · split
    · dsimp only
      split
      · exact hhold _
      · exact hc.discard h
    · exact hc.discard h
  · split
    · split <;> exact hhold _
    · exact hc.discard h
  · split
    · exact hhold _
    · exact hc.discard h
  · split
    · unfold State.completeFrame
      split
      · exact hc.receive (hc.receiver _ _ h) _
      · exact hc.discard h
    · exact hc.discard h

theorem frameLeftLine (hc : Carried P) (h : P s) : P (frameLeftLine s) := by
  unfold Machine.frameLeftLine
  split
  · exact h
  · refine hc.takeFrames _ (hc.transmit ?_)
    split
    · exact hc.restart (hc.sent h)
    · exact hc.sent h

end Carried

end Sys2Proof.Machine
end

section
/-! SUPPORT. Every command and every step keeps the law of the passage table, continued: radio, messages, resets (01). -/

namespace Sys2Proof.Machine

section Kept
variable {s t : State}

theorem AsideFrame.passageLaw (hf : AsideFrame s t) (h : s.passageLaw) : t.passageLaw :=
  passageLaw_of_same h hf.passages hf.nextPassage hf.trackers (by rw [hf.params])

theorem CommandFrame.passageLaw (hf : CommandFrame s t) (h : s.passageLaw) : t.passageLaw :=
  passageLaw_of_same h hf.passages hf.nextPassage hf.trackers (by rw [hf.params])

/-! ### Antennas (R20, R59, R61) -/

theorem markPassages_passageLaw (h : s.passageLaw) : s.markPassages.passageLaw := by
  obtain ⟨hs, ht⟩ := (passageLaw_iff s).mp h
  exact passageLaw_of hs.markPassages (ht.of_same rfl rfl)

theorem trialSettled_passageLaw (h : s.passageLaw) (a : Antenna) : (s.trialSettled a).passageLaw := by
  have hset : (s.modAntenna a fun t => { t with trial := false, settled := true }).passageLaw :=
    passageLaw_of_same h rfl rfl rfl rfl
  exact (queueNotice_frame _ _).passageLaw (markPassages_passageLaw hset)

theorem antennaFails_passageLaw (h : s.passageLaw) (a : Antenna) : (s.antennaFails a).passageLaw := by
  have hset (f : AntennaState → AntennaState) : (s.modAntenna a f).passageLaw := passageLaw_of_same h rfl rfl rfl rfl
  exact (queueNotice_frame _ _).passageLaw (markPassages_passageLaw (hset _))

theorem roundEnded_passageLaw (h : s.passageLaw) (a : Antenna) (label : GrantLabel) (cause : Option EndCause) :
    (s.roundEnded a label cause).passageLaw := by
  have hset (f : AntennaState → AntennaState) : (s.modAntenna a f).passageLaw := passageLaw_of_same h rfl rfl rfl rfl
  unfold State.roundEnded
  split
  · split
    · exact hset _
    · exact antennaFails_passageLaw h a
  · split
    · exact hset _
    · exact h
  · exact h

theorem fieldSettleExpiry_passageLaw (h : s.passageLaw) : (fieldSettleExpiry s).passageLaw := by
  unfold fieldSettleExpiry
  split
  · split
    · refine (recomputeLines_frame _).passageLaw ((openSlot_frame _ _).passageLaw ?_)
      split
      · exact trialSettled_passageLaw h _
      · exact h
    · exact h
  · exact h

theorem fieldOffAck_passageLaw (h : s.passageLaw) : (fieldOffAck s).passageLaw := by
  have hidle : ({ s with engine := .idle, round := none, grant := none } : State).passageLaw :=
    passageLaw_of_same h rfl rfl rfl rfl
  unfold fieldOffAck
  split
  · refine (recomputeLines_frame _).passageLaw ((choose_frame _).passageLaw ?_)
    split
    · exact roundEnded_passageLaw hidle _ _ _
    · exact hidle
  · exact h

/-! ### Answers (07) -/

theorem resolveSlot_passageLaw (h : s.passageLaw) (j : SlotNo) (q : Question) (v : Verdict) (reason : Reason) :
    (s.resolveSlot j q v reason).passageLaw :=
  passageLaw_of_orderly h (fun hs => hs.resolveSlot j q v reason) (resolveSlot_frame s j q v reason).gate

theorem slotTimerExpiry_passageLaw (h : s.passageLaw) (j : SlotNo) : (slotTimerExpiry j s).passageLaw := by
  have hcount (f : DeviceCounters → DeviceCounters) : (s.modDevice f).passageLaw := passageLaw_of_same h rfl rfl rfl rfl
  unfold slotTimerExpiry
  split
  · split
    · exact (recomputeLines_frame _).passageLaw (resolveSlot_passageLaw (hcount _) j _ _ _)
    · exact h
  · exact h

theorem takeAnswer_passageLaw (h : s.passageLaw) (slot : Nat) (item : ItemNo) (result : Nat) :
    (s.takeAnswer slot item result).passageLaw := by
  have hcount (f : DeviceCounters → DeviceCounters) : (s.modDevice f).passageLaw := passageLaw_of_same h rfl rfl rfl rfl
  unfold State.takeAnswer
  split
  · exact hcount _
  · split
    · exact resolveSlot_passageLaw ((addLoan_command s item).passageLaw h) _ _ _ _
    · exact resolveSlot_passageLaw h _ _ _ _
    · exact resolveSlot_passageLaw h _ _ _ _
    · exact hcount _

theorem silenceTimerExpiry_passageLaw (h : s.passageLaw) : (silenceTimerExpiry s).passageLaw := by
  unfold silenceTimerExpiry
  split
  · have halone : ({ s with linked := false, silence := none } : State).passageLaw := passageLaw_of_same h rfl rfl rfl rfl
    refine (recomputeLines_frame _).passageLaw ?_
    exact passageLaw_of_orderly halone (fun hs => hs.resolveStandalone) (resolveStandalone_frame _).gate
  · exact h

/-! ### Lanes that enter and leave service (R24) -/

/-- A change of LANES on an empty table. -/
theorem lanesChanged_passageLaw {old : Nat} (hp : s.passages = []) (hnext : Within 1 65535 s.nextPassage)
    (hold : ∀ k : Lane, s.trackers[k].isSome = decide (k.val < old) ∧ trackerFits s.trackers[k] none) :
    (s.lanesChanged old).passageLaw := by
  rw [lanesChanged_eq]
  refine (choose_frame _).passageLaw ((withdrawBeyondLanes_frame _).passageLaw ?_)
  have hframe := (lanesFold_part s old allLanes_nodup s).1
  refine passageLaw_of_empty (by rw [hframe]; exact hp) (by rw [hframe]; exact hnext) fun k => ?_
  have htracker : (allLanes.foldl (s.turnLane old) s).trackers[k] = ((s.lanePart k).turn
      (s.laneInService k && !decide (k.val < old)) (!s.laneInService k && decide (k.val < old))
      (s.stuckExpiry s.gateTime)).tracker := congrArg LanePart.tracker (allLanesFold_part s old s k)
  have hserved : (allLanes.foldl (s.turnLane old) s).laneInService k = s.laneInService k := by
    rw [hframe]
    rfl
  obtain ⟨hsome, hfits⟩ := hold k
  rw [htracker, hserved, LanePart.turn]
  split
  next h =>
    refine ⟨by simp_all, ?_⟩
    dsimp only
    split <;> simp [trackerFits]
  next =>
    split
    next h => simp_all [trackerFits]
    next =>
      refine ⟨?_, hfits⟩
      change s.trackers[k].isSome = _
      cases hk : s.laneInService k <;> simp_all

/-- A pair of a SET stored: the table as it was, and with a record in it LANES as it was too (R24, R182). -/
theorem storePair_passageLaw (h : s.passageLaw) (pair : Nat × Int)
    (hbusy : s.passages ≠ [] → pair.1 = 1 → paramClamp 1 pair.2 = s.params.lanes) :
    (s.storePair pair).passageLaw ∧ (s.storePair pair).passages = s.passages ∧
      (s.passages ≠ [] → (s.storePair pair).params.lanes = s.params.lanes) := by
  have hput (hlanes : (s.params.put pair.1 (paramClamp pair.1 pair.2)).lanes = s.params.lanes) :
      ({ s with params := s.params.put pair.1 (paramClamp pair.1 pair.2) } : State).passageLaw :=
    passageLaw_of_same h rfl rfl rfl hlanes
  have hother (hid : pair.1 ≠ 1) := Params.put_lanes s.params pair.1 (paramClamp pair.1 pair.2) hid
  unfold State.storePair
  dsimp only
  split
  next hid =>
    split
    next hlanes => exact ⟨hput hlanes, rfl, fun _ => hlanes⟩
    next hlanes =>
      have hempty : s.passages = [] := by
        by_contra hne
        refine hlanes ?_
        rw [hid, hbusy hne hid]
        exact Int.toNat_natCast _
      obtain ⟨hs, ht⟩ := (passageLaw_iff s).mp h
      have hstanding : s.standing = [] := by simp [State.standing, hempty]
      refine ⟨lanesChanged_passageLaw hempty hs.next fun k => ⟨ht.served k, ?_⟩, ?_, fun hne => absurd hempty hne⟩
      · have hfits := ht.fits k
        rw [hstanding] at hfits
        exact hfits
      · have hframe := (lanesFold_part { s with params := s.params.put pair.1 (paramClamp pair.1 pair.2) } s.params.lanes
          allLanes_nodup { s with params := s.params.put pair.1 (paramClamp pair.1 pair.2) }).1
        rw [lanesChanged_eq, (choose_frame _).passages, (withdrawBeyondLanes_frame _).passages, hframe]
  next hid =>
    have hlanes := hother (by omega)
    have hframe := restartBackground_frame { s with params := s.params.put pair.1 (paramClamp pair.1 pair.2) }
    exact ⟨hframe.passageLaw (hput hlanes), hframe.passages, fun _ => by rw [hframe.params]; exact hlanes⟩
  next hid =>
    have hlanes := hother (by omega)
    exact ⟨passageLaw_of_same h rfl rfl rfl hlanes, rfl, fun _ => hlanes⟩
  next hid =>
    have hlanes := hother (by omega)
    unfold State.silenceSet
    split
    · exact ⟨passageLaw_of_same h rfl rfl rfl hlanes, rfl, fun _ => hlanes⟩
    · split
      · exact ⟨passageLaw_of_same h rfl rfl rfl hlanes, rfl, fun _ => hlanes⟩
      · exact ⟨hput hlanes, rfl, fun _ => hlanes⟩
  next hid _ _ _ => exact ⟨hput (hother hid), rfl, fun _ => hother hid⟩

theorem takeSet_passageLaw (h : s.passageLaw) (fields : List Byte) : (takeSet fields s).state.passageLaw := by
  unfold takeSet
  dsimp only
  split
  · exact h
  · split
    · exact h
    next hfree =>
      have hbusy (pair : Nat × Int) (hp : pair ∈ setPairs fields) (hne : s.passages ≠ []) (hid : pair.1 = 1) :
          paramClamp 1 pair.2 = s.params.lanes := by
        by_contra hchange
        refine hfree ?_
        rw [State.setBusy, Bool.and_eq_true, List.any_eq_true]
        exact ⟨by simpa using hne, pair, hp, by simp [hid, hchange]⟩
      refine endEvent_passageLaw ?_ s
      refine (List.foldlRecOn (motive := fun t : State => t.passageLaw ∧ t.passages = s.passages ∧
        (s.passages ≠ [] → t.params.lanes = s.params.lanes)) _ _ ⟨h, rfl, fun _ => rfl⟩ fun t ht pair hpair => ?_).1
      obtain ⟨hlaw, hpassages, hlanes⟩ := ht
      obtain ⟨hlaw', hpassages', hlanes'⟩ := storePair_passageLaw hlaw pair fun hne hid => by
        rw [hpassages] at hne
        rw [hbusy pair hpair hne hid, hlanes hne]
      refine ⟨hlaw', hpassages'.trans hpassages, fun hne => ?_⟩
      rw [hlanes' (by rwa [hpassages]), hlanes hne]

theorem takeCommand_passageLaw (h : s.passageLaw) (k : Kind) (fields : List Byte) :
    (takeCommand k fields s).state.passageLaw := by
  by_cases hk : k = .set
  · subst hk
    exact takeSet_passageLaw h fields
  · exact (takeCommand_command hk fields s).passageLaw h

/-! ### Resets (R27) -/

/-- What a reset makes of table and trackers. -/
theorem resetTrackers_passageLaw (hp : s.passages = []) (hnext : s.nextPassage = 1) : s.resetTrackers.passageLaw := by
  have hnumber : s.resetTrackers.nextPassage = 1 := hnext
  refine passageLaw_of_empty hp (by rw [hnumber]; exact ⟨Nat.le_refl 1, by decide⟩) fun k => ?_
  have htracker : s.resetTrackers.trackers[k] = if s.laneInService k then some (s.freshTracker k) else none :=
    perLane_getElem _ k
  have hserved : s.resetTrackers.laneInService k = s.laneInService k := rfl
  rw [htracker, hserved]
  split
  next hk => exact ⟨hk.symm, freshTracker_fits s k⟩
  next hk => exact ⟨by simpa using hk, by simp [trackerFits]⟩

theorem powerUp_passageLaw (s : State) (cause : RestartCause) (a b : Bool) : (s.powerUp cause a b).passageLaw :=
  resetTrackers_passageLaw rfl rfl

theorem restartNow_passageLaw (s : State) : s.restartNow.passageLaw :=
  (recomputeLines_frame _).passageLaw (resetTrackers_passageLaw rfl rfl)

end Kept

/-! ### Every command, every step -/

theorem passageLaw_carried : Carried State.passageLaw where
  arrive {s} body h := by
    have hbuffered : (if s.buffers.length < Config.maxBuffers then { s with buffers := s.buffers ++ [body] }
        else s.modDevice fun d => { d with overruns := bump d.overruns }).passageLaw := by
      split <;> exact passageLaw_of_same h rfl rfl rfl rfl
    unfold State.arrive
    dsimp only
    split
    · exact passageLaw_of_same hbuffered rfl rfl rfl rfl
    · exact (recomputeLines_frame _).passageLaw (passageLaw_of_same hbuffered rfl rfl rfl rfl)
  removed rest h := passageLaw_of_same h rfl rfl rfl rfl
  reply body h := (placeReply_frame _ body).passageLaw h
  command k fields h := takeCommand_passageLaw h k fields
  answer fields h := (recomputeLines_frame _).passageLaw (takeAnswer_passageLaw h _ _ _)
  receiver rx gap h := passageLaw_of_same h rfl rfl rfl rfl
  discard h := passageLaw_of_same h rfl rfl rfl rfl
  sent h := passageLaw_of_same h rfl rfl rfl rfl
  restart _ := restartNow_passageLaw _
  transmit h := (arbitrateTx_frame _).passageLaw h

theorem expireAge_nextPassage (s : State) (i : ItemNo) : (s.expireAge i).nextPassage = s.nextPassage := by
  unfold State.expireAge
  split
  · split <;> rfl
  · rfl

theorem exec_passageLaw (c : Instr) {s t : State} (h : s.passageLaw) (hx : exec c s = .next t) : t.passageLaw := by
  cases c <;> obtain rfl := Host.Outcome.next.inj hx
  case powerOn => exact powerUp_passageLaw s _ _ _
  case resetPin => exact powerUp_passageLaw s _ _ _
  case beamRawChange => exact modBeam_passageLaw h _ _ _
  case beamFilterExpiry => exact beamFilterExpiry_passageLaw h _ _
  case stuckTimerExpiry => exact stuckTimerExpiry_passageLaw h _ _
  case keyRawChange => exact (keyRawChange_aside s _).passageLaw h
  case keyFilterExpiry => exact (keyFilterExpiry_aside s).passageLaw h
  case presenceTimerExpiry => exact presenceTimerExpiry_passageLaw h _
  case settleTimerExpiry => exact settleTimerExpiry_passageLaw h _
  case fieldSettleExpiry => exact fieldSettleExpiry_passageLaw h
  case slotReport => exact (slotReport_aside s _).passageLaw h
  case holdTimerExpiry => exact (holdTimerExpiry_aside s).passageLaw h
  case roundTimerExpiry => exact (roundTimerExpiry_aside s).passageLaw h
  case fieldFault => exact (fieldFault_aside s).passageLaw h
  case fieldOffAck => exact fieldOffAck_passageLaw h
  case backgroundTimerExpiry => exact (backgroundTimerExpiry_aside s).passageLaw h
  case retryTimerExpiry => exact (retryTimerExpiry_aside s _).passageLaw h
  case readMerge => exact readMerge_passageLaw h
  case ageExpiry =>
    have hage := expireAge_frame s
    exact passageLaw_of_same h (expireAge_passages s _) (expireAge_nextPassage s _) (hage _).trackers (by rw [(hage _).params])
  case loanLifeEnd => exact passageLaw_of_same h rfl rfl rfl rfl
  case slotTimerExpiry => exact slotTimerExpiry_passageLaw h _
  case alarmTimerExpiry => exact (alarmTimerExpiry_aside s _).passageLaw h
  case pulseTimerExpiry => exact (pulseTimerExpiry_aside s _).passageLaw h
  case testTimerExpiry => exact (testTimerExpiry_aside s _).passageLaw h
  case byteReceived => exact passageLaw_carried.byteReceived h _ _
  case gapTimerExpiry =>
    dsimp only [execGapTimerExpiry, gapTimerExpiry]
    split
    · exact passageLaw_carried.discard h
    · exact h
  case silenceTimerExpiry => exact silenceTimerExpiry_passageLaw h
  case frameLeftLine => exact passageLaw_carried.frameLeftLine h
  all_goals exact passageLaw_carried.receive h _

/-- Settles O56: a step is a command of the queue, an expiry that is due, or a millisecond that passes. -/
theorem everyStepKeepsPassageTable : Obligations.EveryStepKeepsPassageTable := by
  intro s t h hx
  unfold step at hx
  split at hx
  next c rest _ => exact exec_passageLaw c (s := { s with pending := rest }) (passageLaw_of_same h rfl rfl rfl rfl) hx
  next =>
    split at hx
    · exact exec_passageLaw _ h hx
    · obtain rfl := Host.Outcome.next.inj hx
      exact passageLaw_of_same h rfl rfl rfl rfl

end Sys2Proof.Machine
end

section
/-! SUPPORT. The sighting table and the loan list within their bounds (R66 to R68, R77, R105, R106). -/

namespace Sys2Proof.Machine

/-! ### A merged entry (R66, R68, R72) -/

theorem trimmedStrength_bounds (base : Nat) (trim : Int) : Within 1 79 (trimmedStrength base trim) := by
  have := trimmedStrength_cast base trim
  constructor <;> omega

theorem antennaMax_le {h : List HistoryRecord} {m : Nat} (hh : ∀ r ∈ h, r.strength ≤ m) (p : HistoryRecord → Bool)
    (a : Antenna) : antennaMax h p a ≤ m := by
  rcases antennaMax_attained h p a with h0 | ⟨x, hx, -, -, heq⟩
  · rw [h0]
    exact Nat.zero_le m
  · exact heq ▸ hh x hx

theorem baselineOf_ok {h : List HistoryRecord} (hh : ∀ r ∈ h, r.strength ≤ 79) :
    (SightState.resident (baselineOf h)).baselineOk = true := by
  simp only [SightState.baselineOk, Vector.all_eq_true, decide_eq_true_eq]
  intro i hi
  have hget := baselineOf_getElem h ⟨i, hi⟩
  rw [Fin.getElem_fin] at hget
  rw [hget]
  exact antennaMax_le hh _ _

section Entry
variable {e : Sighting} {r : Read} {n : Nat}

theorem newSighting_lawful (hn : Within 1 79 n) : (newSighting r n).lawful :=
  ⟨Nat.le_refl 1, Nat.le_add_left 1 11, fun x hx => by
    obtain rfl := List.mem_singleton.mp hx
    exact ⟨hn.1, hn.2⟩, rfl⟩

theorem update_lawful (he : e.lawful) (hn : Within 1 79 n) : (e.update r n).lawful := by
  obtain ⟨hlow, hhigh, hstrength, hbase⟩ := he
  have hhigh : e.history.length ≤ 12 := hhigh
  have hlength : (e.update r n).history.length = e.history.length + 1 - (e.history.length + 1 - 12) := by
    simp [Sighting.update, pushHistory, Config.maxHistory]
  refine ⟨by omega, ?_, fun x hx => ?_, hbase⟩
  · change _ ≤ 12
    omega
  · rcases List.mem_append.mp (List.mem_of_mem_drop hx) with hx | hx
    · exact hstrength x hx
    · obtain rfl := List.mem_singleton.mp hx
      exact ⟨hn.1, hn.2⟩

theorem finishMerge_lawful (he : e.lawful) (p : Params) : (e.finishMerge p r n).lawful := by
  obtain ⟨hlow, hhigh, hstrength, hbase⟩ := he
  have hbaseline := baselineOf_ok fun x hx => (hstrength x hx).2
  have hwake : (e.wake p r n).state.baselineOk = true ∧ (e.wake p r n).history = e.history := by
    unfold Sighting.wake
    split
    · split
      · exact ⟨rfl, rfl⟩
      · exact ⟨hbase, rfl⟩
    · exact ⟨hbase, rfl⟩
  have hrest : ((e.wake p r n).rest p r).state.baselineOk = true ∧ ((e.wake p r n).rest p r).history = e.history := by
    unfold Sighting.rest
    split
    · split
      · rw [hwake.2]
        exact ⟨hbaseline, rfl⟩
      · exact hwake
    · exact hwake
  have hhistory : (e.finishMerge p r n).history = e.history := hrest.2
  exact ⟨hhistory ▸ hlow, hhistory ▸ hhigh, fun x hx => hstrength x (hhistory ▸ hx), hrest.1⟩

end Entry

theorem mergedEntry_lawful {s : State} (hs : s.sightingLaw) (r : Read) : (s.mergedEntry r).lawful := by
  have hstrength : Within 1 79 (s.strength r) := trimmedStrength_bounds _ _
  unfold State.mergedEntry
  split
  next e he => exact finishMerge_lawful (update_lawful (hs.2.2 e (List.mem_of_find?_eq_some he)) hstrength) _
  next => exact finishMerge_lawful (newSighting_lawful hstrength) _

/-! ### The table (R67, R77) -/

theorem mem_insertSighting {e x : Sighting} {l : List Sighting} (h : x ∈ insertSighting e l) : x = e ∨ x ∈ l := by
  induction l with
  | nil => exact .inl (List.mem_singleton.mp h)
  | cons y ys ih =>
    unfold insertSighting at h
    split at h
    · exact List.mem_cons.mp h
    · split at h
      · exact (List.mem_cons.mp h).imp_right fun h => List.mem_cons_of_mem _ h
      · rcases List.mem_cons.mp h with rfl | h
        · exact .inr List.mem_cons_self
        · exact (ih h).imp_right fun h => List.mem_cons_of_mem _ h

theorem insertSighting_sorted (e : Sighting) {l : List Sighting} (h : l.Pairwise fun a b => a.item.toNat < b.item.toNat) :
    (insertSighting e l).Pairwise fun a b => a.item.toNat < b.item.toNat := by
  induction l with
  | nil => exact List.pairwise_singleton _ e
  | cons y ys ih =>
    obtain ⟨hy, hys⟩ := List.pairwise_cons.mp h
    unfold insertSighting
    split
    next hlt =>
      refine List.pairwise_cons.mpr ⟨fun x hx => ?_, h⟩
      rcases List.mem_cons.mp hx with rfl | hx
      · exact hlt
      · exact hlt.trans (hy x hx)
    next hlt =>
      split
      next heq => exact List.pairwise_cons.mpr ⟨fun x hx => heq ▸ hy x hx, hys⟩
      next hne =>
        refine List.pairwise_cons.mpr ⟨fun x hx => ?_, ih hys⟩
        rcases mem_insertSighting hx with rfl | hx
        · exact lt_of_le_of_ne (Nat.le_of_not_lt hlt) fun h => hne (BitVec.eq_of_toNat_eq h.symm)
        · exact hy x hx

/-- An entry takes the place of the one with its item number, or one place more. -/
theorem insertSighting_length (e : Sighting) (l : List Sighting) :
    (insertSighting e l).length ≤ l.length + 1 ∧ ((∃ x ∈ l, x.item = e.item) →
      (l.Pairwise fun a b => a.item.toNat < b.item.toNat) → (insertSighting e l).length = l.length) := by
  induction l with
  | nil => exact ⟨Nat.le_refl 1, fun ⟨x, hx, _⟩ => absurd hx (List.not_mem_nil)⟩
  | cons y ys ih =>
    obtain ⟨hle, heq⟩ := ih
    unfold insertSighting
    split
    next hlt =>
      refine ⟨Nat.le_refl _, fun ⟨x, hx, hitem⟩ hsorted => ?_⟩
      rcases List.mem_cons.mp hx with rfl | hx
      · rw [hitem] at hlt
        exact absurd hlt (Nat.lt_irrefl _)
      · have := (List.pairwise_cons.mp hsorted).1 x hx
        rw [hitem] at this
        omega
    next hlt =>
      split
      next => exact ⟨Nat.le_succ _, fun _ _ => rfl⟩
      next hne =>
        refine ⟨Nat.succ_le_succ hle, fun ⟨x, hx, hitem⟩ hsorted => ?_⟩
        rcases List.mem_cons.mp hx with rfl | hx
        · exact absurd hitem.symm hne
        · rw [List.length_cons, List.length_cons, heq ⟨x, hx, hitem⟩ (List.pairwise_cons.mp hsorted).2]

theorem evictionChoice_mem {l : List Sighting} (hne : l ≠ []) : ∃ v ∈ l, evictionChoice l = some v := by
  cases l with
  | nil => contradiction
  | cons x xs =>
    refine ⟨_, ?_, rfl⟩
    refine List.foldlRecOn (motive := fun v => v ∈ x :: xs) _ _ List.mem_cons_self fun v hv y hy => ?_
    split
    · exact List.mem_cons_of_mem _ hy
    · exact hv

section Table
variable {s t : State}

/-- The law depends on the table alone. -/
theorem sightingLaw_of_same (h : s.sightingLaw) (hsame : t.sightings = s.sightings) : t.sightingLaw := by
  unfold State.sightingLaw
  rw [hsame]
  exact h

theorem sightingLaw_of_filter (h : s.sightingLaw) {p : Sighting → Bool} (hsame : t.sightings = s.sightings.filter p) :
    t.sightingLaw := by
  obtain ⟨hlength, hsorted, hlawful⟩ := h
  unfold State.sightingLaw
  rw [hsame]
  exact ⟨(List.length_filter_le _ _).trans hlength, hsorted.filter _, fun e he => hlawful e (List.mem_of_mem_filter he)⟩

theorem claim_sightingLaw (h : s.sightingLaw) (i : ItemNo) (n : Nat) (d : Direction) : (s.claim i n d).sightingLaw := by
  obtain ⟨hlength, hsorted, hlawful⟩ := h
  unfold State.claim
  split
  · refine ⟨by simpa using hlength, ?_, fun e he => ?_⟩
    · refine List.pairwise_map.mpr (hsorted.imp fun hlt => ?_)
      split <;> split <;> exact hlt
    · obtain ⟨x, hx, rfl⟩ := List.mem_map.mp he
      obtain ⟨hlow, hhigh, hstrength, hbase⟩ := hlawful x hx
      split
      · exact ⟨hlow, hhigh, hstrength, rfl⟩
      · exact ⟨hlow, hhigh, hstrength, hbase⟩
  · exact ⟨hlength, hsorted, hlawful⟩

/-- A table evicted from has room (R77). -/
theorem evictIfFull_sightings (h : s.sightingLaw) :
    s.evictIfFull.sightings.length < 128 ∧ ∃ p, s.evictIfFull.sightings = s.sightings.filter p := by
  unfold State.evictIfFull
  split
  next hroom => exact ⟨hroom, fun _ => true, (List.filter_eq_self.mpr fun _ _ => rfl).symm⟩
  next hfull =>
    have hle : s.sightings.length ≤ 128 := h.1
    have hge : 128 ≤ s.sightings.length := Nat.le_of_not_lt hfull
    obtain ⟨v, hv, hchoice⟩ := evictionChoice_mem (l := s.sightings) (List.ne_nil_of_length_pos (by omega))
    rw [hchoice]
    refine ⟨lt_of_lt_of_le ?_ hle, _, rfl⟩
    exact List.length_filter_lt_length_iff_exists.mpr ⟨v, hv, by simp⟩

theorem mergeRead_sightingLaw (h : s.sightingLaw) (r : Read) : (s.mergeRead r).sightingLaw := by
  have hentry := mergedEntry_lawful h r
  have hinsert {u : State} (hu : u.sightingLaw) (hlength : (insertSighting (s.mergedEntry r) u.sightings).length ≤ 128) :
      ({ u with sightings := insertSighting (s.mergedEntry r) u.sightings } : State).sightingLaw := by
    refine ⟨hlength, insertSighting_sorted _ hu.2.1, fun e he => ?_⟩
    rcases mem_insertSighting he with rfl | he
    · exact hentry
    · exact hu.2.2 e he
  unfold State.mergeRead
  dsimp only
  split
  next hknown =>
    obtain ⟨e, he⟩ := Option.isSome_iff_exists.mp hknown
    have hitem : e.item = r.item := by simpa using List.find?_some (p := fun x : Sighting => x.item == r.item) he
    refine hinsert h ?_
    rw [(insertSighting_length _ _).2 ⟨e, List.mem_of_find?_eq_some he, by rw [hitem, mergedEntry_item]⟩ h.2.1]
    exact h.1
  next =>
    obtain ⟨hroom, p, hp⟩ := evictIfFull_sightings h
    exact hinsert (sightingLaw_of_filter h hp) ((insertSighting_length _ _).1.trans hroom)

theorem expireAge_sightingLaw (h : s.sightingLaw) (i : ItemNo) : (s.expireAge i).sightingLaw := by
  unfold State.expireAge
  split
  · split
    · exact sightingLaw_of_filter h rfl
    · exact h
  · exact h

/-! ### Loans (R105, R106) -/

theorem loanLaw_of_filter (h : s.loanLaw) {p : Loan → Bool} (hsame : t.loans = s.loans.filter p) : t.loanLaw := by
  obtain ⟨hlength, hdistinct⟩ := h
  unfold State.loanLaw
  rw [hsame]
  exact ⟨(List.length_filter_le _ _).trans hlength, hdistinct.sublist (List.filter_sublist.map _)⟩

theorem loanLaw_of_same (h : s.loanLaw) (hsame : t.loans = s.loans) : t.loanLaw := by
  unfold State.loanLaw
  rw [hsame]
  exact h

theorem addLoan_loanLaw (h : s.loanLaw) (i : ItemNo) : (s.addLoan i).loanLaw := by
  obtain ⟨hlength, hdistinct⟩ := h
  have hlength : s.loans.length ≤ 512 := hlength
  have happend {l : List Loan} (hl : l.Sublist s.loans) (hi : ∀ x ∈ l, x.item ≠ i) (e : Loan) (he : e.item = i) :
      ((l ++ [e]).map Loan.item).Nodup := by
    rw [List.map_append, List.nodup_append]
    refine ⟨hdistinct.sublist (hl.map _), List.nodup_singleton _, fun a ha b hb => ?_⟩
    obtain ⟨x, hx, rfl⟩ := List.mem_map.mp ha
    obtain rfl := List.mem_singleton.mp hb
    exact he ▸ hi x hx
  have habsent (hloan : ¬s.onLoan i = true) (x : Loan) (hx : x ∈ s.loans) : x.item ≠ i := fun hitem =>
    hloan (List.any_eq_true.mpr ⟨x, hx, by simp [hitem]⟩)
  unfold State.addLoan
  dsimp only
  split
  next hloan =>
    obtain ⟨x, hx, hitem⟩ := List.any_eq_true.mp hloan
    have hless : (dropLoan s.loans i).length < s.loans.length :=
      List.length_filter_lt_length_iff_exists.mpr ⟨x, hx, by simpa using hitem⟩
    refine ⟨?_, happend List.filter_sublist (fun x hx => by simpa using List.of_mem_filter hx) _ rfl⟩
    rw [List.length_append, List.length_singleton]
    change _ ≤ 512
    omega
  next hloan =>
    split
    next hroom =>
      refine ⟨?_, happend (List.Sublist.refl _) (habsent hloan) _ rfl⟩
      rw [List.length_append, List.length_singleton]
      exact hroom
    next =>
      refine ⟨?_, happend (List.drop_sublist 1 _) (fun x hx => habsent hloan x (List.mem_of_mem_drop hx)) _ rfl⟩
      change (List.drop 1 s.loans ++ [_]).length ≤ 512
      rw [List.length_append, List.length_singleton, List.length_drop]
      omega

theorem dropLoans_loanLaw (h : s.loanLaw) (l : List ItemNo) : ({ s with loans := l.foldl dropLoan s.loans } : State).loanLaw := by
  induction l generalizing s with
  | nil => exact h
  | cons i l ih => exact ih (s := { s with loans := dropLoan s.loans i }) (loanLaw_of_filter h rfl)

end Table

end Sys2Proof.Machine
end

section
/-! SUPPORT. What the events do to counters and sightings: no counter falls and none passes its maximum (R25, R51, R167, R187), and
the sighting table keeps its law. -/

namespace Sys2Proof.Machine

/-! ### One counter -/

/-- A counter that rises, and stays at or below a maximum that it has not passed. -/
structure Rises (max x y : Nat) : Prop where
  bounds : x ≤ max → x ≤ y ∧ y ≤ max

theorem Rises.refl (max x : Nat) : Rises max x x := ⟨fun h => ⟨Nat.le_refl x, h⟩⟩

theorem Rises.trans {max x y z : Nat} (h : Rises max x y) (k : Rises max y z) : Rises max x z := by
  refine ⟨fun hx => ?_⟩
  obtain ⟨hxy, hy⟩ := h.bounds hx
  obtain ⟨hyz, hz⟩ := k.bounds hy
  exact ⟨hxy.trans hyz, hz⟩

theorem rises_satAdd (max x n : Nat) : Rises max x (satAdd max x n) :=
  ⟨fun h => ⟨Nat.le_min.mpr ⟨Nat.le_add_right x n, h⟩, Nat.min_le_right _ _⟩⟩

theorem rises_bump (x : Nat) : Rises Config.max16 x (bump x) := rises_satAdd _ x 1

/-! ### The counters of an antenna, of a lane and of the device -/

structure LinkCounters.RisesTo (a b : LinkCounters) : Prop where
  rounds : Rises Config.max16 a.rounds b.rounds
  singles : Rises Config.max16 a.singles b.singles
  collisions : Rises Config.max16 a.collisions b.collisions
  corrupt : Rises Config.max16 a.corrupt b.corrupt
  noise : Rises Config.max16 a.noise b.noise
  foreign : Rises Config.max16 a.foreign b.foreign
  holds : Rises Config.max16 a.holds b.holds
  abandoned : Rises Config.max16 a.abandoned b.abandoned
  fieldFaults : Rises Config.max16 a.fieldFaults b.fieldFaults

structure DeviceCounters.RisesTo (a b : DeviceCounters) : Prop where
  evictions : Rises Config.max16 a.evictions b.evictions
  unattributed : Rises Config.max16 a.unattributed b.unattributed
  lateAnswers : Rises Config.max16 a.lateAnswers b.lateAnswers
  queryTimeouts : Rises Config.max16 a.queryTimeouts b.queryTimeouts
  forcedCompletions : Rises Config.max16 a.forcedCompletions b.forcedCompletions
  loanEvictions : Rises Config.max16 a.loanEvictions b.loanEvictions
  framesRejected : Rises Config.max16 a.framesRejected b.framesRejected
  overruns : Rises Config.max16 a.overruns b.overruns
  noticesLost : Rises Config.max16 a.noticesLost b.noticesLost
  reportsLost : Rises Config.max16 a.reportsLost b.reportsLost

structure LaneCounts.RisesTo (a b : LaneCounts) : Prop where
  personsOut : Rises Config.max32 a.personsOut b.personsOut
  personsIn : Rises Config.max32 a.personsIn b.personsIn
  passagesOut : Rises Config.max32 a.passagesOut b.passagesOut
  passagesIn : Rises Config.max32 a.passagesIn b.passagesIn
  passagesNone : Rises Config.max32 a.passagesNone b.passagesNone
  passagesUnknown : Rises Config.max32 a.passagesUnknown b.passagesUnknown
  withAlarm : Rises Config.max32 a.withAlarm b.withAlarm

theorem LinkCounters.RisesTo.refl (a : LinkCounters) : a.RisesTo a :=
  ⟨.refl .., .refl .., .refl .., .refl .., .refl .., .refl .., .refl .., .refl .., .refl ..⟩

theorem DeviceCounters.RisesTo.refl (a : DeviceCounters) : a.RisesTo a :=
  ⟨.refl .., .refl .., .refl .., .refl .., .refl .., .refl .., .refl .., .refl .., .refl .., .refl ..⟩

theorem LaneCounts.RisesTo.refl (a : LaneCounts) : a.RisesTo a :=
  ⟨.refl .., .refl .., .refl .., .refl .., .refl .., .refl .., .refl ..⟩

theorem LinkCounters.RisesTo.trans {a b c : LinkCounters} (h : a.RisesTo b) (k : b.RisesTo c) : a.RisesTo c :=
  ⟨h.rounds.trans k.rounds, h.singles.trans k.singles, h.collisions.trans k.collisions, h.corrupt.trans k.corrupt,
    h.noise.trans k.noise, h.foreign.trans k.foreign, h.holds.trans k.holds, h.abandoned.trans k.abandoned,
    h.fieldFaults.trans k.fieldFaults⟩

theorem DeviceCounters.RisesTo.trans {a b c : DeviceCounters} (h : a.RisesTo b) (k : b.RisesTo c) : a.RisesTo c :=
  ⟨h.evictions.trans k.evictions, h.unattributed.trans k.unattributed, h.lateAnswers.trans k.lateAnswers,
    h.queryTimeouts.trans k.queryTimeouts, h.forcedCompletions.trans k.forcedCompletions,
    h.loanEvictions.trans k.loanEvictions, h.framesRejected.trans k.framesRejected, h.overruns.trans k.overruns,
    h.noticesLost.trans k.noticesLost, h.reportsLost.trans k.reportsLost⟩

theorem LaneCounts.RisesTo.trans {a b c : LaneCounts} (h : a.RisesTo b) (k : b.RisesTo c) : a.RisesTo c :=
  ⟨h.personsOut.trans k.personsOut, h.personsIn.trans k.personsIn, h.passagesOut.trans k.passagesOut,
    h.passagesIn.trans k.passagesIn, h.passagesNone.trans k.passagesNone, h.passagesUnknown.trans k.passagesUnknown,
    h.withAlarm.trans k.withAlarm⟩

theorem LinkCounters.RisesTo.lawful {a b : LinkCounters} (h : a.RisesTo b) (ha : a.lawful) : a.atMost b ∧ b.lawful := by
  obtain ⟨h1, h2, h3, h4, h5, h6, h7, h8, h9⟩ := ha
  refine ⟨?_, ?_⟩
  · exact ⟨(h.rounds.bounds h1).1, (h.singles.bounds h2).1, (h.collisions.bounds h3).1, (h.corrupt.bounds h4).1,
      (h.noise.bounds h5).1, (h.foreign.bounds h6).1, (h.holds.bounds h7).1, (h.abandoned.bounds h8).1,
      (h.fieldFaults.bounds h9).1⟩
  · exact ⟨(h.rounds.bounds h1).2, (h.singles.bounds h2).2, (h.collisions.bounds h3).2, (h.corrupt.bounds h4).2,
      (h.noise.bounds h5).2, (h.foreign.bounds h6).2, (h.holds.bounds h7).2, (h.abandoned.bounds h8).2,
      (h.fieldFaults.bounds h9).2⟩

theorem DeviceCounters.RisesTo.lawful {a b : DeviceCounters} (h : a.RisesTo b) (ha : a.lawful) : a.atMost b ∧ b.lawful := by
  obtain ⟨h1, h2, h3, h4, h5, h6, h7, h8, h9, h10⟩ := ha
  refine ⟨?_, ?_⟩
  · exact ⟨(h.evictions.bounds h1).1, (h.unattributed.bounds h2).1, (h.lateAnswers.bounds h3).1,
      (h.queryTimeouts.bounds h4).1, (h.forcedCompletions.bounds h5).1, (h.loanEvictions.bounds h6).1,
      (h.framesRejected.bounds h7).1, (h.overruns.bounds h8).1, (h.noticesLost.bounds h9).1, (h.reportsLost.bounds
      h10).1⟩
  · exact ⟨(h.evictions.bounds h1).2, (h.unattributed.bounds h2).2, (h.lateAnswers.bounds h3).2,
      (h.queryTimeouts.bounds h4).2, (h.forcedCompletions.bounds h5).2, (h.loanEvictions.bounds h6).2,
      (h.framesRejected.bounds h7).2, (h.overruns.bounds h8).2, (h.noticesLost.bounds h9).2, (h.reportsLost.bounds
      h10).2⟩

theorem LaneCounts.RisesTo.lawful {a b : LaneCounts} (h : a.RisesTo b) (ha : a.lawful) : a.atMost b ∧ b.lawful := by
  obtain ⟨h1, h2, h3, h4, h5, h6, h7⟩ := ha
  refine ⟨?_, ?_⟩
  · exact ⟨(h.personsOut.bounds h1).1, (h.personsIn.bounds h2).1, (h.passagesOut.bounds h3).1, (h.passagesIn.bounds
      h4).1, (h.passagesNone.bounds h5).1, (h.passagesUnknown.bounds h6).1, (h.withAlarm.bounds h7).1⟩
  · exact ⟨(h.personsOut.bounds h1).2, (h.personsIn.bounds h2).2, (h.passagesOut.bounds h3).2, (h.passagesIn.bounds
      h4).2, (h.passagesNone.bounds h5).2, (h.passagesUnknown.bounds h6).2, (h.withAlarm.bounds h7).2⟩

theorem countOutcome_rises (c : LinkCounters) (o : SlotOutcome) : c.RisesTo (c.countOutcome o) := by
  have hc := LinkCounters.RisesTo.refl c
  cases o with
  | empty => exact hc
  | noise => exact { hc with noise := rises_bump _ }
  | collision => exact { hc with collisions := rises_bump _ }
  | corrupt => exact { hc with corrupt := rises_bump _ }
  | single => exact { hc with singles := rises_bump _ }

theorem addClosed_rises (c : LaneCounts) (d : Direction) (persons : Nat) : c.RisesTo (c.addClosed d persons) := by
  have hc := LaneCounts.RisesTo.refl c
  cases d with
  | out => exact { hc with personsOut := rises_satAdd .., passagesOut := rises_satAdd .. }
  | in_ => exact { hc with personsIn := rises_satAdd .., passagesIn := rises_satAdd .. }
  | none_ => exact { hc with passagesNone := rises_satAdd .. }
  | unknown => exact { hc with passagesUnknown := rises_satAdd .. }

/-! ### What an event keeps -/

/-- The sighting table keeps its law, and no counter falls or passes its maximum. -/
structure Tallied (s t : State) : Prop where
  sightings : s.sightingLaw → t.sightingLaw
  link : ∀ a : Antenna, s.linkCounters[a].RisesTo t.linkCounters[a]
  device : s.device.RisesTo t.device
  counts : ∀ k : Lane, s.counts[k].RisesTo t.counts[k]

namespace Tallied
variable {s t u : State}

theorem refl (s : State) : Tallied s s := ⟨id, fun _ => .refl _, .refl _, fun _ => .refl _⟩

theorem trans (h : Tallied s t) (k : Tallied t u) : Tallied s u :=
  ⟨k.sightings ∘ h.sightings, fun a => (h.link a).trans (k.link a), h.device.trans k.device,
    fun j => (h.counts j).trans (k.counts j)⟩

/-- What neither counts nor touches the table. -/
theorem same (h : Tallied s t) (hsightings : u.sightings = t.sightings) (hlink : u.linkCounters = t.linkCounters)
    (hdevice : u.device = t.device) (hcounts : u.counts = t.counts) : Tallied s u :=
  ⟨fun hs => sightingLaw_of_same (h.sightings hs) hsightings, hlink ▸ h.link, hdevice ▸ h.device, hcounts ▸ h.counts⟩

theorem modLink (h : Tallied s t) (a : Antenna) {f : LinkCounters → LinkCounters} (hf : ∀ c : LinkCounters, c.RisesTo (f c)) :
    Tallied s (t.modLink a f) := by
  refine ⟨h.sightings, fun b => ?_, h.device, h.counts⟩
  rw [State.modLink_linkCounters, modAt_getElem]
  split
  next hab => exact (h.link b).trans (hab ▸ hf _)
  next => exact h.link b

theorem modCounts (h : Tallied s t) (k : Lane) {f : LaneCounts → LaneCounts} (hf : ∀ c : LaneCounts, c.RisesTo (f c)) :
    Tallied s (t.modCounts k f) := by
  refine ⟨h.sightings, h.link, h.device, fun j => ?_⟩
  rw [State.modCounts_counts, modAt_getElem]
  split
  next hkj => exact (h.counts j).trans (hkj ▸ hf _)
  next => exact h.counts j

theorem modDevice (h : Tallied s t) {f : DeviceCounters → DeviceCounters} (hf : t.device.RisesTo (f t.device)) :
    Tallied s (t.modDevice f) :=
  ⟨h.sightings, h.link, h.device.trans hf, h.counts⟩

theorem line (h : Tallied s t) (hf : LineFrame t u) : Tallied s u :=
  h.same hf.sightings hf.linkCounters hf.device hf.counts

/-! #### Transmitter (09) -/

theorem arbitrateTx (h : Tallied s t) : Tallied s t.arbitrateTx := by
  unfold State.arbitrateTx
  split
  · exact h
  · split
    · exact h.same rfl rfl rfl rfl
    · split
      · exact h.same rfl rfl rfl rfl
      · split <;> exact h.same rfl rfl rfl rfl

theorem queueNotice (h : Tallied s t) (b : Body) : Tallied s (t.queueNotice b) := by
  unfold State.queueNotice
  split
  · exact (h.same rfl rfl rfl rfl : Tallied s { t with notices := t.notices ++ [b] }).arbitrateTx
  · exact h.modDevice { DeviceCounters.RisesTo.refl _ with noticesLost := rises_bump _ }

theorem queueReport (h : Tallied s t) (b : Body) : Tallied s (t.queueReport b) := by
  unfold State.queueReport
  split
  · exact (h.same rfl rfl rfl rfl : Tallied s { t with reports := t.reports ++ [b] }).arbitrateTx
  · exact h.modDevice { DeviceCounters.RisesTo.refl _ with reportsLost := rises_bump _ }

theorem placeReply (h : Tallied s t) (b : Body) : Tallied s (t.placeReply b) :=
      (h.same rfl rfl rfl rfl : Tallied s { t with reply := some b }).arbitrateTx

/-! #### Radio (02, 03) -/

theorem openSlot (h : Tallied s t) (r : Round) : Tallied s (t.openSlot r) := by
  unfold State.openSlot
  split
  · split <;> exact h.same rfl rfl rfl rfl
  · refine Tallied.modLink ?_ _ fun c => { LinkCounters.RisesTo.refl c with holds := rises_bump _ }
    exact h.same rfl rfl rfl rfl

theorem readRemoved (h : Tallied s t) : Tallied s t.readRemoved := by
  unfold State.readRemoved
  split
  · exact h.openSlot _
  · exact h

theorem closeFrame (h : Tallied s t) (r : Round) : Tallied s (t.closeFrame r) := by
  unfold State.closeFrame
  dsimp only
  split
  · exact h.same rfl rfl rfl rfl
  · split
    · exact h.same rfl rfl rfl rfl
    · exact h.openSlot _

theorem countSlot (h : Tallied s t) (r : Round) (o : SlotOutcome) (amp : BitVec 12) : Tallied s (t.countSlot r o amp) := by
  have hcounted : Tallied s (t.modLink r.antenna fun c => c.countOutcome o) := h.modLink _ fun c => countOutcome_rises c o
  cases o with
  | single x =>
    unfold State.countSlot State.takeSingle
    dsimp only
    split
    · exact hcounted.same rfl rfl rfl rfl
    · have hforeign := hcounted.modLink r.antenna (f := fun c => { c with foreign := bump c.foreign })
        fun c => { LinkCounters.RisesTo.refl c with foreign := rises_bump _ }
      exact hforeign.same rfl rfl rfl rfl
  | empty | collision | noise | corrupt => exact hcounted

theorem choose (h : Tallied s t) : Tallied s t.choose := by
  unfold State.choose
  split
  · split
    next a label _ =>
      have hstart {v : State} (hv : Tallied s v) : Tallied s (v.startRound a label) := by
        refine Tallied.same (t := ({ v with engine := .fieldSettle, field := some a } : State).modLink a
          fun c => { c with rounds := bump c.rounds }) ?_ rfl rfl rfl rfl
        refine Tallied.modLink ?_ _ fun c => { LinkCounters.RisesTo.refl c with rounds := rises_bump _ }
        exact hv.same rfl rfl rfl rfl
      cases label <;> exact hstart (h.same rfl rfl rfl rfl)
    · exact h
  · exact h

theorem endEvent (h : Tallied s t) (s0 : State) : Tallied s (t.endEvent s0) := by
  unfold State.endEvent
  split
  · exact h.choose.line (recomputeLines_frame _)
  · exact h.line (recomputeLines_frame _)

/-! #### Verdicts and questions (06, 07) -/

theorem passageAlarm (h : Tallied s t) (n : Nat) (reason : Reason) (item : Option ItemNo) :
    Tallied s (t.passageAlarm n reason item) := by
  have hfirst (p : Passage) : Tallied s (t.firstAlarm p reason item) := by
    have hcounted := (h.same rfl rfl rfl rfl : Tallied s (t.modPassage p.number fun q =>
      { q with judging := q.judging.map fun j => { j with mark := true } })).modCounts p.lane
        (f := fun c => { c with withAlarm := raise c.withAlarm 1 })
        fun c => { LaneCounts.RisesTo.refl c with withAlarm := rises_satAdd .. }
    unfold State.firstAlarm
    dsimp only
    split
    · exact hcounted
    · exact hcounted.queueNotice _
  unfold State.passageAlarm
  split
  · exact h
  next p _ =>
    have hmarked : Tallied s (if (p.judging.map (·.mark)).getD false then t else t.firstAlarm p reason item) := by
      split
      · exact h
      · exact hfirst p
    dsimp only
    split
    · exact hmarked
    · exact hmarked.same rfl rfl rfl rfl

theorem giveVerdict (h : Tallied s t) (r : ItemRef) (v : Verdict) (reason : Reason) :
    Tallied s (t.giveVerdict r v reason) := by
  unfold State.giveVerdict
  split
  · exact h
  · split
    · exact h
    · dsimp only
      split
      · refine Tallied.passageAlarm ?_ _ _ _
        exact h.same rfl rfl rfl rfl
      · exact h.same rfl rfl rfl rfl

theorem giveFallback (h : Tallied s t) (r : ItemRef) (reason : Reason) : Tallied s (t.giveFallback r reason) := by
  unfold State.giveFallback
  split
  · exact h.giveVerdict _ _ _
  · exact h

theorem completeIfDone (h : Tallied s t) (n : Nat) : Tallied s (t.completeIfDone n) := by
  unfold State.completeIfDone
  split
  · exact h
  · split
    · exact (h.queueReport _).same rfl rfl rfl rfl
    · exact h

theorem takeSlot (h : Tallied s t) (r : ItemRef) (j : SlotNo) : Tallied s (t.takeSlot r j) := by
  unfold State.takeSlot
  split
  · refine Tallied.arbitrateTx ?_
    exact h.same rfl rfl rfl rfl
  · exact h

theorem askAbout (h : Tallied s t) (r : ItemRef) : Tallied s (t.askAbout r) := by
  unfold State.askAbout
  split
  · exact h.takeSlot r _
  · exact h.same rfl rfl rfl rfl

theorem freeSlot (h : Tallied s t) (j : SlotNo) : Tallied s (t.freeSlot j) := by
  unfold State.freeSlot
  split
  · exact h.same rfl rfl rfl rfl
  · exact h

theorem handOn (fuel : Nat) (h : Tallied s t) : Tallied s (State.handOn fuel t) := by
  induction fuel generalizing t with
  | zero => exact h
  | succ fuel ih =>
    unfold State.handOn
    split
    · split
      · refine ih (Tallied.takeSlot ?_ _ _)
        exact h.same rfl rfl rfl rfl
      · exact h
    · exact h

theorem resolveSlot (h : Tallied s t) (j : SlotNo) (q : Question) (v : Verdict) (reason : Reason) :
    Tallied s (t.resolveSlot j q v reason) :=
  (((h.freeSlot j).giveVerdict _ _ _).completeIfDone _).handOn 4

theorem resolveSlots (l : List (SlotNo × Question)) (h : Tallied s t) : Tallied s (resolveSlots l t) := by
  induction l generalizing t with
  | nil => exact h
  | cons x l ih => exact ih (((h.freeSlot _).giveFallback _ _).completeIfDone _)

theorem resolveWaiting (l : List ItemRef) (h : Tallied s t) : Tallied s (resolveWaiting l t) := by
  induction l generalizing t with
  | nil => exact h
  | cons r l ih =>
    have hrest : Tallied s { t with waiting := l } := h.same rfl rfl rfl rfl
    exact ih ((hrest.giveFallback _ _).completeIfDone _)

theorem resolveStandalone (h : Tallied s t) : Tallied s t.resolveStandalone := (h.resolveSlots _).resolveWaiting _

theorem forceItems (n : Nat) (l : List Nat) (h : Tallied s t) : Tallied s (forceItems n l t) := by
  induction l generalizing t with
  | nil => exact h
  | cons i l ih =>
    unfold Machine.forceItems
    split
    · split
      · exact ih h
      · dsimp only
        refine ih (Tallied.giveFallback ?_ _ _)
        split
        · exact h.freeSlot _
        · exact h
    · exact ih h

theorem withdrawQuestions (h : Tallied s t) (n : Nat) : Tallied s (t.withdrawQuestions n) := by
  have hrest : Tallied s { t with waiting := t.waiting.filter fun r => r.passage != n } := h.same rfl rfl rfl rfl
  exact (hrest.forceItems _ _).handOn 4

/-! #### Judging and attribution (05, 06) -/

theorem judgeItem (h : Tallied s t) (d : Direction) (r : ItemRef) : Tallied s (t.judgeItem d r) := by
  unfold State.judgeItem
  split
  · exact h
  · split
    · split
      · exact h.giveVerdict _ _ _
      · exact h.askAbout r
    · exact h.giveVerdict _ _ _

theorem judgeItems (n : Nat) (d : Direction) (l : List Nat) (h : Tallied s t) : Tallied s (judgeItems n d l t) := by
  induction l generalizing t with
  | nil => exact h
  | cons i l ih => exact ih (h.judgeItem d _)

theorem judge (h : Tallied s t) (n : Nat) : Tallied s (t.judge n) := by
  unfold State.judge
  split
  · exact h
  · dsimp only
    refine Tallied.judgeItems _ _ _ ?_
    split
    · refine Tallied.passageAlarm ?_ _ _ _
      exact h.same rfl rfl rfl rfl
    · exact h.same rfl rfl rfl rfl

theorem claim (h : Tallied s t) (i : ItemNo) (n : Nat) (d : Direction) : Tallied s (t.claim i n d) := by
  refine ⟨fun hs => claim_sightingLaw (h.sightings hs) i n d, ?_, ?_, ?_⟩ <;> unfold State.claim <;> split
  · exact h.link
  · exact h.link
  · exact h.device
  · exact h.device
  · exact h.counts
  · exact h.counts

theorem claimAll (n : Nat) (d : Direction) (l : List Winner) (h : Tallied s t) (items : List Item) :
    Tallied s (claimAll n d l t items).1 := by
  induction l generalizing t items with
  | nil => exact h
  | cons w l ih =>
    unfold Machine.claimAll
    split
    · exact ih (h.claim _ _ _) _
    · exact ih h _

theorem attributed (h : Tallied s t) (n : Nat) : Tallied s (t.attribute n) := by
  unfold State.attribute
  split
  · exact h
  · refine Tallied.same (Tallied.claimAll n _ _ (h.modDevice ?_) []) rfl rfl rfl rfl
    exact { DeviceCounters.RisesTo.refl _ with unattributed := rises_satAdd .. }

theorem settleNow (h : Tallied s t) (n : Nat) : Tallied s (t.settleNow n) := ((h.attributed n).judge n).completeIfDone n

/-! #### Passages (01) -/

theorem closePassage (h : Tallied s t) (p : Passage) (d : Direction) (stamp : Time) :
    Tallied s (t.closePassage p d stamp) := by
  have hcounted (f : Passage → Passage) :
      Tallied s ((t.modPassage p.number f).modCounts p.lane fun c => c.addClosed d p.persons) :=
    (h.same rfl rfl rfl rfl : Tallied s (t.modPassage p.number f)).modCounts _ fun c => addClosed_rises c d _
  unfold State.closePassage
  dsimp only
  split
  · exact (hcounted _).settleNow _
  · exact hcounted _

theorem closeOpen (h : Tallied s t) (k : Lane) (d : Direction) (stamp : Time) : Tallied s (t.closeOpen k d stamp) := by
  unfold State.closeOpen
  split
  · exact h.closePassage _ _ _
  · exact h

theorem forceCompletion (h : Tallied s t) (p : Passage) : Tallied s (t.forceCompletion p) := by
  have hjudged : Tallied s (if p.phase = .settling then (t.attribute p.number).judge p.number else t) := by
    split
    · exact (h.attributed _).judge _
    · exact h
  have hforced := (hjudged.withdrawQuestions p.number).same (u := (((if p.phase = .settling then
    (t.attribute p.number).judge p.number else t).withdrawQuestions p.number).modPassage p.number fun q =>
      { q with flags := { q.flags with forced := true } })) rfl rfl rfl rfl
  have hcounted := hforced.modDevice (f := fun d => { d with forcedCompletions := bump d.forcedCompletions })
    { DeviceCounters.RisesTo.refl _ with forcedCompletions := rises_bump _ }
  unfold State.forceCompletion
  dsimp only
  split
  · exact (hcounted.queueReport _).same rfl rfl rfl rfl
  · exact hcounted

theorem makeRoom (h : Tallied s t) : Tallied s t.makeRoom := by
  unfold State.makeRoom
  split
  · exact h
  · split
    · exact h.forceCompletion _
    · exact h

theorem openPassage (h : Tallied s t) (k : Lane) (first : Option Beam) (persons : Nat) (opened : Time)
    (presence : Option Time) : Tallied s (t.openPassage k first persons opened presence) :=
  h.makeRoom.same rfl rfl rfl rfl

theorem setTracker (h : Tallied s t) (k : Lane) (x : Option Tracker) : Tallied s (t.setTracker k x) :=
  h.same rfl rfl rfl rfl

theorem modBeam (h : Tallied s t) (k : Lane) (x : Beam) (f : BeamState → BeamState) : Tallied s (t.modBeam k x f) :=
  h.same rfl rfl rfl rfl

theorem trackBreak (h : Tallied s t) (k : Lane) (x : Beam) (stamp : Time) : Tallied s (t.trackBreak k x stamp) := by
  unfold State.trackBreak
  split
  · exact (h.setTracker k _).openPassage _ _ _ _ _
  · split
    · exact h
    · exact h.setTracker k _
  · split
    · dsimp only
      split
      · split
        · exact h.same rfl rfl rfl rfl
        · exact h.setTracker k _
      · exact h.setTracker k _
    · exact h
  · exact h

theorem trackClear (h : Tallied s t) (k : Lane) (x : Beam) (stamp : Time) : Tallied s (t.trackClear k x stamp) := by
  unfold State.trackClear
  split
  · split
    · exact (h.setTracker k _).closeOpen _ _ _
    · exact h
  · split <;> exact h.setTracker k _
  · split
    · exact h
    · dsimp only
      split
      · exact (h.setTracker k _).closePassage _ _ _
      · exact h.setTracker k _
  · split
    · exact h.setTracker k _
    · exact h
  · exact h

theorem trackFault (h : Tallied s t) (k : Lane) (stamp : Time) : Tallied s (t.trackFault k stamp) := by
  unfold State.trackFault
  split
  · exact h
  · exact (h.setTracker k _).closeOpen _ _ _
  · exact h

theorem trackRecovery (h : Tallied s t) (k : Lane) (stamp : Time) : Tallied s (t.trackRecovery k stamp) := by
  unfold State.trackRecovery
  split
  · split
    · exact h
    · dsimp only
      split
      · split
        · exact (h.setTracker k _).closePassage _ _ _
        · exact h.setTracker k _
      · exact h.setTracker k _
  · exact h

theorem issueBreak (h : Tallied s t) (k : Lane) (x : Beam) (stamp : Time) : Tallied s (t.issueBreak k x stamp) :=
      (h.modBeam k x _).trackBreak k x stamp

theorem issueClear (h : Tallied s t) (k : Lane) (x : Beam) (stamp : Time) : Tallied s (t.issueClear k x stamp) := by
  have hclear (f : BeamState → BeamState) : Tallied s ((t.modBeam k x f).trackClear k x stamp) :=
    (h.modBeam k x f).trackClear k x stamp
  unfold State.issueClear
  dsimp only
  split
  · exact (((hclear _).modBeam k x _).queueNotice _).trackRecovery k stamp
  · exact hclear _

/-! #### Reads (04) -/

theorem qualifyingRead (h : Tallied s t) (k : Lane) (time : Time) : Tallied s (t.qualifyingRead k time) := by
  unfold State.qualifyingRead
  dsimp only
  split
  · exact h.openPassage _ _ _ _ _
  · split
    · exact h.same rfl rfl rfl rfl
    · exact h

theorem readReported (h : Tallied s t) (r : Read) (strength : Nat) (state : SightState) :
    Tallied s (t.readReported r strength state) := by
  refine List.foldlRecOn (motive := Tallied s) _ _ h fun v hv k _ => ?_
  split
  · exact hv.qualifyingRead k _
  · exact hv

theorem mergeRead (h : Tallied s t) (r : Read) : Tallied s (t.mergeRead r) := by
  have hevicted : Tallied t t.evictIfFull → Tallied t (t.mergeRead r) := fun hevict => by
    refine ⟨fun hs => mergeRead_sightingLaw hs r, ?_, ?_, ?_⟩ <;> unfold State.mergeRead <;> dsimp only <;> split
    · exact (Tallied.refl t).link
    · exact hevict.link
    · exact (Tallied.refl t).device
    · exact hevict.device
    · exact (Tallied.refl t).counts
    · exact hevict.counts
  refine h.trans (hevicted ?_)
  unfold State.evictIfFull
  split
  · exact .refl t
  · split
    · refine Tallied.modDevice ?_ { DeviceCounters.RisesTo.refl _ with evictions := rises_bump _ }
      exact ⟨fun hs => sightingLaw_of_filter hs rfl, fun _ => .refl _, .refl _, fun _ => .refl _⟩
    · exact .refl t

theorem expireAge (h : Tallied s t) (i : ItemNo) : Tallied s (t.expireAge i) := by
  have hsame : (t.expireAge i).linkCounters = t.linkCounters ∧ (t.expireAge i).device = t.device ∧
      (t.expireAge i).counts = t.counts := by
    unfold State.expireAge
    split
    · split <;> exact ⟨rfl, rfl, rfl⟩
    · exact ⟨rfl, rfl, rfl⟩
  obtain ⟨hlink, hdevice, hcounts⟩ := hsame
  exact ⟨fun hs => expireAge_sightingLaw (h.sightings hs) i, hlink ▸ h.link, hdevice ▸ h.device, hcounts ▸ h.counts⟩

end Tallied

end Sys2Proof.Machine
end

section
/-! SUPPORT. Every command and every step keeps the tables within their bounds, and no counter falls but by its clear message or a
reset (R25, R26, R51, R66 to R68, R105, R167, R187). -/

namespace Sys2Proof.Machine

/-! ### Events of the gate and of time -/

section Events
variable (s : State)

theorem beamFilterExpiry_tallied (k : Lane) (x : Beam) : Tallied s (beamFilterExpiry k x s) := by
  unfold beamFilterExpiry
  split
  · split
    · dsimp only
      split
      · refine Tallied.endEvent ?_ s
        split
        · exact ((Tallied.refl s).modBeam k x _).issueBreak k x _
        · exact ((Tallied.refl s).modBeam k x _).issueClear k x _
      · exact (Tallied.refl s).modBeam k x _
    · exact .refl s
  · exact .refl s

theorem stuckTimerExpiry_tallied (k : Lane) (x : Beam) : Tallied s (stuckTimerExpiry k x s) := by
  unfold stuckTimerExpiry
  split
  · split
    · exact ((((Tallied.refl s).modBeam k x _).queueNotice _).trackFault k _).endEvent s
    · exact .refl s
  · exact .refl s

theorem presenceTimerExpiry_tallied (n : Nat) : Tallied s (presenceTimerExpiry n s) := by
  unfold presenceTimerExpiry
  split
  · split
    · split
      · exact ((Tallied.refl s).closePassage _ _ _).endEvent s
      · exact .refl s
    · exact .refl s
  · exact .refl s

theorem settleTimerExpiry_tallied (n : Nat) : Tallied s (settleTimerExpiry n s) := by
  unfold settleTimerExpiry
  split
  · split
    · exact ((Tallied.refl s).settleNow n).endEvent s
    · exact .refl s
  · exact .refl s

theorem readMerge_tallied : Tallied s (readMerge s) := by
  unfold readMerge
  split
  · exact .refl s
  next r rest _ =>
    have hremoved : Tallied s ({ s with intake := rest } : State).readRemoved :=
      Tallied.readRemoved ((Tallied.refl s).same rfl rfl rfl rfl)
    exact (((hremoved.mergeRead r).readReported r _ _).expireAge _).endEvent s

theorem slotReport_tallied (rep : SlotReport) : Tallied s (slotReport rep s) := by
  by_cases he : s.engine = .frame
  · cases hr : s.round with
    | none =>
      unfold slotReport
      rw [he, hr]
      exact .refl s
    | some r =>
      rw [slotReport_of_frame rep he hr]
      split
      · exact ((Tallied.refl s).countSlot r _ _).openSlot _
      · exact ((Tallied.refl s).countSlot r _ _).closeFrame _
  · rw [slotReport_of_not_frame s rep he]
    exact .refl s

theorem holdTimerExpiry_tallied : Tallied s (holdTimerExpiry s) := by
  have hcounted (r : Round) : Tallied s (s.modLink r.antenna fun c => { c with abandoned := bump c.abandoned }) :=
    (Tallied.refl s).modLink _ fun c => { LinkCounters.RisesTo.refl c with abandoned := rises_bump _ }
  unfold holdTimerExpiry
  split
  · split
    · exact (hcounted _).same rfl rfl rfl rfl
    · exact .refl s
  · exact .refl s

theorem fieldFault_tallied : Tallied s (fieldFault s) := by
  have hcounted (r : Round) : Tallied s (s.modLink r.antenna fun c => { c with fieldFaults := bump c.fieldFaults }) :=
    (Tallied.refl s).modLink _ fun c => { LinkCounters.RisesTo.refl c with fieldFaults := rises_bump _ }
  unfold fieldFault
  split
  · split
    · exact (hcounted _).same rfl rfl rfl rfl
    · exact .refl s
  · exact .refl s

theorem roundTimerExpiry_tallied : Tallied s (roundTimerExpiry s) := by
  unfold roundTimerExpiry
  split
  · split
    · exact (Tallied.refl s).same rfl rfl rfl rfl
    · exact .refl s
  · exact .refl s

theorem antennaFails_tallied {t : State} (h : Tallied s t) (a : Antenna) : Tallied s (t.antennaFails a) := by
  unfold State.antennaFails
  refine Tallied.queueNotice ?_ _
  exact h.same rfl rfl rfl rfl

theorem fieldSettleExpiry_tallied : Tallied s (fieldSettleExpiry s) := by
  unfold fieldSettleExpiry
  split
  · split
    · refine Tallied.line (Tallied.openSlot ?_ _) (recomputeLines_frame _)
      split
      · unfold State.trialSettled
        refine Tallied.queueNotice ?_ _
        exact (Tallied.refl s).same rfl rfl rfl rfl
      · exact .refl s
    · exact .refl s
  · exact .refl s

theorem fieldOffAck_tallied : Tallied s (fieldOffAck s) := by
  have hidle : Tallied s { s with engine := .idle, round := none, grant := none } :=
    (Tallied.refl s).same rfl rfl rfl rfl
  unfold fieldOffAck
  split
  · refine (Tallied.choose ?_).line (recomputeLines_frame _)
    split
    · unfold State.roundEnded
      split
      · split
        · exact hidle.same rfl rfl rfl rfl
        · exact antennaFails_tallied s hidle _
      · split
        · exact hidle.same rfl rfl rfl rfl
        · exact hidle
      · exact hidle
    · exact hidle
  · exact .refl s

theorem backgroundTimerExpiry_tallied : Tallied s (backgroundTimerExpiry s) := by
  unfold backgroundTimerExpiry
  split
  · exact Tallied.choose ((Tallied.refl s).same rfl rfl rfl rfl)
  · exact .refl s

theorem retryTimerExpiry_tallied (a : Antenna) : Tallied s (retryTimerExpiry a s) := by
  unfold retryTimerExpiry
  split
  · exact Tallied.choose ((Tallied.refl s).same rfl rfl rfl rfl)
  · exact .refl s

theorem slotTimerExpiry_tallied (j : SlotNo) : Tallied s (slotTimerExpiry j s) := by
  unfold slotTimerExpiry
  split
  · split
    · refine Tallied.line (Tallied.resolveSlot ((Tallied.refl s).modDevice ?_) j _ _ _) (recomputeLines_frame _)
      exact { DeviceCounters.RisesTo.refl _ with queryTimeouts := rises_bump _ }
    · exact .refl s
  · exact .refl s

theorem discardFrame_tallied : Tallied s s.discardFrame := by
  refine Tallied.modDevice ?_ { DeviceCounters.RisesTo.refl _ with framesRejected := rises_bump _ }
  exact (Tallied.refl s).same rfl rfl rfl rfl

theorem gapTimerExpiry_tallied : Tallied s (gapTimerExpiry s) := by
  unfold gapTimerExpiry
  split
  · exact discardFrame_tallied s
  · exact .refl s

theorem silenceTimerExpiry_tallied : Tallied s (silenceTimerExpiry s) := by
  unfold silenceTimerExpiry
  split
  · refine Tallied.line (Tallied.resolveStandalone ?_) (recomputeLines_frame _)
    exact (Tallied.refl s).same rfl rfl rfl rfl
  · exact .refl s

variable {s} {t : State}

/-- Of what counts, such an event touches the link counters alone; and those of no radio event it leaves as they are too. -/
theorem AsideFrame.tallied (hf : AsideFrame s t) (hlink : t.linkCounters = s.linkCounters) : Tallied s t :=
  (Tallied.refl s).same hf.sightings hlink hf.device hf.counts

end Events

theorem linkCounters_keyRawChange (s : State) (pressed : Bool) : (keyRawChange pressed s).linkCounters = s.linkCounters := by
  unfold keyRawChange
  split
  · rfl
  · split <;> rfl

theorem linkCounters_keyFilterExpiry (s : State) : (keyFilterExpiry s).linkCounters = s.linkCounters := by
  unfold keyFilterExpiry
  split
  · split
    · dsimp only
      split <;> rfl
    · rfl
  · rfl

theorem linkCounters_alarmTimerExpiry (s : State) (k : Lane) : (alarmTimerExpiry k s).linkCounters = s.linkCounters := by
  unfold alarmTimerExpiry
  split
  · dsimp only
    split <;> rfl
  · rfl

theorem linkCounters_pulseTimerExpiry (s : State) (l : OutLine) : (pulseTimerExpiry l s).linkCounters = s.linkCounters := by
  unfold pulseTimerExpiry
  split <;> rfl

theorem linkCounters_testTimerExpiry (s : State) (l : OutLine) : (testTimerExpiry l s).linkCounters = s.linkCounters := by
  unfold testTimerExpiry
  split <;> rfl

/-! ### Messages (10) -/

section Messages
variable {s t : State}

theorem Tallied.addLoan (h : Tallied s t) (i : ItemNo) : Tallied s (t.addLoan i) := by
  unfold State.addLoan
  dsimp only
  split
  · exact h.same rfl rfl rfl rfl
  · split
    · exact h.same rfl rfl rfl rfl
    · refine Tallied.modDevice ?_ { DeviceCounters.RisesTo.refl _ with loanEvictions := rises_bump _ }
      exact h.same rfl rfl rfl rfl

theorem Tallied.takeAnswer (h : Tallied s t) (slot : Nat) (item : ItemNo) (result : Nat) :
    Tallied s (t.takeAnswer slot item result) := by
  have hlate : Tallied s t.lateAnswer := h.modDevice { DeviceCounters.RisesTo.refl _ with lateAnswers := rises_bump _ }
  unfold State.takeAnswer
  split
  · exact hlate
  · split
    · exact (h.addLoan item).resolveSlot _ _ _ _
    · exact h.resolveSlot _ _ _ _
    · exact h.resolveSlot _ _ _ _
    · exact hlate

theorem Tallied.storePair (h : Tallied s t) (pair : Nat × Int) : Tallied s (t.storePair pair) := by
  have hput : Tallied s { t with params := t.params.put pair.1 (paramClamp pair.1 pair.2) } := h.same rfl rfl rfl rfl
  unfold State.storePair
  dsimp only
  split
  · split
    · exact hput
    · rw [lanesChanged_eq]
      refine Tallied.choose ?_
      have hframe := (lanesFold_part { t with params := t.params.put pair.1 (paramClamp pair.1 pair.2) } t.params.lanes
        allLanes_nodup { t with params := t.params.put pair.1 (paramClamp pair.1 pair.2) }).1
      have hturned := hput.same (u := allLanes.foldl (({ t with
        params := t.params.put pair.1 (paramClamp pair.1 pair.2) } : State).turnLane t.params.lanes)
          { t with params := t.params.put pair.1 (paramClamp pair.1 pair.2) })
        (by rw [hframe]) (by rw [hframe]) (by rw [hframe]) (by rw [hframe])
      unfold State.withdrawBeyondLanes
      split
      · split
        · exact hturned.same rfl rfl rfl rfl
        · exact hturned
      · exact hturned
  · exact Tallied.choose (hput.same rfl rfl rfl rfl)
  · exact hput.same rfl rfl rfl rfl
  · unfold State.silenceSet
    split
    · exact hput.same rfl rfl rfl rfl
    · split
      · exact hput.same rfl rfl rfl rfl
      · exact hput
  · exact hput

/-- A message taken, other than the two that clear. -/
theorem takeCommand_tallied {k : Kind} (hcounts : k ≠ .countsClear) (hstats : k ≠ .statsClear) (fields : List Byte)
    (s : State) : Tallied s (takeCommand k fields s).state := by
  have hs := Tallied.refl s
  cases k with
  | countsClear => exact absurd rfl hcounts
  | statsClear => exact absurd rfl hstats
  | set =>
    have hstored : Tallied s ((setPairs fields).foldl State.storePair s) :=
      List.foldlRecOn (motive := Tallied s) _ _ hs fun t ht pair _ => ht.storePair pair
    unfold takeCommand takeSet
    dsimp only
    split
    · exact hs
    · split
      · exact hs
      · exact hstored.endEvent s
  | loanAdd => exact List.foldlRecOn (motive := Tallied s) _ _ hs fun t ht i _ => ht.addLoan i
  | get | classRead | rateWrite | rateRead | routeRead | patternSet | acknowledge | lineTest =>
    dsimp only [takeCommand, takeGet, takeClassRead, takeRateWrite, takeRateRead, takeRouteRead, takePatternSet,
      takeAcknowledge, takeLineTest]
    split
    · exact hs.same rfl rfl rfl rfl
    · exact hs.same rfl rfl rfl rfl
  | classWrite | routeSet =>
    dsimp only [takeCommand, takeClassWrite, takeRouteSet]
    split
    · split
      · exact hs.same rfl rfl rfl rfl
      · exact hs.same rfl rfl rfl rfl
    · exact hs
  | statusReq | ownerSet | ownerRead | loanDrop | loanClear | answer | countsRead | statsRead | restart =>
    exact hs.same rfl rfl rfl rfl

theorem takeCountsClear_cases (fields : List Byte) (s : State) : ∃ v : Vector LaneCounts 4,
    (takeCountsClear fields s).state = { s with counts := v } ∧ ∀ k : Lane, v[k] = {} ∨ v[k] = s.counts[k] := by
  unfold takeCountsClear
  split
  · exact ⟨_, rfl, fun k => .inl (by simp)⟩
  · dsimp only
    split
    next hn =>
      refine ⟨_, rfl, fun k => ?_⟩
      rw [Fin.getElem_fin, Vector.getElem_set]
      split
      · exact .inl rfl
      · exact .inr rfl
    · exact ⟨s.counts, rfl, fun k => .inr rfl⟩

/-- No retained count falls but by COUNTS_CLEAR (R26). -/
theorem takeCommand_counts {k : Kind} (hk : k ≠ .countsClear) (fields : List Byte) (s : State) (j : Lane) :
    s.counts[j].RisesTo (takeCommand k fields s).state.counts[j] := by
  by_cases hstats : k = .statsClear
  · subst hstats
    exact .refl _
  · exact (takeCommand_tallied hk hstats fields s).counts j

/-- No link or device counter falls but by STATS_CLEAR (R187). -/
theorem takeCommand_stats {k : Kind} (hk : k ≠ .statsClear) (fields : List Byte) (s : State) :
    (∀ a : Antenna, s.linkCounters[a].RisesTo (takeCommand k fields s).state.linkCounters[a]) ∧
      s.device.RisesTo (takeCommand k fields s).state.device := by
  by_cases hcounts : k = .countsClear
  · subst hcounts
    obtain ⟨v, hv, -⟩ := takeCountsClear_cases fields s
    have hstate : (takeCommand .countsClear fields s).state = { s with counts := v } := hv
    rw [hstate]
    exact ⟨fun a => .refl _, .refl _⟩
  · have h := takeCommand_tallied hcounts hk fields s
    exact ⟨h.link, h.device⟩

theorem arrive_tallied (s : State) (body : Body) : Tallied s (s.arrive body) := by
  have hbuffered : Tallied s (if s.buffers.length < Config.maxBuffers then { s with buffers := s.buffers ++ [body] }
      else s.modDevice fun d => { d with overruns := bump d.overruns }) := by
    split
    · exact (Tallied.refl s).same rfl rfl rfl rfl
    · exact (Tallied.refl s).modDevice { DeviceCounters.RisesTo.refl _ with overruns := rises_bump _ }
  unfold State.arrive
  dsimp only
  split
  · exact hbuffered.same rfl rfl rfl rfl
  · refine Tallied.line ?_ (recomputeLines_frame _)
    exact hbuffered.same rfl rfl rfl rfl

end Messages

/-! ### The laws of the tables -/

/-- Sightings, loans and counters within their bounds. -/
def State.TablesLaw (s : State) : Prop := s.sightingLaw ∧ s.loanLaw ∧ s.counterLaw

section Laws
variable {s t : State}

theorem Tallied.counterLaw (h : Tallied s t) (hs : s.counterLaw) : t.counterLaw := by
  obtain ⟨hlink, hdevice, hcounts⟩ := hs
  exact ⟨fun a => ((h.link a).lawful (hlink a)).2, (h.device.lawful hdevice).2,
    fun k => ((h.counts k).lawful (hcounts k)).2⟩

theorem Tallied.tablesLaw (h : Tallied s t) (hloans : s.loanLaw → t.loanLaw) (hs : s.TablesLaw) : t.TablesLaw := by
  obtain ⟨hsightings, hl, hcounters⟩ := hs
  exact ⟨h.sightings hsightings, hloans hl, h.counterLaw hcounters⟩

/-- What counts and table do under an event that leaves the loans alone. -/
theorem Tallied.keeps (h : Tallied s t) (hloans : t.loans = s.loans) : Tallied s t ∧ (s.loanLaw → t.loanLaw) :=
  ⟨h, fun hl => loanLaw_of_same hl hloans⟩

theorem loanLaw_nil (h : t.loans = []) : t.loanLaw := by
  unfold State.loanLaw
  rw [h]
  exact ⟨Nat.zero_le _, List.nodup_nil⟩

theorem loans_storePair (s : State) (pair : Nat × Int) : (s.storePair pair).loans = s.loans := by
  unfold State.storePair
  dsimp only
  split
  · split
    · rfl
    · rw [lanesChanged_eq, (choose_frame _).loans, (withdrawBeyondLanes_frame _).loans,
        (lanesFold_part _ _ allLanes_nodup _).1]
  · exact (restartBackground_frame _).loans
  · rfl
  · unfold State.silenceSet
    split
    · rfl
    · split <;> rfl
  · rfl

theorem takeCommand_loanLaw (h : s.loanLaw) (k : Kind) (fields : List Byte) : (takeCommand k fields s).state.loanLaw := by
  cases k with
  | set =>
    unfold takeCommand takeSet
    dsimp only
    split
    · exact h
    · split
      · exact h
      · refine loanLaw_of_same h ((endEvent_aside _ _).loans.trans ?_)
        exact List.foldlRecOn (motive := fun t : State => t.loans = s.loans) _ _ rfl fun t ht pair _ =>
          (loans_storePair t pair).trans ht
  | loanAdd => exact List.foldlRecOn (motive := State.loanLaw) _ _ h fun t ht i _ => addLoan_loanLaw ht i
  | loanDrop => exact dropLoans_loanLaw h _
  | loanClear => exact loanLaw_nil rfl
  | get | classRead | rateWrite | rateRead | routeRead | patternSet | acknowledge | lineTest =>
    refine loanLaw_of_same h ?_
    dsimp only [takeCommand, takeGet, takeClassRead, takeRateWrite, takeRateRead, takeRouteRead, takePatternSet,
      takeAcknowledge, takeLineTest]
    split <;> rfl
  | classWrite | routeSet =>
    refine loanLaw_of_same h ?_
    dsimp only [takeCommand, takeClassWrite, takeRouteSet]
    split
    · split <;> rfl
    · rfl
  | countsClear =>
    obtain ⟨v, hv, -⟩ := takeCountsClear_cases fields s
    have hstate : (takeCommand .countsClear fields s).state = { s with counts := v } := hv
    rw [hstate]
    exact h
  | statusReq | ownerSet | ownerRead | answer | countsRead | statsRead | statsClear | restart => exact h

theorem freshLink_lawful : ∀ a : Antenna, (Vector.replicate 5 ({} : LinkCounters))[a].lawful := by decide

theorem takeCommand_tablesLaw (h : s.TablesLaw) (k : Kind) (fields : List Byte) :
    (takeCommand k fields s).state.TablesLaw := by
  obtain ⟨hsightings, hloans, hlink, hdevice, hcounts⟩ := h
  have hl := takeCommand_loanLaw hloans k fields
  by_cases hcc : k = .countsClear
  · subst hcc
    obtain ⟨v, hv, hcases⟩ := takeCountsClear_cases fields s
    have hstate : (takeCommand .countsClear fields s).state = { s with counts := v } := hv
    rw [hstate] at hl ⊢
    refine ⟨hsightings, hl, hlink, hdevice, fun k => ?_⟩
    dsimp only
    rcases hcases k with h0 | hsame
    · rw [h0]
      decide
    · rw [hsame]
      exact hcounts k
  · by_cases hsc : k = .statsClear
    · subst hsc
      obtain ⟨-, -, -, -, -, -, -, -, hnotices, hreports⟩ := hdevice
      refine ⟨hsightings, hl, fun a => ?_, ?_, hcounts⟩
      · exact freshLink_lawful a
      · exact ⟨Nat.zero_le _, Nat.zero_le _, Nat.zero_le _, Nat.zero_le _, Nat.zero_le _, Nat.zero_le _, Nat.zero_le _,
          Nat.zero_le _, hnotices, hreports⟩
    · exact (takeCommand_tallied hcc hsc fields s).tablesLaw (fun _ => hl) ⟨hsightings, hloans, hlink, hdevice, hcounts⟩

theorem takeAnswer_loanLaw (h : s.loanLaw) (slot : Nat) (item : ItemNo) (result : Nat) :
    (s.takeAnswer slot item result).loanLaw := by
  unfold State.takeAnswer
  split
  · exact h
  · split
    · exact loanLaw_of_same (addLoan_loanLaw h item) (resolveSlot_frame _ _ _ _ _).loans
    · exact loanLaw_of_same h (resolveSlot_frame _ _ _ _ _).loans
    · exact loanLaw_of_same h (resolveSlot_frame _ _ _ _ _).loans
    · exact h

/-- With its tables empty and its counters 0, what a reset leaves. -/
theorem powerUp_tablesLaw (s : State) (cause : RestartCause) (a b : Bool) : (s.powerUp cause a b).TablesLaw := by
  obtain ⟨-, -, -, -, -, -, hsightings, hloans, hcounters, -⟩ := resetMeetsLaws
  exact ⟨hsightings, hloans, hcounters⟩

theorem restartNow_tablesLaw (h : s.TablesLaw) : s.restartNow.TablesLaw := by
  obtain ⟨-, -, -, -, hcounts⟩ := h
  obtain ⟨-, -, -, -, -, -, hsightings, hloans, ⟨-, hdevice, -⟩, -⟩ := resetMeetsLaws
  exact ⟨hsightings, hloans, fun a => freshLink_lawful a, hdevice, hcounts⟩

theorem tablesLaw_carried : Carried State.TablesLaw where
  arrive {s} body h := (arrive_tallied s body).tablesLaw (fun hl => loanLaw_of_same hl (by
    unfold State.arrive
    dsimp only
    split <;> split <;> rfl)) h
  removed rest h := h
  reply {s} body h := ((Tallied.refl s).placeReply body).tablesLaw (fun hl => loanLaw_of_same hl (placeReply_frame _ _).loans) h
  command k fields h := takeCommand_tablesLaw h k fields
  answer {s} fields h := (((Tallied.refl s).takeAnswer _ _ _).line (recomputeLines_frame _)).tablesLaw
    (fun hl => takeAnswer_loanLaw hl _ _ _) h
  receiver rx gap h := h
  discard {s} h := (discardFrame_tallied s).tablesLaw id h
  sent h := h
  restart h := restartNow_tablesLaw h
  transmit {s} h := ((Tallied.refl s).arbitrateTx).tablesLaw (fun hl => loanLaw_of_same hl (arbitrateTx_frame _).loans) h

end Laws

/-! ### Every command, every step -/

/-- A command is an event of the gate or of time, a reset, an act of receiver or transmitter, or a message. -/
theorem exec_tallied (c : Instr) {s t : State} (hx : exec c s = .next t) :
    (Tallied s t ∧ (s.loanLaw → t.loanLaw)) ∨
    (∃ cause a b, t = s.powerUp cause a b ∧ (c = .powerOn a b ∨ c = .resetPin a b)) ∨
    (c = .frameLeftLine ∧ t = frameLeftLine s) ∨
    (∃ b stop, c = .byteReceived b stop ∧ t = byteReceived b stop s) ∨
    ∃ code fields, t = s.receive (code :: fields) ∧
      (c = .unknownKind code fields ∨ ∃ k : Kind, code = k.code ∧ c = k.command fields) := by
  have hs := Tallied.refl s
  cases c <;> obtain rfl := Host.Outcome.next.inj hx
  case powerOn => exact .inr (.inl ⟨_, _, _, rfl, .inl rfl⟩)
  case resetPin => exact .inr (.inl ⟨_, _, _, rfl, .inr rfl⟩)
  case frameLeftLine => exact .inr (.inr (.inl ⟨rfl, rfl⟩))
  case byteReceived => exact .inr (.inr (.inr (.inl ⟨_, _, rfl, rfl⟩)))
  case unknownKind => exact .inr (.inr (.inr (.inr ⟨_, _, rfl, .inl rfl⟩)))
  case beamRawChange => exact .inl ((hs.modBeam _ _ _).keeps rfl)
  case beamFilterExpiry => exact .inl ((beamFilterExpiry_tallied s _ _).keeps (beamFilterExpiry_frame _ _ s).loans)
  case stuckTimerExpiry => exact .inl ((stuckTimerExpiry_tallied s _ _).keeps (stuckTimerExpiry_frame _ _ s).loans)
  case keyRawChange =>
    have hf := keyRawChange_aside s
    exact .inl (((hf _).tallied (linkCounters_keyRawChange s _)).keeps (hf _).loans)
  case keyFilterExpiry =>
    have hf := keyFilterExpiry_aside s
    exact .inl ((hf.tallied (linkCounters_keyFilterExpiry s)).keeps hf.loans)
  case presenceTimerExpiry => exact .inl ((presenceTimerExpiry_tallied s _).keeps (presenceTimerExpiry_frame _ s).loans)
  case settleTimerExpiry => exact .inl ((settleTimerExpiry_tallied s _).keeps (settleTimerExpiry_frame _ s).loans)
  case fieldSettleExpiry => exact .inl ((fieldSettleExpiry_tallied s).keeps (fieldSettleExpiry_frame s).loans)
  case slotReport => exact .inl ((slotReport_tallied s _).keeps (slotReport_frame _ s).loans)
  case holdTimerExpiry => exact .inl ((holdTimerExpiry_tallied s).keeps (holdTimerExpiry_aside s).loans)
  case roundTimerExpiry => exact .inl ((roundTimerExpiry_tallied s).keeps (roundTimerExpiry_aside s).loans)
  case fieldFault => exact .inl ((fieldFault_tallied s).keeps (fieldFault_aside s).loans)
  case fieldOffAck => exact .inl ((fieldOffAck_tallied s).keeps (fieldOffAck_frame s).loans)
  case backgroundTimerExpiry => exact .inl ((backgroundTimerExpiry_tallied s).keeps (backgroundTimerExpiry_aside s).loans)
  case retryTimerExpiry => exact .inl ((retryTimerExpiry_tallied s _).keeps (retryTimerExpiry_aside s _).loans)
  case readMerge => exact .inl ((readMerge_tallied s).keeps (readMerge_frame s).loans)
  case ageExpiry => exact .inl ((hs.expireAge _).keeps (expireAge_frame s _).loans)
  case loanLifeEnd => exact .inl ⟨hs.same rfl rfl rfl rfl, fun hl => loanLaw_of_filter hl rfl⟩
  case slotTimerExpiry => exact .inl ((slotTimerExpiry_tallied s _).keeps (slotTimerExpiry_frame _ s).loans)
  case alarmTimerExpiry =>
    have hf := alarmTimerExpiry_aside s
    exact .inl (((hf _).tallied (linkCounters_alarmTimerExpiry s _)).keeps (hf _).loans)
  case pulseTimerExpiry =>
    have hf := pulseTimerExpiry_aside s
    exact .inl (((hf _).tallied (linkCounters_pulseTimerExpiry s _)).keeps (hf _).loans)
  case testTimerExpiry =>
    have hf := testTimerExpiry_aside s
    exact .inl (((hf _).tallied (linkCounters_testTimerExpiry s _)).keeps (hf _).loans)
  case gapTimerExpiry =>
    refine .inl ((gapTimerExpiry_tallied s).keeps ?_)
    unfold gapTimerExpiry
    split <;> rfl
  case silenceTimerExpiry =>
    refine .inl ((silenceTimerExpiry_tallied s).keeps ?_)
    unfold silenceTimerExpiry
    split
    · exact (resolveStandalone_frame _).loans
    · rfl
  case statusReq => exact .inr (.inr (.inr (.inr ⟨_, _, rfl, .inr ⟨.statusReq, rfl, rfl⟩⟩)))
  case set => exact .inr (.inr (.inr (.inr ⟨_, _, rfl, .inr ⟨.set, rfl, rfl⟩⟩)))
  case get => exact .inr (.inr (.inr (.inr ⟨_, _, rfl, .inr ⟨.get, rfl, rfl⟩⟩)))
  case classWrite => exact .inr (.inr (.inr (.inr ⟨_, _, rfl, .inr ⟨.classWrite, rfl, rfl⟩⟩)))
  case classRead => exact .inr (.inr (.inr (.inr ⟨_, _, rfl, .inr ⟨.classRead, rfl, rfl⟩⟩)))
  case rateWrite => exact .inr (.inr (.inr (.inr ⟨_, _, rfl, .inr ⟨.rateWrite, rfl, rfl⟩⟩)))
  case rateRead => exact .inr (.inr (.inr (.inr ⟨_, _, rfl, .inr ⟨.rateRead, rfl, rfl⟩⟩)))
  case ownerSet => exact .inr (.inr (.inr (.inr ⟨_, _, rfl, .inr ⟨.ownerSet, rfl, rfl⟩⟩)))
  case ownerRead => exact .inr (.inr (.inr (.inr ⟨_, _, rfl, .inr ⟨.ownerRead, rfl, rfl⟩⟩)))
  case routeSet => exact .inr (.inr (.inr (.inr ⟨_, _, rfl, .inr ⟨.routeSet, rfl, rfl⟩⟩)))
  case routeRead => exact .inr (.inr (.inr (.inr ⟨_, _, rfl, .inr ⟨.routeRead, rfl, rfl⟩⟩)))
  case patternSet => exact .inr (.inr (.inr (.inr ⟨_, _, rfl, .inr ⟨.patternSet, rfl, rfl⟩⟩)))
  case acknowledge => exact .inr (.inr (.inr (.inr ⟨_, _, rfl, .inr ⟨.acknowledge, rfl, rfl⟩⟩)))
  case lineTest => exact .inr (.inr (.inr (.inr ⟨_, _, rfl, .inr ⟨.lineTest, rfl, rfl⟩⟩)))
  case loanAdd => exact .inr (.inr (.inr (.inr ⟨_, _, rfl, .inr ⟨.loanAdd, rfl, rfl⟩⟩)))
  case loanDrop => exact .inr (.inr (.inr (.inr ⟨_, _, rfl, .inr ⟨.loanDrop, rfl, rfl⟩⟩)))
  case loanClear => exact .inr (.inr (.inr (.inr ⟨_, _, rfl, .inr ⟨.loanClear, rfl, rfl⟩⟩)))
  case answer => exact .inr (.inr (.inr (.inr ⟨_, _, rfl, .inr ⟨.answer, rfl, rfl⟩⟩)))
  case countsRead => exact .inr (.inr (.inr (.inr ⟨_, _, rfl, .inr ⟨.countsRead, rfl, rfl⟩⟩)))
  case countsClear => exact .inr (.inr (.inr (.inr ⟨_, _, rfl, .inr ⟨.countsClear, rfl, rfl⟩⟩)))
  case statsRead => exact .inr (.inr (.inr (.inr ⟨_, _, rfl, .inr ⟨.statsRead, rfl, rfl⟩⟩)))
  case statsClear => exact .inr (.inr (.inr (.inr ⟨_, _, rfl, .inr ⟨.statsClear, rfl, rfl⟩⟩)))
  case restart => exact .inr (.inr (.inr (.inr ⟨_, _, rfl, .inr ⟨.restart, rfl, rfl⟩⟩)))

theorem exec_tablesLaw (c : Instr) {s t : State} (h : s.TablesLaw) (hx : exec c s = .next t) : t.TablesLaw := by
  rcases exec_tallied c hx with ⟨hc, hloans⟩ | ⟨cause, a, b, rfl, -⟩ | ⟨-, rfl⟩ | ⟨b, stop, -, rfl⟩ | ⟨code, fields, rfl, -⟩
  · exact hc.tablesLaw hloans h
  · exact powerUp_tablesLaw s cause a b
  · exact tablesLaw_carried.frameLeftLine h
  · exact tablesLaw_carried.byteReceived h b stop
  · exact tablesLaw_carried.receive h _

/-- Settles O57: a step is a command of the queue, an expiry that is due, or a millisecond that passes. -/
theorem everyStepKeepsTables : Obligations.EveryStepKeepsTables := by
  intro s t hsightings hloans hcounters hx
  have h : s.TablesLaw := ⟨hsightings, hloans, hcounters⟩
  unfold step at hx
  split at hx
  next c rest _ => exact exec_tablesLaw c (s := { s with pending := rest }) h hx
  next =>
    split at hx
    · exact exec_tablesLaw _ h hx
    · obtain rfl := Host.Outcome.next.inj hx
      exact h

/-! ### No counter falls (R25, R51, R167, R187) -/

section Rising
variable {s : State}

/-- By the law of the link unit a message that arrives is the only one that can be taken (R161). -/
theorem receive_of_linkLaw (hl : s.linkLaw) (body : Body) {Q : State → Prop} (harrive : Q (s.arrive body))
    (htaken : Q (s.heard.takeFrame body)) : Q (s.receive body) := by
  by_cases hh : s.Holding
  · have heq : s.receive body = s.arrive body := takeWaiting_of_holding (holding_arrive hh body)
    rwa [heq]
  · have hbuffers : s.buffers = [] := by
      by_contra hne
      exact hh (((linkLaw_iff s).mp hl).2 hne)
    have hfree : s.reply = none ∧ s.restartPending = false := by simpa [State.Holding] using hh
    rwa [receive_of_ready ⟨hbuffers, hfree⟩]

theorem heard_tallied (s : State) : Tallied s s.heard := by
  rw [heard_eq]
  exact (Tallied.refl s).same rfl rfl rfl rfl

theorem code_of_kindOf {code : Byte} {k : Kind} (h : kindOf code = some k) : code = k.code := by
  have := List.find?_some h
  exact (eq_of_beq this).symm

theorem takeFrame_counts (s : State) {code : Byte} (hcode : code ≠ Kind.countsClear.code) (fields : List Byte) (j : Lane) :
    s.counts[j].RisesTo (s.takeFrame (code :: fields)).counts[j] := by
  have hreply {t : State} (h : s.counts[j].RisesTo t.counts[j]) (b : Body) :
      s.counts[j].RisesTo (t.placeReply b).counts[j] := h.trans (((Tallied.refl t).placeReply b).counts j)
  unfold State.takeFrame
  dsimp only
  split
  · exact hreply (.refl _) _
  next k hk =>
    split
    · split
      · exact (((Tallied.refl s).takeAnswer _ _ _).line (recomputeLines_frame _)).counts j
      · refine hreply (takeCommand_counts (fun heq => hcode ?_) fields s j) _
        rw [code_of_kindOf hk, heq]
    · exact hreply (.refl _) _

theorem takeFrame_stats (s : State) {code : Byte} (hcode : code ≠ Kind.statsClear.code) (fields : List Byte) :
    (∀ a : Antenna, s.linkCounters[a].RisesTo (s.takeFrame (code :: fields)).linkCounters[a]) ∧
      s.device.RisesTo (s.takeFrame (code :: fields)).device := by
  have hreply {t : State} (h : (∀ a : Antenna, s.linkCounters[a].RisesTo t.linkCounters[a]) ∧ s.device.RisesTo t.device)
      (b : Body) : (∀ a : Antenna, s.linkCounters[a].RisesTo (t.placeReply b).linkCounters[a]) ∧
        s.device.RisesTo (t.placeReply b).device := by
    have hplaced := (Tallied.refl t).placeReply b
    exact ⟨fun a => (h.1 a).trans (hplaced.link a), h.2.trans hplaced.device⟩
  have hsame : (∀ a : Antenna, s.linkCounters[a].RisesTo s.linkCounters[a]) ∧ s.device.RisesTo s.device :=
    ⟨fun a => .refl _, .refl _⟩
  unfold State.takeFrame
  dsimp only
  split
  · exact hreply hsame _
  next k hk =>
    split
    · split
      · have h := ((Tallied.refl s).takeAnswer (fieldNat fields 0 1) (BitVec.ofNat 64 (fieldNat fields 1 8))
          (fieldNat fields 9 1)).line (recomputeLines_frame _)
        exact ⟨h.link, h.device⟩
      · refine hreply (takeCommand_stats (fun heq => hcode ?_) fields s) _
        rw [code_of_kindOf hk, heq]
    · exact hreply hsame _

end Rising

/-- The kind byte of a message is the code of a kind only for the command of that kind. -/
theorem code_ne_of_message {c : Instr} (hwf : c.wellFormed = true) {code : Byte} {fields : List Byte}
    (hc : c = .unknownKind code fields ∨ ∃ k : Kind, code = k.code ∧ c = k.command fields) {k : Kind}
    (hk : ∀ f, c ≠ k.command f) : code ≠ k.code := by
  rintro rfl
  rcases hc with rfl | ⟨k', hcode, rfl⟩
  · have hnot : k.code ∉ acceptedCodes := by
      simp only [Instr.wellFormed, Bool.and_eq_true, Bool.not_eq_true'] at hwf
      simpa using hwf.2
    have hnone := kindOf_of_not_accepted hnot
    rw [kindOf_code] at hnone
    exact Option.some_ne_none k hnone
  · have hsame : some k = some k' := by rw [← kindOf_code k, hcode, kindOf_code]
    obtain rfl := Option.some.inj hsame
    exact hk fields rfl

/-- Settles O53: an event counts upwards, and of the messages only the two that clear do otherwise. -/
theorem countersOnlyRise : Obligations.CountersOnlyRise := by
  intro c s t hwf hl ⟨hlink, hdevice, hcounts⟩ hx hreset hleft hbyte
  suffices h : ((∀ f, c ≠ .countsClear f) → ∀ k : Lane, s.counts[k].RisesTo t.counts[k]) ∧
      ((∀ f, c ≠ .statsClear f) →
        (∀ a : Antenna, s.linkCounters[a].RisesTo t.linkCounters[a]) ∧ s.device.RisesTo t.device) by
    refine ⟨fun hc k => ((h.1 hc k).lawful (hcounts k)).1, fun hc => ⟨fun a => ?_, ?_⟩⟩
    · exact (((h.2 hc).1 a).lawful (hlink a)).1
    · exact ((h.2 hc).2.lawful hdevice).1
  rcases exec_tallied c hx with ⟨ht, -⟩ | ⟨cause, a, b, -, hc⟩ | ⟨hc, -⟩ | ⟨b, stop, hc, -⟩ | ⟨code, fields, rfl, hc⟩
  · exact ⟨fun _ => ht.counts, fun _ => ⟨ht.link, ht.device⟩⟩
  · rcases hc with hc | hc
    · exact absurd hc (hreset a b).1
    · exact absurd hc (hreset a b).2
  · exact absurd hc hleft
  · exact absurd hc (hbyte b stop)
  · have harrive := arrive_tallied s (code :: fields)
    have hheard := heard_tallied s
    refine ⟨fun hk j => ?_, fun hk => ?_⟩
    · have hcode : code ≠ Kind.countsClear.code := code_ne_of_message hwf hc hk
      exact receive_of_linkLaw hl _ (Q := fun t => s.counts[j].RisesTo t.counts[j]) (harrive.counts j)
        ((hheard.counts j).trans (takeFrame_counts s.heard hcode fields j))
    · have hcode : code ≠ Kind.statsClear.code := code_ne_of_message hwf hc hk
      obtain ⟨hl', hd'⟩ := takeFrame_stats s.heard hcode fields
      exact receive_of_linkLaw hl _ (Q := fun t => (∀ a : Antenna, s.linkCounters[a].RisesTo t.linkCounters[a]) ∧
        s.device.RisesTo t.device) ⟨harrive.link, harrive.device⟩
        ⟨fun a => (hheard.link a).trans (hl' a), hheard.device.trans hd'⟩

end Sys2Proof.Machine
end

section
/-! SUPPORT. What the events of the gate and of time leave unchanged (00; R26, R48, R50, R103, R146, R181). -/

namespace Sys2Proof.Machine

/-! ### Frames of the events of time -/

/-- Only what passages, alarms, checks, lines, transmitter and radio write differs. -/
def TimeFrame (s t : State) : Prop :=
  t = { s with
        lines := t.lines, sightings := t.sightings, nextPassage := t.nextPassage, passages := t.passages,
        counts := t.counts, alarms := t.alarms, waiting := t.waiting, nextOrder := t.nextOrder, reply := t.reply,
        sending := t.sending, slots := t.slots, notices := t.notices, reports := t.reports, device := t.device,
        grant := t.grant, lastGranted := t.lastGranted, lastBackground := t.lastBackground, bgTimer := t.bgTimer,
        antennas := t.antennas, engine := t.engine, round := t.round, field := t.field, linkCounters := t.linkCounters,
        air := t.air, storedExp := t.storedExp }

/-- Configuration, gate time, waiting frames, and the pattern of each line, which no event of the gate or of time writes. -/
structure Unset (s t : State) : Prop where
  params : t.params = s.params
  classes : t.classes = s.classes
  rates : t.rates = s.rates
  owner : t.owner = s.owner
  routes : t.routes = s.routes
  speed : t.speed = s.speed
  restartCause : t.restartCause = s.restartCause
  gateTime : t.gateTime = s.gateTime
  buffers : t.buffers = s.buffers
  restartPending : t.restartPending = s.restartPending
  pulsed : ∀ l : OutLine, t.lines[l].pulsed = s.lines[l].pulsed

section Frames
variable {s t u : State}

theorem TimeFrame.trans (h : TimeFrame s t) (k : TimeFrame t u) : TimeFrame s u := by
  cases s; cases t; cases u; simp_all [TimeFrame]

theorem GateFrame.time (h : GateFrame s t) : TimeFrame s t := by
  cases s; cases t; simp_all [TimeFrame, GateFrame]

theorem RadioFrame.time (h : RadioFrame s t) : TimeFrame s t := by
  cases s; cases t; simp_all [TimeFrame, RadioFrame]

theorem LineFrame.time (h : LineFrame s t) : TimeFrame s t := by
  cases s; cases t; simp_all [TimeFrame, LineFrame]

theorem endEvent_time (s s0 : State) : TimeFrame s (s.endEvent s0) := by
  obtain ⟨t, hradio, hlines⟩ := endEvent_radio_then_lines s s0
  exact hradio.time.trans hlines.time

theorem TimeFrame.trackers (h : TimeFrame s t) : t.trackers = s.trackers := by rw [h]
theorem TimeFrame.beams (h : TimeFrame s t) : t.beams = s.beams := by rw [h]
theorem TimeFrame.key (h : TimeFrame s t) : t.key = s.key := by rw [h]
theorem TimeFrame.intake (h : TimeFrame s t) : t.intake = s.intake := by rw [h]
theorem TimeFrame.loans (h : TimeFrame s t) : t.loans = s.loans := by rw [h]
theorem TimeFrame.rx (h : TimeFrame s t) : t.rx = s.rx := by rw [h]
theorem TimeFrame.gap (h : TimeFrame s t) : t.gap = s.gap := by rw [h]
theorem TimeFrame.linked (h : TimeFrame s t) : t.linked = s.linked := by rw [h]
theorem TimeFrame.silence (h : TimeFrame s t) : t.silence = s.silence := by rw [h]

theorem TimeFrame.unset (h : TimeFrame s t) (hpulsed : ∀ l : OutLine, t.lines[l].pulsed = s.lines[l].pulsed) : Unset s t :=
  ⟨by rw [h], by rw [h], by rw [h], by rw [h], by rw [h], by rw [h], by rw [h], by rw [h], by rw [h], by rw [h], hpulsed⟩

theorem EventFrame.unset (h : EventFrame s t) (hpulsed : ∀ l : OutLine, t.lines[l].pulsed = s.lines[l].pulsed) : Unset s t :=
  ⟨by rw [h], by rw [h], by rw [h], by rw [h], by rw [h], by rw [h], by rw [h], by rw [h], by rw [h], by rw [h], hpulsed⟩

theorem AsideFrame.unset (h : AsideFrame s t) (hpulsed : ∀ l : OutLine, t.lines[l].pulsed = s.lines[l].pulsed) : Unset s t :=
  ⟨h.params, h.classes, h.rates, h.owner, h.routes, h.speed, h.restartCause, h.gateTime, h.buffers, h.restartPending,
    hpulsed⟩

end Frames

/-! ### The pattern of a line (R148) -/

theorem recomputeLines_pulsed (s : State) (l : OutLine) : s.recomputeLines.lines[l].pulsed = s.lines[l].pulsed := by
  rw [recomputeLines_line]
  exact follow_pulsed _ _ _ _

theorem endEvent_pulsed {s t : State} (h : t.lines = s.lines) (s0 : State) (l : OutLine) :
    (t.endEvent s0).lines[l].pulsed = s.lines[l].pulsed := by
  have hchosen : (if allAntennas.any fun a => t.hot a && !s0.hot a then t.choose else t).lines = s.lines := by
    split
    · rw [(choose_frame t).lines, h]
    · exact h
  unfold State.endEvent
  rw [recomputeLines_pulsed, hchosen]

theorem modLine_pulsed (s : State) (m : OutLine) {f : LineState → LineState}
    (hf : ∀ x, (f x).pulsed = x.pulsed := by exact fun _ => rfl) (l : OutLine) : (s.modLine m f).lines[l].pulsed = s.lines[l].pulsed := by
  change (modAt s.lines m f)[l].pulsed = _
  rw [modAt_getElem]
  split
  next h => rw [hf, h]
  next => rfl

section Pulsed
variable (s : State) (l : OutLine)

theorem beamFilterExpiry_pulsed (k : Lane) (x : Beam) : (beamFilterExpiry k x s).lines[l].pulsed = s.lines[l].pulsed := by
  unfold beamFilterExpiry
  split
  · split
    · dsimp only
      split
      · refine endEvent_pulsed ?_ s l
        split
        · exact lines_issueBreak _ k x _
        · exact lines_issueClear _ k x _
      · rfl
    · rfl
  · rfl

theorem stuckTimerExpiry_pulsed (k : Lane) (x : Beam) : (stuckTimerExpiry k x s).lines[l].pulsed = s.lines[l].pulsed := by
  unfold stuckTimerExpiry
  split
  · split
    · refine endEvent_pulsed ?_ s l
      exact (lines_trackFault _ k _).trans (lines_queueNotice _ _)
    · rfl
  · rfl

theorem keyFilterExpiry_pulsed : (keyFilterExpiry s).lines[l].pulsed = s.lines[l].pulsed := by
  unfold keyFilterExpiry
  split
  · split
    · dsimp only
      split
      · exact recomputeLines_pulsed _ l
      · rfl
    · rfl
  · rfl

theorem keyRawChange_lines (pressed : Bool) : (keyRawChange pressed s).lines = s.lines := by
  unfold keyRawChange
  split
  · rfl
  · split <;> rfl

theorem presenceTimerExpiry_pulsed (n : Nat) : (presenceTimerExpiry n s).lines[l].pulsed = s.lines[l].pulsed := by
  unfold presenceTimerExpiry
  split
  · split
    · split
      · exact endEvent_pulsed (lines_closePassage s _ _ _) s l
      · rfl
    · rfl
  · rfl

theorem settleTimerExpiry_pulsed (n : Nat) : (settleTimerExpiry n s).lines[l].pulsed = s.lines[l].pulsed := by
  unfold settleTimerExpiry
  split
  · split
    · exact endEvent_pulsed (settleNow_frame s n).lines s l
    · rfl
  · rfl

theorem readMerge_pulsed : (readMerge s).lines[l].pulsed = s.lines[l].pulsed := by
  unfold readMerge
  split
  · rfl
  · refine endEvent_pulsed ?_ s l
    rw [(expireAge_frame _ _).lines, (readReported_frame _ _ _ _).lines, (mergeRead_frame _ _).lines,
      (readRemoved_frame _).lines]

theorem slotReport_lines (rep : SlotReport) : (slotReport rep s).lines = s.lines := by
  have hcount (r : Round) (o : SlotOutcome) (amp : BitVec 12) : (s.countSlot r o amp).lines = s.lines := by
    cases o with
    | single t =>
      unfold State.countSlot State.takeSingle
      dsimp only
      split <;> rfl
    | empty | collision | noise | corrupt => rfl
  by_cases he : s.engine = .frame
  · cases hr : s.round with
    | none =>
      unfold slotReport
      rw [he, hr]
    | some r =>
      rw [slotReport_of_frame rep he hr]
      split
      · rw [(openSlot_frame _ _).lines, hcount]
      · rw [(closeFrame_frame _ _).lines, hcount]
  · rw [slotReport_of_not_frame s rep he]

theorem fieldSettleExpiry_pulsed : (fieldSettleExpiry s).lines[l].pulsed = s.lines[l].pulsed := by
  have hsettled (r : Round) : (if r.label = .retry then s.trialSettled r.antenna else s).lines = s.lines := by
    split
    · exact lines_queueNotice _ _
    · rfl
  unfold fieldSettleExpiry
  split
  · split
    · rw [recomputeLines_pulsed, (openSlot_frame _ _).lines, hsettled]
    · rfl
  · rfl

theorem fieldOffAck_pulsed : (fieldOffAck s).lines[l].pulsed = s.lines[l].pulsed := by
  unfold fieldOffAck
  split
  · rw [recomputeLines_pulsed, (choose_frame _).lines]
    split
    · rw [lines_roundEnded]
    · rfl
  · rfl

theorem slotTimerExpiry_pulsed (j : SlotNo) : (slotTimerExpiry j s).lines[l].pulsed = s.lines[l].pulsed := by
  unfold slotTimerExpiry
  split
  · split
    · rw [recomputeLines_pulsed, lines_resolveSlot]
      rfl
    · rfl
  · rfl

theorem silenceTimerExpiry_pulsed : (silenceTimerExpiry s).lines[l].pulsed = s.lines[l].pulsed := by
  unfold silenceTimerExpiry
  split
  · rw [recomputeLines_pulsed, (resolveStandalone_frame _).lines]
  · rfl

theorem alarmTimerExpiry_pulsed (k : Lane) : (alarmTimerExpiry k s).lines[l].pulsed = s.lines[l].pulsed := by
  unfold alarmTimerExpiry
  split
  · dsimp only
    split
    · exact recomputeLines_pulsed _ l
    · have hnote (old new : LineState) : (old.noteLapse new k).pulsed = new.pulsed := by
        unfold LineState.noteLapse
        split <;> rfl
      refine (congrArg LineState.pulsed (perLine_getElem _ l)).trans ?_
      rw [hnote]
      exact recomputeLines_pulsed _ l
  · rfl

theorem pulseTimerExpiry_pulsed (m : OutLine) : (pulseTimerExpiry m s).lines[l].pulsed = s.lines[l].pulsed := by
  unfold pulseTimerExpiry
  split
  · exact modLine_pulsed s m (l := l)
  · rfl

theorem testTimerExpiry_pulsed (m : OutLine) : (testTimerExpiry m s).lines[l].pulsed = s.lines[l].pulsed := by
  unfold testTimerExpiry
  split
  · rw [recomputeLines_pulsed]
    exact modLine_pulsed s m (l := l)
  · rfl

end Pulsed

/-! ### Tables and counts -/

/-- Sightings, the count of unattributed candidates, retained counts, reports and the size of the passage table, as the events
that touch none of them leave them. -/
structure StillTables (s t : State) : Prop where
  sightings : t.sightings = s.sightings
  unattributed : t.device.unattributed = s.device.unattributed
  counts : t.counts = s.counts
  reports : t.reports.length ≤ s.reports.length
  passages : t.passages.length = s.passages.length

namespace StillTables
variable {s t u : State}

theorem refl (s : State) : StillTables s s := ⟨rfl, rfl, rfl, Nat.le_refl _, rfl⟩

/-- What touches none of them. -/
theorem of_same (hsightings : t.sightings = s.sightings) (hdevice : t.device.unattributed = s.device.unattributed)
    (hcounts : t.counts = s.counts) (hreports : t.reports = s.reports) (hpassages : t.passages = s.passages) :
    StillTables s t :=
  ⟨hsightings, hdevice, hcounts, by rw [hreports], by rw [hpassages]⟩

theorem trans (h : StillTables s t) (k : StillTables t u) : StillTables s u :=
  ⟨k.sightings.trans h.sightings, k.unattributed.trans h.unattributed, k.counts.trans h.counts, k.reports.trans h.reports,
    k.passages.trans h.passages⟩

theorem of_radio (h : RadioFrame s t) : StillTables s t :=
  ⟨h.sightings, by rw [h.device], h.counts, by rw [h.reports], by rw [h.passages]⟩

theorem of_line (h : LineFrame s t) : StillTables s t :=
  ⟨h.sightings, by rw [h.device], h.counts, by rw [h.reports], by rw [h.passages]⟩

theorem of_aside (h : AsideFrame s t) : StillTables s t :=
  ⟨h.sightings, by rw [h.device], h.counts, by rw [h.reports], by rw [h.passages]⟩

theorem arbitrateTx (s : State) : StillTables s s.arbitrateTx := by
  unfold State.arbitrateTx
  split
  · exact .refl s
  · split
    · exact of_same rfl rfl rfl rfl rfl
    · split
      · exact of_same rfl rfl rfl rfl rfl
      · split
        · exact of_same rfl rfl rfl rfl rfl
        next hreports => exact ⟨rfl, rfl, rfl, by simp [hreports], rfl⟩
        · exact .refl s

theorem queueNotice (s : State) (b : Body) : StillTables s (s.queueNotice b) := by
  unfold State.queueNotice
  split
  · exact StillTables.trans (t := { s with notices := s.notices ++ [b] }) (of_same rfl rfl rfl rfl rfl) (arbitrateTx _)
  · exact of_same rfl rfl rfl rfl rfl

/-- A change of an antenna's service, the passages marked for it, and its notice (R20, R59, R61). -/
theorem antennaChanged (s : State) (a : Antenna) (f : AntennaState → AntennaState) (b : Body) :
    StillTables s ((s.modAntenna a f).markPassages.queueNotice b) :=
  StillTables.trans (t := (s.modAntenna a f).markPassages) ⟨rfl, rfl, rfl, Nat.le_refl _, List.length_map _⟩ (queueNotice _ b)

theorem fieldSettleExpiry (s : State) : StillTables s (fieldSettleExpiry s) := by
  unfold Machine.fieldSettleExpiry
  split
  next r _ _ =>
    split
    · have hsettled : StillTables s (if r.label = .retry then s.trialSettled r.antenna else s) := by
        split
        · exact antennaChanged s _ _ _
        · exact .refl s
      exact (hsettled.trans (.of_radio (openSlot_frame _ _))).trans (.of_line (recomputeLines_frame _))
    · exact .refl s
  · exact .refl s

theorem fieldOffAck (s : State) : StillTables s (fieldOffAck s) := by
  have hended (t : State) (a : Antenna) (label : GrantLabel) (cause : Option EndCause) :
      StillTables t (t.roundEnded a label cause) := by
    unfold State.roundEnded
    split
    · split
      · exact of_same rfl rfl rfl rfl rfl
      · exact antennaChanged t _ _ _
    · split
      · exact of_same rfl rfl rfl rfl rfl
      · exact .refl t
    · exact .refl t
  unfold Machine.fieldOffAck
  split
  · refine StillTables.trans ?_ (.of_line (recomputeLines_frame _))
    refine StillTables.trans ?_ (.of_radio (choose_frame _))
    have hidle : StillTables s { s with engine := .idle, round := none, grant := none } := of_same rfl rfl rfl rfl rfl
    split
    · exact hidle.trans (hended _ _ _ _)
    · exact hidle
  · exact .refl s

end StillTables

/-! ### Unattributed candidates (R93): only a run of attribution counts them -/

section Unattributed
variable (s : State)

theorem unattributed_queueReport (b : Body) : (s.queueReport b).device.unattributed = s.device.unattributed := by
  unfold State.queueReport
  split
  · exact (StillTables.arbitrateTx _).unattributed
  · rfl

theorem unattributed_giveVerdict (r : ItemRef) (v : Verdict) (reason : Reason) :
    (s.giveVerdict r v reason).device.unattributed = s.device.unattributed := by
  have halarm (t : State) (n : Nat) (item : Option ItemNo) :
      (t.passageAlarm n reason item).device.unattributed = t.device.unattributed := by
    have hfirst (p : Passage) : (t.firstAlarm p reason item).device.unattributed = t.device.unattributed := by
      unfold State.firstAlarm
      dsimp only
      split
      · rfl
      · exact (StillTables.queueNotice _ _).unattributed
    unfold State.passageAlarm
    split
    · rfl
    next p _ =>
      have hmarked : (if (p.judging.map (·.mark)).getD false then t
          else t.firstAlarm p reason item).device.unattributed = t.device.unattributed := by
        split
        · rfl
        · exact hfirst p
      dsimp only
      split <;> exact hmarked
  unfold State.giveVerdict
  split
  · rfl
  · split
    · rfl
    · dsimp only
      split
      · exact halarm _ _ _
      · rfl

theorem unattributed_giveFallback (r : ItemRef) (reason : Reason) :
    (s.giveFallback r reason).device.unattributed = s.device.unattributed := by
  unfold State.giveFallback
  split
  · exact unattributed_giveVerdict s _ _ _
  · rfl

theorem unattributed_completeIfDone (n : Nat) : (s.completeIfDone n).device.unattributed = s.device.unattributed := by
  unfold State.completeIfDone
  split
  · rfl
  · split
    · exact unattributed_queueReport s _
    · rfl

theorem unattributed_freeSlot (j : SlotNo) : (s.freeSlot j).device.unattributed = s.device.unattributed := by
  unfold State.freeSlot
  split <;> rfl

theorem unattributed_takeSlot (r : ItemRef) (j : SlotNo) : (s.takeSlot r j).device.unattributed = s.device.unattributed := by
  unfold State.takeSlot
  split
  · exact (StillTables.arbitrateTx _).unattributed
  · rfl

theorem unattributed_handOn (fuel : Nat) : (State.handOn fuel s).device.unattributed = s.device.unattributed := by
  induction fuel generalizing s with
  | zero => rfl
  | succ fuel ih =>
    unfold State.handOn
    split
    · split
      · exact (ih _).trans (unattributed_takeSlot _ _ _)
      · rfl
    · rfl

theorem unattributed_resolveSlot (j : SlotNo) (q : Question) (v : Verdict) (reason : Reason) :
    (s.resolveSlot j q v reason).device.unattributed = s.device.unattributed := by
  unfold State.resolveSlot State.handSlotsOn
  rw [unattributed_handOn, unattributed_completeIfDone, unattributed_giveVerdict, unattributed_freeSlot]

theorem unattributed_resolveStandalone : s.resolveStandalone.device.unattributed = s.device.unattributed := by
  have hslots (l : List (SlotNo × Question)) (t : State) :
      (resolveSlots l t).device.unattributed = t.device.unattributed := by
    induction l generalizing t with
    | nil => rfl
    | cons x l ih =>
      refine (ih _).trans ?_
      rw [unattributed_completeIfDone, unattributed_giveFallback, unattributed_freeSlot]
  have hwaiting (l : List ItemRef) (t : State) : (resolveWaiting l t).device.unattributed = t.device.unattributed := by
    induction l generalizing t with
    | nil => rfl
    | cons r l ih =>
      refine (ih _).trans ?_
      rw [unattributed_completeIfDone, unattributed_giveFallback]
  exact (hwaiting _ _).trans (hslots _ _)

theorem slotTimerExpiry_unattributed (j : SlotNo) :
    (slotTimerExpiry j s).device.unattributed = s.device.unattributed := by
  unfold slotTimerExpiry
  split
  · split
    · exact unattributed_resolveSlot _ _ _ _ _
    · rfl
  · rfl

theorem silenceTimerExpiry_unattributed : (silenceTimerExpiry s).device.unattributed = s.device.unattributed := by
  unfold silenceTimerExpiry
  split
  · exact unattributed_resolveStandalone _
  · rfl

end Unattributed

/-! ### The frames of single events -/

section Single
variable (s : State)

theorem presenceTimerExpiry_time (n : Nat) : TimeFrame s (presenceTimerExpiry n s) := by
  unfold presenceTimerExpiry
  split
  · split
    · split
      · exact (closePassage_frame s _ _ _).time.trans (endEvent_time _ s)
      · rfl
    · rfl
  · rfl

theorem settleTimerExpiry_time (n : Nat) : TimeFrame s (settleTimerExpiry n s) := by
  unfold settleTimerExpiry
  split
  · split
    · exact (settleNow_frame s n).time.trans (endEvent_time _ s)
    · rfl
  · rfl

theorem fieldSettleExpiry_time : TimeFrame s (fieldSettleExpiry s) := by
  unfold fieldSettleExpiry
  split
  next r _ _ =>
    split
    · have hsettled : TimeFrame s (if r.label = .retry then s.trialSettled r.antenna else s) := by
        split
        · exact TimeFrame.trans (t := (s.modAntenna r.antenna fun t =>
            { t with trial := false, settled := true }).markPassages) rfl (queueNotice_frame _ _).gate.time
        · rfl
      exact (hsettled.trans (openSlot_frame _ _).time).trans (recomputeLines_frame _).time
    · rfl
  · rfl

theorem roundEnded_time (a : Antenna) (label : GrantLabel) (cause : Option EndCause) :
    TimeFrame s (s.roundEnded a label cause) := by
  unfold State.roundEnded
  split
  · split
    · rfl
    · exact TimeFrame.trans (t := (s.modAntenna a _).markPassages) rfl (queueNotice_frame _ _).gate.time
  · split <;> rfl
  · rfl

theorem fieldOffAck_time : TimeFrame s (fieldOffAck s) := by
  unfold fieldOffAck
  split
  · refine TimeFrame.trans ?_ (recomputeLines_frame _).time
    refine TimeFrame.trans ?_ (choose_frame _).time
    split
    · exact TimeFrame.trans (t := { s with engine := .idle, round := none, grant := none }) rfl (roundEnded_time _ _ _ _)
    · rfl
  · rfl

theorem slotTimerExpiry_time (j : SlotNo) : TimeFrame s (slotTimerExpiry j s) := by
  unfold slotTimerExpiry
  split
  · split
    · refine TimeFrame.trans ?_ (recomputeLines_frame _).time
      exact TimeFrame.trans (t := s.modDevice fun d => { d with queryTimeouts := bump d.queryTimeouts }) rfl
        (resolveSlot_frame _ _ _ _ _).gate.time
    · rfl
  · rfl

theorem readMerge_time : TimeFrame { s with intake := s.intake.tail } (readMerge s) := by
  unfold readMerge
  split
  next h =>
    have hsame : ({ s with intake := s.intake.tail } : State) = s := by
      rw [h]
      exact congrArg (fun l => ({ s with intake := l } : State)) h.symm
    rw [hsame]
    rfl
  next r rest h =>
    rw [h]
    have hremoved := (readRemoved_frame { s with intake := rest }).time
    refine (hremoved.trans ?_).trans (endEvent_time _ s)
    exact ((mergeRead_frame _ r).time.trans (readReported_frame _ r _ _).time).trans (expireAge_frame _ _).time

/-- The silence timer's expiry writes link state and silence timer besides. -/
theorem silenceTimerExpiry_time : ∃ linked silence, TimeFrame { s with linked := linked, silence := silence } (silenceTimerExpiry s) := by
  unfold silenceTimerExpiry
  split
  · exact ⟨false, none, (resolveStandalone_frame _).gate.time.trans (recomputeLines_frame _).time⟩
  · exact ⟨s.linked, s.silence, rfl⟩

theorem holdTimerExpiry_radio : RadioFrame s (holdTimerExpiry s) := by
  unfold holdTimerExpiry
  split
  · split <;> rfl
  · rfl

theorem roundTimerExpiry_radio : RadioFrame s (roundTimerExpiry s) := by
  unfold roundTimerExpiry
  split
  · split <;> rfl
  · rfl

theorem fieldFault_radio : RadioFrame s (fieldFault s) := by
  unfold fieldFault
  split
  · split <;> rfl
  · rfl

theorem backgroundTimerExpiry_radio : RadioFrame s (backgroundTimerExpiry s) := by
  unfold backgroundTimerExpiry
  split
  · exact RadioFrame.trans (t := { s with bgTimer := none }) rfl (choose_frame _)
  · rfl

theorem retryTimerExpiry_radio (a : Antenna) : RadioFrame s (retryTimerExpiry a s) := by
  unfold retryTimerExpiry
  split
  · exact RadioFrame.trans (t := s.modAntenna a fun x => { x with retry := .due }) rfl (choose_frame _)
  · rfl

theorem keyRawChange_intake (pressed : Bool) : (keyRawChange pressed s).intake = s.intake := by
  unfold keyRawChange
  split
  · rfl
  · split <;> rfl

theorem keyFilterExpiry_intake : (keyFilterExpiry s).intake = s.intake := by
  unfold keyFilterExpiry
  split
  · split
    · dsimp only
      split <;> rfl
    · rfl
  · rfl

theorem slotReport_key (rep : SlotReport) : (slotReport rep s).key = s.key := (slotReport_frame rep s).key

/-- An alarm or line timer's expiry touches neither key nor intake. -/
theorem alarmTimerExpiry_time (k : Lane) : TimeFrame s (alarmTimerExpiry k s) := by
  unfold alarmTimerExpiry
  split
  · dsimp only
    split <;> rfl
  · rfl

theorem pulseTimerExpiry_time (l : OutLine) : TimeFrame s (pulseTimerExpiry l s) := by
  unfold pulseTimerExpiry
  split <;> rfl

theorem testTimerExpiry_time (l : OutLine) : TimeFrame s (testTimerExpiry l s) := by
  unfold testTimerExpiry
  split <;> rfl

theorem beamFilterExpiry_intake (k : Lane) (x : Beam) : (beamFilterExpiry k x s).intake = s.intake := by
  unfold beamFilterExpiry
  split
  · split
    · dsimp only
      split
      · refine (endEvent_time _ s).intake.trans ?_
        split
        · exact congrArg RadioPart.intake (radio_issueBreak _ k x _)
        · exact congrArg RadioPart.intake (radio_issueClear _ k x _)
      · rfl
    · rfl
  · rfl

theorem stuckTimerExpiry_intake (k : Lane) (x : Beam) : (stuckTimerExpiry k x s).intake = s.intake := by
  unfold stuckTimerExpiry
  split
  · split
    · refine (endEvent_time _ s).intake.trans ?_
      exact congrArg RadioPart.intake ((radio_trackFault _ k _).trans (radio_queueNotice _ _))
    · rfl
  · rfl

end Single

end Sys2Proof.Machine
end

section
/-! SUPPORT. Each event of the gate and of time, block by block (00; R26, R48, R50, R103, R146, R181). -/

namespace Sys2Proof.Machine

/-- What the event `c` of the gate or of time keeps: configuration always, and each block but by its own events. -/
structure OtherBlocksKept (c : Instr) (s t : State) : Prop where
  unset : Unset s t
  trackers : (∀ k x, c ≠ .beamFilterExpiry k x ∧ c ≠ .stuckTimerExpiry k x) → t.trackers = s.trackers
  beams : (∀ k x, c ≠ .beamFilterExpiry k x ∧ c ≠ .stuckTimerExpiry k x ∧ ∀ level, c ≠ .beamRawChange k x level) →
    t.beams = s.beams
  key : c ≠ .keyFilterExpiry → (∀ pressed, c ≠ .keyRawChange pressed) → t.key = s.key
  intake : c ≠ .readMerge → (∀ rep, c ≠ .slotReport rep) → t.intake = s.intake
  loans : (∀ i, c ≠ .loanLifeEnd i) → t.loans = s.loans
  receiver : c ≠ .gapTimerExpiry → t.rx = s.rx ∧ t.gap = s.gap
  link : c ≠ .silenceTimerExpiry → t.linked = s.linked ∧ t.silence = s.silence
  tables : c ≠ .readMerge → (∀ i, c ≠ .ageExpiry i) → (∀ k x, c ≠ .beamFilterExpiry k x ∧ c ≠ .stuckTimerExpiry k x) →
    (∀ n, c ≠ .presenceTimerExpiry n ∧ c ≠ .settleTimerExpiry n) →
    t.sightings = s.sightings ∧ t.device.unattributed = s.device.unattributed ∧
      (c ≠ .silenceTimerExpiry → (∀ j, c ≠ .slotTimerExpiry j) →
        t.counts = s.counts ∧ t.reports.length ≤ s.reports.length ∧ t.passages.length = s.passages.length)

section Kept
variable {c : Instr} {s t : State}

/-- What `tables` asks of the events that touch neither tables nor counts. -/
theorem StillTables.kept (h : StillTables s t) : t.sightings = s.sightings ∧
    t.device.unattributed = s.device.unattributed ∧ (c ≠ .silenceTimerExpiry → (∀ j, c ≠ .slotTimerExpiry j) →
      t.counts = s.counts ∧ t.reports.length ≤ s.reports.length ∧ t.passages.length = s.passages.length) :=
  ⟨h.sightings, h.unattributed, fun _ _ => ⟨h.counts, h.reports, h.passages⟩⟩

/-- An event of passages, alarms, checks, lines, transmitter or radio. -/
theorem OtherBlocksKept.of_time (h : TimeFrame s t) (hpulsed : ∀ l : OutLine, t.lines[l].pulsed = s.lines[l].pulsed)
    (htables : c ≠ .readMerge → (∀ i, c ≠ .ageExpiry i) →
      (∀ k x, c ≠ .beamFilterExpiry k x ∧ c ≠ .stuckTimerExpiry k x) →
      (∀ n, c ≠ .presenceTimerExpiry n ∧ c ≠ .settleTimerExpiry n) →
      t.sightings = s.sightings ∧ t.device.unattributed = s.device.unattributed ∧
        (c ≠ .silenceTimerExpiry → (∀ j, c ≠ .slotTimerExpiry j) →
          t.counts = s.counts ∧ t.reports.length ≤ s.reports.length ∧ t.passages.length = s.passages.length)) :
    OtherBlocksKept c s t where
  unset := h.unset hpulsed
  trackers _ := h.trackers
  beams _ := h.beams
  key _ _ := h.key
  intake _ _ := h.intake
  loans _ := h.loans
  receiver _ := ⟨h.rx, h.gap⟩
  link _ := ⟨h.linked, h.silence⟩
  tables := htables

theorem OtherBlocksKept.of_radio (h : RadioFrame s t) : OtherBlocksKept c s t :=
  .of_time h.time (fun l => by rw [h.lines]) fun _ _ _ _ => (StillTables.of_radio h).kept

/-- An event of key, alarms, lines or radio. -/
theorem OtherBlocksKept.of_aside (h : AsideFrame s t) (hpulsed : ∀ l : OutLine, t.lines[l].pulsed = s.lines[l].pulsed)
    (hkey : c ≠ .keyFilterExpiry → (∀ pressed, c ≠ .keyRawChange pressed) → t.key = s.key)
    (hintake : c ≠ .readMerge → (∀ rep, c ≠ .slotReport rep) → t.intake = s.intake) : OtherBlocksKept c s t where
  unset := h.unset hpulsed
  trackers _ := h.trackers
  beams _ := h.beams
  key := hkey
  intake := hintake
  loans _ := h.loans
  receiver _ := ⟨h.rx, h.gap⟩
  link _ := ⟨h.linked, h.silence⟩
  tables _ _ _ _ := (StillTables.of_aside h).kept

/-- An event of a beam of a lane in service. -/
theorem OtherBlocksKept.of_beam {k : Lane} {x : Beam} (hc : c = .beamFilterExpiry k x ∨ c = .stuckTimerExpiry k x)
    (h : EventFrame s t) (hpulsed : ∀ l : OutLine, t.lines[l].pulsed = s.lines[l].pulsed) (hintake : t.intake = s.intake) :
    OtherBlocksKept c s t := by
  have hown {P : Prop} (hno : c ≠ .beamFilterExpiry k x ∧ c ≠ .stuckTimerExpiry k x) : P :=
    absurd hc (not_or.mpr hno)
  exact { unset := h.unset hpulsed, trackers := fun hno => hown (hno k x),
          beams := fun hno => hown ⟨(hno k x).1, (hno k x).2.1⟩, key := fun _ _ => h.key, intake := fun _ _ => hintake,
          loans := fun _ => h.loans, receiver := fun _ => ⟨h.rx, h.gap⟩, link := fun _ => ⟨h.linked, h.silence⟩,
          tables := fun _ _ hno _ => hown (hno k x) }

end Kept

section Events
variable (s : State)

theorem beamRawChange_keepsOthers (k : Lane) (x : Beam) (level : BeamLevel) :
    OtherBlocksKept (.beamRawChange k x level) s (beamRawChange k x level s) where
  unset := ⟨rfl, rfl, rfl, rfl, rfl, rfl, rfl, rfl, rfl, rfl, fun _ => rfl⟩
  trackers _ := rfl
  beams hno := absurd rfl ((hno k x).2.2 level)
  key _ _ := rfl
  intake _ _ := rfl
  loans _ := rfl
  receiver _ := ⟨rfl, rfl⟩
  link _ := ⟨rfl, rfl⟩
  tables _ _ _ _ := ⟨rfl, rfl, fun _ _ => ⟨rfl, Nat.le_refl _, rfl⟩⟩

theorem loanLifeEnd_keepsOthers (i : ItemNo) : OtherBlocksKept (.loanLifeEnd i) s (loanLifeEnd i s) where
  unset := ⟨rfl, rfl, rfl, rfl, rfl, rfl, rfl, rfl, rfl, rfl, fun _ => rfl⟩
  trackers _ := rfl
  beams _ := rfl
  key _ _ := rfl
  intake _ _ := rfl
  loans hno := absurd rfl (hno i)
  receiver _ := ⟨rfl, rfl⟩
  link _ := ⟨rfl, rfl⟩
  tables _ _ _ _ := ⟨rfl, rfl, fun _ _ => ⟨rfl, Nat.le_refl _, rfl⟩⟩

theorem gapTimerExpiry_keepsOthers : OtherBlocksKept .gapTimerExpiry s (gapTimerExpiry s) := by
  unfold gapTimerExpiry
  split
  · exact { unset := ⟨rfl, rfl, rfl, rfl, rfl, rfl, rfl, rfl, rfl, rfl, fun _ => rfl⟩, trackers := fun _ => rfl,
            beams := fun _ => rfl, key := fun _ _ => rfl, intake := fun _ _ => rfl, loans := fun _ => rfl,
            receiver := fun hno => absurd rfl hno, link := fun _ => ⟨rfl, rfl⟩,
            tables := fun _ _ _ _ => ⟨rfl, rfl, fun _ _ => ⟨rfl, Nat.le_refl _, rfl⟩⟩ }
  · exact .of_radio (.refl s)

theorem readMerge_keepsOthers : OtherBlocksKept .readMerge s (readMerge s) := by
  have h := readMerge_time s
  exact { unset := (readMerge_frame s).unset (readMerge_pulsed s), trackers := fun _ => h.trackers, beams := fun _ => h.beams,
          key := fun _ _ => h.key, intake := fun hno => absurd rfl hno, loans := fun _ => h.loans,
          receiver := fun _ => ⟨h.rx, h.gap⟩, link := fun _ => ⟨h.linked, h.silence⟩, tables := fun hno => absurd rfl hno }

theorem silenceTimerExpiry_keepsOthers : OtherBlocksKept .silenceTimerExpiry s (silenceTimerExpiry s) := by
  obtain ⟨linked, silence, h⟩ := silenceTimerExpiry_time s
  have hunset := h.unset (silenceTimerExpiry_pulsed s)
  have hsightings : (silenceTimerExpiry s).sightings = s.sightings := by
    unfold silenceTimerExpiry
    split
    · exact (resolveStandalone_frame _).sightings
    · rfl
  exact { unset := { hunset with }, trackers := fun _ => h.trackers, beams := fun _ => h.beams, key := fun _ _ => h.key,
          intake := fun _ _ => h.intake, loans := fun _ => h.loans, receiver := fun _ => ⟨h.rx, h.gap⟩,
          link := fun hno => absurd rfl hno,
          tables := fun _ _ _ _ => ⟨hsightings, silenceTimerExpiry_unattributed s, fun hno => absurd rfl hno⟩ }

theorem slotTimerExpiry_keepsOthers (j : SlotNo) : OtherBlocksKept (.slotTimerExpiry j) s (slotTimerExpiry j s) := by
  refine .of_time (slotTimerExpiry_time s j) (fun l => slotTimerExpiry_pulsed s l j) fun _ _ _ _ =>
    ⟨?_, slotTimerExpiry_unattributed s j, fun _ hno => absurd rfl (hno j)⟩
  unfold slotTimerExpiry
  split
  · split
    · exact (resolveSlot_frame _ _ _ _ _).sightings
    · rfl
  · rfl

end Events

/-- Settles O52: event by event, from the frame of each. -/
theorem eventsKeepOtherBlocks : Obligations.EventsKeepOtherBlocks := by
  intro c s t hc hx
  suffices h : OtherBlocksKept c s t by
    obtain ⟨⟨hparams, hclasses, hrates, howner, hroutes, hspeed, hcause, htime, hbuffers, hrestart, hpulsed⟩, htrackers,
      hbeams, hkey, hintake, hloans, hreceiver, hlink, htables⟩ := h
    exact ⟨⟨hparams, hclasses, hrates, howner, hroutes, hspeed, hcause, htime, hbuffers, hrestart, hpulsed⟩, htrackers,
      hbeams, hkey, hintake, hloans, hreceiver, hlink, htables⟩
  rcases hc with hc | ⟨k, x, rfl | rfl | ⟨level, rfl⟩⟩ | ⟨pressed, rfl⟩ | ⟨n, rfl | rfl⟩ | ⟨rep, rfl⟩ | ⟨a, rfl⟩ |
    ⟨i, rfl | rfl⟩ | ⟨j, rfl⟩ | ⟨k, rfl⟩ | ⟨l, rfl | rfl⟩
  · simp only [List.mem_cons, List.not_mem_nil, or_false] at hc
    rcases hc with rfl | rfl | rfl | rfl | rfl | rfl | rfl | rfl | rfl | rfl <;> obtain rfl := Host.Outcome.next.inj hx
    · exact .of_aside (keyFilterExpiry_aside s) (keyFilterExpiry_pulsed s) (fun hno => absurd rfl hno)
        fun _ _ => keyFilterExpiry_intake s
    · exact .of_time (fieldSettleExpiry_time s) (fieldSettleExpiry_pulsed s) fun _ _ _ _ =>
        (StillTables.fieldSettleExpiry s).kept
    · exact .of_radio (holdTimerExpiry_radio s)
    · exact .of_radio (roundTimerExpiry_radio s)
    · exact .of_radio (fieldFault_radio s)
    · exact .of_time (fieldOffAck_time s) (fieldOffAck_pulsed s) fun _ _ _ _ => (StillTables.fieldOffAck s).kept
    · exact .of_radio (backgroundTimerExpiry_radio s)
    · exact readMerge_keepsOthers s
    · exact gapTimerExpiry_keepsOthers s
    · exact silenceTimerExpiry_keepsOthers s
  · obtain rfl := Host.Outcome.next.inj hx
    exact .of_beam (.inl rfl) (beamFilterExpiry_frame k x s) (fun l => beamFilterExpiry_pulsed s l k x)
      (beamFilterExpiry_intake s k x)
  · obtain rfl := Host.Outcome.next.inj hx
    exact .of_beam (.inr rfl) (stuckTimerExpiry_frame k x s) (fun l => stuckTimerExpiry_pulsed s l k x)
      (stuckTimerExpiry_intake s k x)
  · obtain rfl := Host.Outcome.next.inj hx
    exact beamRawChange_keepsOthers s k x level
  · obtain rfl := Host.Outcome.next.inj hx
    exact .of_aside (keyRawChange_aside s pressed) (fun l => by rw [keyRawChange_lines])
      (fun _ hno => absurd rfl (hno pressed)) fun _ _ => keyRawChange_intake s pressed
  · obtain rfl := Host.Outcome.next.inj hx
    exact .of_time (presenceTimerExpiry_time s n) (fun l => presenceTimerExpiry_pulsed s l n) fun _ _ _ hno =>
      absurd rfl (hno n).1
  · obtain rfl := Host.Outcome.next.inj hx
    exact .of_time (settleTimerExpiry_time s n) (fun l => settleTimerExpiry_pulsed s l n) fun _ _ _ hno =>
      absurd rfl (hno n).2
  · obtain rfl := Host.Outcome.next.inj hx
    exact .of_aside (slotReport_aside s rep) (fun l => by rw [slotReport_lines]) (fun _ _ => slotReport_key s rep)
      fun _ hno => absurd rfl (hno rep)
  · obtain rfl := Host.Outcome.next.inj hx
    exact .of_radio (retryTimerExpiry_radio s a)
  · obtain rfl := Host.Outcome.next.inj hx
    have h := expireAge_frame s i
    exact .of_time h.time (fun l => by rw [h.lines]) fun _ hno => absurd rfl (hno i)
  · obtain rfl := Host.Outcome.next.inj hx
    exact loanLifeEnd_keepsOthers s i
  · obtain rfl := Host.Outcome.next.inj hx
    exact slotTimerExpiry_keepsOthers s j
  · obtain rfl := Host.Outcome.next.inj hx
    have h := alarmTimerExpiry_aside s k
    exact .of_time (alarmTimerExpiry_time s k) (fun l => alarmTimerExpiry_pulsed s l k) fun _ _ _ _ =>
      (StillTables.of_aside h).kept
  · obtain rfl := Host.Outcome.next.inj hx
    have h := pulseTimerExpiry_aside s l
    exact .of_time (pulseTimerExpiry_time s l) (fun m => pulseTimerExpiry_pulsed s m l) fun _ _ _ _ =>
      (StillTables.of_aside h).kept
  · obtain rfl := Host.Outcome.next.inj hx
    have h := testTimerExpiry_aside s l
    exact .of_time (testTimerExpiry_time s l) (fun m => testTimerExpiry_pulsed s m l) fun _ _ _ _ =>
      (StillTables.of_aside h).kept

end Sys2Proof.Machine
end

section
/-! SUPPORT. Resets, filters, and the tracker's rows (01). -/

namespace Sys2Proof.Machine

/-! ### A beam of a lane -/

section Beam
variable (s : State) (k : Lane) (x : Beam) (f g : BeamState → BeamState)

theorem modBeam_beams : (s.modBeam k x f).beams[k] = s.beams[k].modify x f :=
  (modAt_getElem ..).trans (if_pos rfl)

theorem beam_modBeam_same : (s.modBeam k x f).beam k x = f (s.beam k x) := by
  unfold State.beam
  rw [modBeam_beams]
  cases x <;> rfl

theorem beam_modBeam_other : (s.modBeam k x f).beam k (otherBeam x) = s.beam k (otherBeam x) := by
  unfold State.beam
  rw [modBeam_beams]
  cases x <;> rfl

theorem modBeam_modBeam : (s.modBeam k x f).modBeam k x g = s.modBeam k x fun b => g (f b) := by
  unfold State.modBeam modAt
  simp only [Vector.set_set, Fin.getElem_fin, Vector.getElem_set_self]
  congr 2
  cases x <;> rfl

/-- The beams of a lane that has one of them changed. -/
theorem modBeam_congr {f g : BeamState → BeamState} (h : f (s.beam k x) = g (s.beam k x)) :
    s.modBeam k x f = s.modBeam k x g := by
  have hmodify : s.beams[k].modify x f = s.beams[k].modify x g := by
    cases x with
    | inner => exact congrArg (fun b => ({ s.beams[k] with inner := b } : LaneBeams)) h
    | outer => exact congrArg (fun b => ({ s.beams[k] with outer := b } : LaneBeams)) h
  exact congrArg (fun b => ({ s with beams := s.beams.set k b } : State)) hmodify

theorem modBeam_self : s.modBeam k x (fun b => b) = s := by
  have hmodify : s.beams[k].modify x (fun b => b) = s.beams[k] := by cases x <;> rfl
  have hset : s.beams.set k s.beams[k] = s.beams := Vector.set_getElem_self _
  refine (congrArg (fun b => ({ s with beams := s.beams.set k b } : State)) hmodify).trans ?_
  exact congrArg (fun v => ({ s with beams := v } : State)) hset

theorem laneClear_iff : s.laneClear k = true ↔
    (s.beam k x).filtered = .clear ∧ (s.beam k (otherBeam x)).filtered = .clear := by
  cases x <;> simp [State.laneClear, State.beam, LaneBeams.get, otherBeam, and_comm]

theorem laneHasFault_iff : s.laneHasFault k = true ↔
    (s.beam k x).fault = true ∨ (s.beam k (otherBeam x)).fault = true := by
  cases x <;> simp [State.laneHasFault, State.beam, LaneBeams.get, otherBeam, or_comm]

end Beam

/-! ### Resets (R7, R27) -/

/-- What a reset makes of beams, key and trackers, from the inputs as they stand. -/
theorem resetInputs (s : State) :
    (∀ k x, (s.resetBeams.resetTrackers.beam k x) =
      { raw := (s.beam k x).raw, filtered := (s.beam k x).raw, filter := none, fault := false,
        stuck := if s.laneInService k = true ∧ (s.beam k x).raw = .blocked then
          some (BitVec.ofNat 32 (s.params.beamStuck * 1000)) else none }) ∧
    s.resetBeams.resetTrackers.key = ⟨s.key.raw, s.key.raw, none⟩ ∧
    ∀ k : Lane, s.resetBeams.resetTrackers.trackers[k] =
      if s.laneInService k = true then
        some (if (s.beam k .inner).raw = .clear ∧ (s.beam k .outer).raw = .clear then .clear else .waitClear)
      else none := by
  have hlane (k : Lane) : s.resetBeams.resetTrackers.beams[k] =
      ⟨s.beams[k].inner.afterReset (s.laneInService k) (s.stuckExpiry 0),
        s.beams[k].outer.afterReset (s.laneInService k) (s.stuckExpiry 0)⟩ := perLane_getElem _ k
  have hstuck : s.stuckExpiry 0 = BitVec.ofNat 32 (s.params.beamStuck * 1000) := after_zero _
  have hafter (b : BeamState) (served : Bool) : b.afterReset served (s.stuckExpiry 0) =
      { raw := b.raw, filtered := b.raw, filter := none, fault := false,
        stuck := if served = true ∧ b.raw = .blocked then some (BitVec.ofNat 32 (s.params.beamStuck * 1000)) else none } := by
    simp only [BeamState.afterReset, hstuck, Bool.and_eq_true, beq_iff_eq]
  have hbeam (k : Lane) (x : Beam) : s.resetBeams.resetTrackers.beam k x =
      (s.beam k x).afterReset (s.laneInService k) (s.stuckExpiry 0) := by
    unfold State.beam
    rw [hlane]
    cases x <;> rfl
  refine ⟨fun k x => (hbeam k x).trans (hafter _ _), rfl, fun k => ?_⟩
  have htracker : s.resetBeams.resetTrackers.trackers[k] =
      if s.laneInService k then some (s.resetBeams.freshTracker k) else none := perLane_getElem _ k
  have hclear : s.resetBeams.laneClear k = true ↔ (s.beam k .inner).raw = .clear ∧ (s.beam k .outer).raw = .clear := by
    rw [laneClear_iff _ k .inner]
    exact iff_of_eq (congrArg₂ (fun a b : BeamState => a.filtered = .clear ∧ b.filtered = .clear) (hbeam k .inner) (hbeam k .outer))
  rw [htracker, State.freshTracker]
  simp only [hclear]

/-- Settles O6: each of the three resets ends with the beams and trackers set from the inputs. -/
theorem resetTakesInputsAsFound : Obligations.ResetTakesInputsAsFound := by
  have htake (u t : State) (hbeams : t.beams = u.resetBeams.resetTrackers.beams) (hkey : t.key = u.resetBeams.resetTrackers.key)
      (htrackers : t.trackers = u.resetBeams.resetTrackers.trackers) (hparams : t.params = u.params) :
      (∀ k x, (t.beam k x).raw = (u.beam k x).raw ∧ (t.beam k x).filtered = (u.beam k x).raw ∧
        (t.beam k x).filter = none ∧ (t.beam k x).fault = false ∧
        (t.beam k x).stuck = if t.laneInService k = true ∧ (u.beam k x).raw = .blocked then
          some (BitVec.ofNat 32 (t.params.beamStuck * 1000)) else none) ∧
      t.key = ⟨u.key.raw, u.key.raw, none⟩ ∧
      ∀ k : Lane, t.trackers[k] = if t.laneInService k = true then
        some (if (u.beam k .inner).raw = .clear ∧ (u.beam k .outer).raw = .clear then .clear else .waitClear) else none := by
    obtain ⟨hbeam, hk, htracker⟩ := resetInputs u
    have hbeam' (k : Lane) (x : Beam) : t.beam k x = u.resetBeams.resetTrackers.beam k x := by
      unfold State.beam
      rw [hbeams]
    have hserved (k : Lane) : t.laneInService k = u.laneInService k := by
      unfold State.laneInService
      rw [hparams]
    refine ⟨fun k x => ?_, hkey.trans hk, fun k => ?_⟩
    · rw [hbeam', hbeam, hserved, hparams]
      exact ⟨rfl, rfl, rfl, rfl, rfl⟩
    · rw [hserved, htrackers]
      exact htracker k
  rintro c s t (⟨a, b, rfl⟩ | ⟨a, b, rfl⟩ | ⟨rfl, hrestart⟩) hx
  · obtain rfl := Host.Outcome.next.inj hx
    exact htake { State.reset with
      pending := s.pending, restartCause := .powerOn, speed := speedOfStraps a b, beams := s.beams, key := s.key,
      air := s.air ++ [AirCommand.fieldOff] } _ rfl rfl rfl rfl
  · obtain rfl := Host.Outcome.next.inj hx
    exact htake { State.reset with
      pending := s.pending, restartCause := .resetPin, speed := speedOfStraps a b, beams := s.beams, key := s.key,
      air := s.air ++ [AirCommand.fieldOff] } _ rfl rfl rfl rfl
  · obtain ⟨f, hsend, hf⟩ := Option.map_eq_some_iff.mp hrestart
    obtain rfl := Host.Outcome.next.inj ((congrArg Host.Outcome.next (frameLeftLine_of_restart hsend hf)).symm.trans hx)
    exact htake ({ s with sending := none } : State).clearWorking _ rfl rfl rfl rfl

theorem filterFires_iff (x : Option FilterTimer) (now : Time) :
    filterFires x now = true ↔ ∃ f, x = some f ∧ due now f.expiry = true := by
  cases x <;> simp [filterFires]

/-! ### Filters (R1, R5, R6, R142) -/

theorem acknowledgeLanes_all (s : State) : s.acknowledgeLanes (fun _ => true) = { s with alarms := Vector.replicate 4 {} } := rfl

/-- Settles O8: raw changes by whether the new level is the filtered one, then the two filters' expiries. -/
theorem filtersFollowRawLevels : Obligations.FiltersFollowRawLevels := by
  intro s
  refine ⟨fun k x hfires hserved => congrArg Host.Outcome.next ?_, fun k x => congrArg Host.Outcome.next ?_,
    congrArg Host.Outcome.next (if_pos rfl), fun k x level hlevel => congrArg Host.Outcome.next ?_,
    fun level hlevel => congrArg Host.Outcome.next ?_, fun hfires => congrArg Host.Outcome.next ?_⟩
  · obtain ⟨f, hf, hdue⟩ := (filterFires_iff _ _).mp hfires
    simp only [beamFilterExpiry, hf, hdue, hserved, if_true]
    exact modBeam_congr s k x rfl
  · refine Eq.trans (modBeam_congr s k x ?_) (modBeam_self s k x)
    exact if_pos rfl
  · refine modBeam_congr s k x ?_
    unfold BeamState.rawChange
    rw [if_neg hlevel]
    split
    next hfiltered => rfl
    next hfiltered => rfl
  · unfold keyRawChange
    rw [if_neg hlevel]
    split
    next hfiltered => rfl
    next hfiltered => rfl
  · obtain ⟨f, hf, hdue⟩ := (filterFires_iff _ _).mp hfires
    simp only [keyFilterExpiry, hf, hdue, if_true, acknowledgeLanes_all]
    cases hraw : s.key.raw <;> rfl

end Sys2Proof.Machine
end

section
/-! SUPPORT. BREAK and CLEAR as the lane's tracker takes them, and the passages that they open and close (01). -/

namespace Sys2Proof.Machine

/-! ### What the filter's expiry delivers (R1, R3, R4) -/

/-- A beam that a BREAK has left: blocked, its stuck timer running from the stamp (R1, R3). -/
def BeamState.broken (b : BeamState) (stamp : Time) (stuckTime : Nat) : BeamState :=
  { b with filtered := .blocked, filter := none, stuck := some (stamp + BitVec.ofNat 32 (stuckTime * 1000)) }

/-- A beam that a CLEAR has left (R1, R3). -/
def BeamState.cleared (b : BeamState) : BeamState := { b with filtered := .clear, filter := none, stuck := none }

section Delivered
variable {s : State} {k : Lane} {x : Beam} {f : FilterTimer}

theorem beamFilterExpiry_of_break (hf : (s.beam k x).filter = some f) (hdue : due s.gateTime f.expiry = true)
    (hraw : (s.beam k x).raw = .blocked) (hserved : s.laneInService k = true) :
    beamFilterExpiry k x s =
      ((s.modBeam k x fun b => b.broken f.start s.params.beamStuck).trackBreak k x f.start).endEvent s := by
  have hmod : ((s.modBeam k x fun b => { b with filtered := .blocked, filter := none }).modBeam k x fun b =>
      { b with stuck := some (s.stuckExpiry f.start) }) = s.modBeam k x fun b => b.broken f.start s.params.beamStuck :=
    modBeam_modBeam s k x _ _
  simp only [beamFilterExpiry, hf, hdue, hraw, hserved, if_true, State.issueBreak]
  rw [← hmod]
  rfl

theorem clear_modBeam (s : State) (k : Lane) (x : Beam) :
    ((s.modBeam k x fun b => { b with filtered := .clear, filter := none }).modBeam k x fun b =>
      { b with stuck := none }) = s.modBeam k x BeamState.cleared :=
  modBeam_modBeam s k x _ _

theorem beamFilterExpiry_of_clear (hf : (s.beam k x).filter = some f) (hdue : due s.gateTime f.expiry = true)
    (hraw : (s.beam k x).raw = .clear) (hserved : s.laneInService k = true) (hfault : (s.beam k x).fault = false) :
    beamFilterExpiry k x s = ((s.modBeam k x BeamState.cleared).trackClear k x f.start).endEvent s := by
  have hsound : ((s.modBeam k x fun b => { b with filtered := .clear, filter := none }).beam k x).fault = false := by
    rw [beam_modBeam_same]
    exact hfault
  simp only [beamFilterExpiry, hf, hdue, hraw, hserved, if_true, State.issueClear, hsound, clear_modBeam,
    Bool.false_eq_true, if_false]

/-- A CLEAR of a beam in fault, which the tracker passes over in FAULT, ends the fault (R4, R15). -/
theorem beamFilterExpiry_of_recovery (hf : (s.beam k x).filter = some f) (hdue : due s.gateTime f.expiry = true)
    (hraw : (s.beam k x).raw = .clear) (hserved : s.laneInService k = true) (hfault : (s.beam k x).fault = true)
    (htracker : s.trackers[k] = some .fault) :
    beamFilterExpiry k x s =
      ((((s.modBeam k x fun b => { b with filtered := .clear, filter := none, stuck := none, fault := false }).queueNotice
        (beamNoticeBody .beamRecovered k x)).trackRecovery k f.start).endEvent s) := by
  have hbroken : ((s.modBeam k x fun b => { b with filtered := .clear, filter := none }).beam k x).fault = true := by
    rw [beam_modBeam_same]
    exact hfault
  have hpassed : (s.modBeam k x BeamState.cleared).trackClear k x f.start = s.modBeam k x BeamState.cleared := by
    have ht : (s.modBeam k x BeamState.cleared).trackers[k] = some .fault := htracker
    unfold State.trackClear
    rw [ht]
  have hmod : ((s.modBeam k x BeamState.cleared).modBeam k x fun b => { b with fault := false }) =
      s.modBeam k x fun b => { b with filtered := .clear, filter := none, stuck := none, fault := false } := modBeam_modBeam s k x _ _
  simp only [beamFilterExpiry, hf, hdue, hraw, hserved, if_true, State.issueClear, hbroken, clear_modBeam, hpassed, hmod]

end Delivered

/-! ### Opening (R9, R18 to R20) -/

theorem openPassage_of_room {s : State} (hroom : s.passages.length < 16) (k : Lane) (first : Option Beam) (persons : Nat)
    (opened : Time) (presence : Option Time) :
    s.openPassage k first persons opened presence =
      let number := freeNumber (s.passages.map Passage.number) (s.passages.length + 1) s.nextPassage
      { s with
        passages := s.passages ++
          [{ number := number, lane := k, phase := .open_, firstBeam := first, direction := none, persons := persons,
             opened := opened, closed := none,
             flags := { synthetic := first.isNone, oneAntenna := s.laneCondition k == .oneAntenna,
                        blind := s.laneCondition k == .blind },
             items := [], settle := none, presence := presence, judging := none }],
        nextPassage := if 65535 ≤ number then 1 else number + 1 } := by
  have hmake : s.makeRoom = s := if_pos hroom
  have hmark (p : Passage) (c : LaneCondition) (hlive : p.live = true) : p.mark c =
      { p with flags := { p.flags with oneAntenna := p.flags.oneAntenna || c == .oneAntenna,
                                       blind := p.flags.blind || c == .blind } } := by
    unfold Passage.mark
    rw [if_pos hlive]
    have hnormal : p.flags = { p.flags with oneAntenna := p.flags.oneAntenna || false, blind := p.flags.blind || false } := by
      simp
    cases c with
    | normal => exact congrArg (fun fl => ({ p with flags := fl } : Passage)) hnormal
    | oneAntenna | blind => simp
  unfold State.openPassage
  simp only [hmake]
  rw [hmark _ _ rfl]
  rfl

/-- Settles O9: the BREAK starts the stuck timer, and CLEAR opens the passage. -/
theorem breakOpensPassage : Obligations.BreakOpensPassage := by
  intro s k x f hf hdue hraw hserved htracker hroom
  refine congrArg Host.Outcome.next ((beamFilterExpiry_of_break hf hdue hraw hserved).trans ?_)
  have ht : (s.modBeam k x fun b => b.broken f.start s.params.beamStuck).trackers[k] = some .clear := htracker
  unfold State.trackBreak
  rw [ht]
  dsimp only
  rw [openPassage_of_room (by exact hroom)]
  rfl

/-! ### Rows that open and close nothing (R10 to R14) -/

theorem trackers_set_self {s : State} {k : Lane} {x : Option Tracker} (h : s.trackers[k] = x) :
    s.trackers.set k x = s.trackers := by
  rw [← h]
  exact Vector.set_getElem_self _

/-- Settles O10: row by row. -/
theorem trackerRows : Obligations.TrackerRows := by
  intro s k x f hf hdue hserved
  refine ⟨fun hraw => ?_, fun hraw hfault => ?_⟩
  · have hbreak := beamFilterExpiry_of_break hf hdue hraw hserved
    refine ⟨fun y hxy ht => ?_, fun c p ht hp => ?_, fun ht => ?_⟩ <;>
      refine congrArg Host.Outcome.next (hbreak.trans ?_) <;> unfold State.trackBreak
    · have ht' : (s.modBeam k x fun b => b.broken f.start s.params.beamStuck).trackers[k] = some (.opening y) := ht
      rw [ht']
      dsimp only
      rw [if_neg hxy]
      rfl
    · have ht' : (s.modBeam k x fun b => b.broken f.start s.params.beamStuck).trackers[k] = some (.leaving x c) := ht
      have hp' : (s.modBeam k x fun b => b.broken f.start s.params.beamStuck).openPassage? k = some p := hp
      rw [ht']
      dsimp only
      rw [if_pos rfl, hp']
      dsimp only
      rw [modPassage_eq]
      have hgap : stampInterval c f.start = if before f.start c then 0 else elapsed c f.start := rfl
      have hparams : (s.modBeam k x fun b => b.broken f.start s.params.beamStuck).params = s.params := rfl
      rw [hgap, hparams]
      by_cases hfollows : (if before f.start c then 0 else elapsed c f.start) ≥ s.params.followGap
      · simp only [hfollows, if_true]
        rfl
      · simp only [hfollows, if_false]
        rfl
    · have ht' : (s.modBeam k x fun b => b.broken f.start s.params.beamStuck).trackers[k] = s.trackers[k] := rfl
      rw [ht']
      rcases ht with ht | ht <;> rw [ht] <;> rfl
  · have hclear := beamFilterExpiry_of_clear hf hdue hraw hserved hfault
    refine ⟨fun ht => ?_, fun y hxy ht => ?_, fun ht => ?_, fun ht => ?_⟩ <;>
      refine congrArg Host.Outcome.next (hclear.trans ?_) <;> unfold State.trackClear
    · have ht' : (s.modBeam k x BeamState.cleared).trackers[k] = some (.crossing x) := ht
      rw [ht']
      dsimp only
      rw [if_pos rfl]
      rfl
    · have ht' : (s.modBeam k x BeamState.cleared).trackers[k] = some (.crossing y) := ht
      rw [ht']
      dsimp only
      rw [if_neg hxy]
      rfl
    · have ht' : (s.modBeam k x BeamState.cleared).trackers[k] = some .waitClear := ht
      have hlane : (s.modBeam k x BeamState.cleared).laneClear k = true ↔ (s.beam k (otherBeam x)).filtered = .clear := by
        rw [laneClear_iff _ k x, beam_modBeam_same, beam_modBeam_other]
        exact and_iff_right rfl
      rw [ht']
      dsimp only
      by_cases hother : (s.beam k (otherBeam x)).filtered = .clear
      · rw [if_pos (hlane.mpr hother), if_pos hother]
        rfl
      · rw [if_neg (mt hlane.mp hother), if_neg hother, trackers_set_self ht]
        rfl
    · have ht' : (s.modBeam k x BeamState.cleared).trackers[k] = some .fault := ht
      rw [ht']
      rfl

/-! ### Closing (R10, R12, R14, R15, R17, R21, R25) -/

/-- A record closed, settling or to be judged at once (R21). -/
theorem closePassage_eq (s : State) (p : Passage) (d : Direction) (stamp : Time) :
    s.closePassage p d stamp =
      let closed : State := { s with
        passages := s.passages.map (fun q => if q.number = p.number then
          { q with phase := .settling, direction := some d, closed := some stamp, presence := none,
                   settle := if s.params.settleTime = 0 then none
                             else some (s.gateTime + BitVec.ofNat 32 s.params.settleTime) } else q),
        counts := modAt s.counts p.lane fun c => c.addClosed d p.persons }
      if s.params.settleTime = 0 then closed.settleNow p.number else closed := by
  unfold State.closePassage
  dsimp only
  rw [modPassage_eq]
  rfl

/-- Settles O13. -/
theorem presenceExpiryClosesPassage : Obligations.PresenceExpiryClosesPassage := by
  intro s p e hp hphase hpresence hdue
  refine congrArg Host.Outcome.next ?_
  simp only [presenceTimerExpiry, hp, hpresence, hphase, hdue, true_and, if_true, closePassage_eq]
  rfl

theorem openPassage?_lane {s : State} {k : Lane} {p : Passage} (h : s.openPassage? k = some p) : p.lane = k := by
  have hp := List.find?_some h
  simp only [Bool.and_eq_true, beq_iff_eq] at hp
  exact hp.1

/-- Settles O11: a turn-back in OPENING, a completed crossing in LEAVING. -/
theorem clearClosesPassage : Obligations.ClearClosesPassage := by
  intro s k x first f p d hf hdue hraw hfault hserved hp hfirst hrow
  have hlane := openPassage?_lane hp
  have hp' : (s.modBeam k x BeamState.cleared).openPassage? k = some p := hp
  have hclosed : (s.modBeam k x BeamState.cleared).trackClear k x f.start =
      ((s.modBeam k x BeamState.cleared).setTracker k (some .clear)).closePassage p d f.start := by
    unfold State.trackClear
    rcases hrow with ⟨ht, hx, hd⟩ | ⟨c, ht, hx, hd⟩
    · have ht' : (s.modBeam k x BeamState.cleared).trackers[k] = some (.opening first) := ht
      have hopen : ((s.modBeam k x BeamState.cleared).setTracker k (some .clear)).openPassage? k = some p := hp
      rw [ht']
      dsimp only
      rw [if_pos hx, State.closeOpen, hopen, hd]
    · have ht' : (s.modBeam k x BeamState.cleared).trackers[k] = some (.leaving first c) := ht
      have hdirection : crossingDirection (p.firstBeam.getD first) = d := by
        rw [hfirst, hd]
        cases first <;> rfl
      rw [ht']
      dsimp only
      rw [if_neg hx, hp']
      dsimp only
      rw [hdirection]
  have hd : d ≠ .unknown := by
    rcases hrow with ⟨-, -, rfl⟩ | ⟨c, -, -, rfl⟩
    · decide
    · split <;> decide
  refine congrArg Host.Outcome.next ((beamFilterExpiry_of_clear hf hdue hraw hserved hfault).trans ?_)
  rw [hclosed, closePassage_eq, hlane]
  cases d with
  | unknown => exact absurd rfl hd
  | out | in_ | none_ => rfl

/-! ### Faults (R3, R4, R14, R15) -/

/-- A beam's fault as the tracker takes it: with nothing to close, or while in FAULT already, the tracker alone moves. -/
theorem trackFault_of_nothing {s : State} {k : Lane} (hserved : s.trackers[k].isSome = true) (stamp : Time)
    (h : s.openPassage? k = none ∨ s.trackers[k] = some .fault) :
    s.trackFault k stamp = { s with trackers := s.trackers.set k (some .fault) } := by
  unfold State.trackFault
  split
  next ht => rw [trackers_set_self ht]
  next hne ht =>
    have hopen : (s.setTracker k (some .fault)).openPassage? k = none :=
      h.resolve_right fun hfault => hne (Option.some.inj (ht.symm.trans hfault))
    rw [State.closeOpen, hopen]
    rfl
  next ht => simp [ht] at hserved

theorem trackFault_of_open {s : State} {k : Lane} {p : Passage} (hserved : s.trackers[k].isSome = true) (stamp : Time)
    (hp : s.openPassage? k = some p) (hne : s.trackers[k] ≠ some .fault) :
    s.trackFault k stamp = ({ s with trackers := s.trackers.set k (some .fault) } : State).closePassage p .unknown stamp := by
  unfold State.trackFault
  split
  next ht => exact absurd ht hne
  next =>
    have hopen : (s.setTracker k (some .fault)).openPassage? k = some p := hp
    rw [State.closeOpen, hopen]
    rfl
  next ht => simp [ht] at hserved

theorem trackRecovery_of_other {s : State} {k : Lane} (ht : s.trackers[k] = some .fault) (stamp : Time)
    (hfault : s.laneHasFault k = true) : s.trackRecovery k stamp = s := by
  unfold State.trackRecovery
  rw [ht]
  exact if_pos hfault

theorem trackRecovery_of_nothing {s : State} {k : Lane} (ht : s.trackers[k] = some .fault) (stamp : Time)
    (hfault : ¬s.laneHasFault k = true) (hp : s.openPassage? k = none) :
    s.trackRecovery k stamp = s.setTracker k (some (s.freshTracker k)) := by
  unfold State.trackRecovery
  rw [ht]
  dsimp only
  rw [if_neg hfault, hp]

theorem trackRecovery_of_synthetic {s : State} {k : Lane} {p : Passage} (ht : s.trackers[k] = some .fault) (stamp : Time)
    (hfault : ¬s.laneHasFault k = true) (hp : s.openPassage? k = some p) (hsynthetic : p.flags.synthetic = true) :
    s.trackRecovery k stamp = (s.setTracker k (some (s.freshTracker k))).closePassage p .unknown stamp := by
  unfold State.trackRecovery
  rw [ht]
  dsimp only
  rw [if_neg hfault, hp]
  exact if_pos hsynthetic

/-- Settles O12: the fault, then the recovery by whether the other beam is in fault too. -/
theorem beamFaultsComeAndGo : Obligations.BeamFaultsComeAndGo := by
  intro s k x
  have hnotice (f : BeamState → BeamState) (b : Body) := queueNotice_frame (s.modBeam k x f) b
  refine ⟨fun e he hdue hserved => ?_, fun f hf hdue hraw hserved hfault htracker => ?_⟩
  · have hstuck : stuckTimerExpiry k x s = (((s.modBeam k x fun b => { b with stuck := none, fault := true }).queueNotice
        (beamNoticeBody .beamFault k x)).trackFault k e).endEvent s := by
      simp only [stuckTimerExpiry, he, hdue, if_true]
    have hframe := hnotice (fun b => { b with stuck := none, fault := true }) (beamNoticeBody .beamFault k x)
    generalize (s.modBeam k x fun b => { b with stuck := none, fault := true }).queueNotice
      (beamNoticeBody .beamFault k x) = u at hstuck hframe
    have htrackers : u.trackers = s.trackers := hframe.trackers
    have hopen : u.openPassage? k = s.openPassage? k := by
      unfold State.openPassage?
      rw [hframe.passages]
      rfl
    refine ⟨fun h => congrArg Host.Outcome.next (hstuck.trans ?_),
      fun p hp hne => congrArg Host.Outcome.next (hstuck.trans ?_)⟩
    · rw [trackFault_of_nothing (by rwa [htrackers]) e (by rwa [hopen, htrackers]), htrackers]
    · have hlane := openPassage?_lane hp
      have hparams : u.params = s.params := hframe.params
      have htime : u.gateTime = s.gateTime := hframe.gateTime
      rw [trackFault_of_open (by rwa [htrackers]) e (hopen.trans hp) (by rwa [htrackers]), closePassage_eq, htrackers, hlane]
      dsimp only
      rw [hparams, htime]
      rfl
  · have hrecovery := beamFilterExpiry_of_recovery hf hdue hraw hserved hfault htracker
    have hframe := hnotice (fun b => { b with filtered := .clear, filter := none, stuck := none, fault := false }) (beamNoticeBody .beamRecovered k x)
    dsimp only
    generalize (s.modBeam k x fun b => { b with filtered := .clear, filter := none, stuck := none, fault := false }).queueNotice
      (beamNoticeBody .beamRecovered k x) = u at hrecovery hframe ⊢
    have hlane : (s.modBeam k x fun b => { b with filtered := .clear, filter := none, stuck := none, fault := false }).beams[k] = u.beams[k] := by
      rw [hframe.beams]
    have hsame : u.beam k x = { s.beam k x with filtered := .clear, filter := none, stuck := none, fault := false } := by
      rw [← beam_modBeam_same s k x fun b => { b with filtered := .clear, filter := none, stuck := none, fault := false }, State.beam, State.beam, hlane]
    have hother : u.beam k (otherBeam x) = s.beam k (otherBeam x) := by
      rw [← beam_modBeam_other s k x fun b => { b with filtered := .clear, filter := none, stuck := none, fault := false }, State.beam, State.beam, hlane]
    have hfaulty : u.laneHasFault k = true ↔ (s.beam k (otherBeam x)).fault = true := by
      rw [laneHasFault_iff u k x, hsame, hother]
      exact or_iff_right Bool.false_ne_true
    have hfresh : u.freshTracker k = if (s.beam k (otherBeam x)).filtered = .clear then .clear else .waitClear := by
      have hclear : u.laneClear k = true ↔ (s.beam k (otherBeam x)).filtered = .clear := by
        rw [laneClear_iff u k x, hsame, hother]
        exact and_iff_right rfl
      unfold State.freshTracker
      simp only [hclear]
    have hopen : u.openPassage? k = s.openPassage? k := by
      unfold State.openPassage?
      rw [hframe.passages]
      rfl
    have htracker' : u.trackers[k] = some .fault := by rw [hframe.trackers]; exact htracker
    refine ⟨fun hf' => ?_, fun hf' => ⟨fun hp => ?_, fun p hp hsynthetic => ?_⟩⟩ <;>
      refine congrArg Host.Outcome.next (hrecovery.trans ?_)
    · rw [trackRecovery_of_other htracker' f.start (hfaulty.mpr hf')]
    · rw [trackRecovery_of_nothing htracker' f.start (by rw [hfaulty, hf']; exact Bool.false_ne_true) (hopen.trans hp), hfresh,
        State.setTracker, hframe.trackers]
      rfl
    · rw [trackRecovery_of_synthetic htracker' f.start (by rw [hfaulty, hf']; exact Bool.false_ne_true) (hopen.trans hp)
        hsynthetic, hfresh, closePassage_eq, openPassage?_lane hp, State.setTracker,
        hframe.trackers]
      dsimp only
      rw [hframe.params, hframe.gateTime]
      rfl

end Sys2Proof.Machine
end

section
/-! SUPPORT. The numbers of passages, the field settled, and the passages that reads open (R16, R19, R20, R30, R31, R61, R69). -/

namespace Sys2Proof.Machine

/-! ### Numbers (R19, R23) -/

/-- The search passes over numbers in use alone. -/
theorem freeNumber_first (used : List Nat) (fuel n : Nat) :
    ∃ k ≤ fuel, freeNumber used fuel n = nextNumber^[k] n ∧ ∀ i < k, nextNumber^[i] n ∈ used := by
  induction fuel generalizing n with
  | zero => exact ⟨0, Nat.le_refl 0, rfl, nofun⟩
  | succ fuel ih =>
    unfold freeNumber
    split
    next hin =>
      obtain ⟨k, hk, heq, hused⟩ := ih (nextNumber n)
      refine ⟨k + 1, Nat.succ_le_succ hk, heq, fun i hi => ?_⟩
      cases i with
      | zero => exact List.contains_iff_mem.mp hin
      | succ i => exact hused i (Nat.lt_of_succ_lt_succ hi)
    next => exact ⟨0, Nat.zero_le _, rfl, nofun⟩

/-- Settles O19. -/
theorem passageNumbersAreFree : Obligations.PassageNumbersAreFree := by
  intro s k first persons opened presence hlen hlow hhigh used
  obtain ⟨hsub, hnext⟩ := makeRoom_numbering s
  have hused : used.length ≤ 16 := hsub.length_le.trans ((List.length_map _).le.trans hlen)
  have hrange : Within 1 65535 s.makeRoom.nextPassage := hnext ▸ ⟨hlow, hhigh⟩
  have hfresh : freeNumber used (used.length + 1) s.makeRoom.nextPassage ∉ used := freeNumber_fresh hrange (by omega)
  have hwithin : Within 1 65535 (freeNumber used (used.length + 1) s.makeRoom.nextPassage) := freeNumber_range hrange
  obtain ⟨j, hj, heq, hbefore⟩ := freeNumber_first used (used.length + 1) s.makeRoom.nextPassage
  have hcount : s.makeRoom.passages.length = used.length := (List.length_map _).symm
  unfold State.openPassage
  dsimp only
  rw [hcount]
  generalize hp : Passage.mark _ _ = p
  have hnumber : p.number = freeNumber used (used.length + 1) s.makeRoom.nextPassage := by
    obtain ⟨one, blind, hmark⟩ := Passage.mark_cases _ _
    rw [← hp, hmark]
  refine ⟨p, rfl, ?_, ?_, ?_, fun i hi => ?_, ?_⟩
  · exact hnumber ▸ hwithin.1
  · exact hnumber ▸ hwithin.2
  · exact hnumber ▸ hfresh
  · rw [hnumber, heq, nextNumber_iterate hrange, hnext] at hi
    have hin := hbefore i (by omega)
    rwa [nextNumber_iterate hrange, hnext] at hin
  · have hle : p.number ≤ 65535 := hnumber ▸ hwithin.2
    rw [← hnumber]
    unfold nextNumber
    split <;> split <;> omega

/-! ### The field settled (R20, R30, R31, R61) -/

theorem fieldSettleExpiry_of_fires {s : State} {r : Round} (he : s.engine = .fieldSettle) (hr : s.round = some r)
    (hf : fires r.settleTimer s.gateTime = true) : fieldSettleExpiry s =
      ((if r.label = .retry then s.trialSettled r.antenna else s).openSlot r).recomputeLines := by
  unfold fieldSettleExpiry
  rw [he, hr]
  exact if_pos hf

/-- Settles O29: with room in the intake queue the round sweeps, without it the round is held. -/
theorem fieldSettleOpensFirstFrame : Obligations.FieldSettleOpensFirstFrame := by
  intro s r hengine hround hfires hslot
  have hopens (t : State) (hintake : t.intake = s.intake) (htime : t.gateTime = s.gateTime)
      (hlink : t.linkCounters = s.linkCounters) : (t.openSlot r).recomputeLines =
      if s.intake.length < 8 then State.recomputeLines { t with
        engine := .frame, air := t.air ++ [.sweep r.exp],
        round := some { r with frames := r.frames + 1, c := 0, s := 0, e := 0, settleTimer := none, holdTimer := none } }
      else State.recomputeLines { t with
        engine := .held, round := some { r with settleTimer := none, holdTimer := some (s.gateTime + 20) },
        linkCounters := modAt s.linkCounters r.antenna fun c => { c with holds := min (c.holds + 1) 65535 } } := by
    split
    next hroom => rw [openSlot_of_room t r (by rw [hintake]; exact hroom), if_pos hslot, if_pos hslot]
    next hfull => rw [openSlot_of_full t r (by rw [hintake]; exact Nat.le_of_not_lt hfull), htime, hlink]
  have hsettled := fieldSettleExpiry_of_fires hengine hround hfires
  refine ⟨fun hlabel => congrArg Host.Outcome.next (hsettled.trans ?_),
    fun hlabel => congrArg Host.Outcome.next (hsettled.trans ?_)⟩
  · rw [if_neg hlabel]
    exact hopens s rfl rfl rfl
  · rw [if_pos hlabel]
    have hframe := queueNotice_frame (s.modAntenna r.antenna fun a => { a with trial := false, settled := true }).markPassages
      (antennaNoticeBody .antennaRecovered r.antenna)
    exact hopens _ hframe.intake hframe.gateTime hframe.linkCounters

end Sys2Proof.Machine
end

section
/-! SUPPORT. The passages that qualifying reads open and extend, lane by lane (R16, R18, R20). -/

namespace Sys2Proof.Machine

theorem mayQualify_iff (st : SightState) : st.mayQualify = true ↔
    st = .active ∨ ∃ n d, st = .claimed n d ∧ (d = .in_ ∨ d = .none_) := by
  cases st with
  | active => simp [SightState.mayQualify]
  | resident b => simp [SightState.mayQualify]
  | claimed n d => cases d <;> simp [SightState.mayQualify, Direction.outward]

/-- A synthetic passage as a qualifying read opens it (R16). -/
def State.synthetic (s : State) (number : Nat) (k : Lane) (time : Time) : Passage :=
  { number := number, lane := k, phase := .open_, firstBeam := none, direction := none, persons := 0, opened := time,
    closed := none,
    flags := { synthetic := true, oneAntenna := s.laneCondition k == .oneAntenna, blind := s.laneCondition k == .blind },
    items := [], settle := none, presence := some (s.gateTime + 1000), judging := none }

/-- The presence timer restarted of every OPEN passage of these lanes (R16). -/
def Passage.extended (now : Time) (l : List Lane) (q : Passage) : Passage :=
  if q.phase = .open_ ∧ q.lane ∈ l then { q with presence := some (now + 1000) } else q

/-- The OPEN passage of a lane is the only one. -/
theorem openPassage?_unique {s : State} (h : s.passageLaw) {k : Lane} {p q : Passage} (hp : s.openPassage? k = some p)
    (hq : q ∈ s.passages) (hphase : q.phase = .open_) (hlane : q.lane = k) : q = p := by
  obtain ⟨-, -, -, -, hlanes, -⟩ := h
  obtain ⟨hmem, hopen⟩ := openPassage?_mem hp
  have hfilter (x : Passage) (hx : x ∈ s.passages) (hph : x.phase = .open_) :
      x ∈ s.passages.filter fun p => p.phase == .open_ := List.mem_filter.mpr ⟨hx, by simp [hph]⟩
  exact List.inj_on_of_nodup_map hlanes (hfilter q hq hphase) (hfilter p hmem hopen)
    (hlane.trans (openPassage?_lane hp).symm)

theorem openPassage?_none {s : State} {k : Lane} (h : s.openPassage? k = none) {q : Passage} (hq : q ∈ s.passages)
    (hphase : q.phase = .open_) : q.lane ≠ k := fun hlane =>
  absurd (List.find?_eq_none.mp h q hq) (by simp [hlane, hphase])

theorem laneCondition_congr {s t : State} (ha : t.antennas = s.antennas) (k : Lane) :
    t.laneCondition k = s.laneCondition k := by
  unfold State.laneCondition State.countedOut
  rw [ha]

/-- Qualifying reads in the lanes `l`, one after another, with room for what they open. -/
theorem qualifyingReads_spec (time : Time) (l : List Lane) {s : State} (h : s.passageLaw) (hl : l.Nodup)
    (hfault : ∀ k ∈ l, s.trackers[k] = some .fault) (hroom : s.passages.length + l.length ≤ 16) :
    ∃ opened : List Passage, (l.foldl (fun t k => t.qualifyingRead k time) s).passages =
        s.passages.map (Passage.extended s.gateTime l) ++ opened ∧
      opened.map Passage.lane = l.filter (fun k => (s.openPassage? k).isNone) ∧
      (∀ p ∈ opened, p = s.synthetic p.number p.lane time) ∧
      (l.foldl (fun t k => t.qualifyingRead k time) s).passageLaw := by
  induction l generalizing s with
  | nil =>
    have hsame : Passage.extended s.gateTime [] = id := funext fun q => if_neg fun hin => List.not_mem_nil hin.2
    exact ⟨[], by simp [hsame], rfl, fun p hp => absurd hp List.not_mem_nil, h⟩
  | cons k l ih =>
    obtain ⟨hk, hl⟩ := List.nodup_cons.mp hl
    have hkfault := hfault k List.mem_cons_self
    have hlaw := qualifyingRead_passageLaw h hkfault time
    have hframe := qualifyingRead_frame s k time
    have hlength : s.passages.length + (l.length + 1) ≤ 16 := hroom
    rw [List.foldl_cons]
    cases hopen : s.openPassage? k with
    | none =>
      obtain ⟨n, hpassages⟩ : ∃ n, (s.qualifyingRead k time).passages = s.passages ++ [s.synthetic n k time] := by
        unfold State.qualifyingRead
        rw [hopen]
        dsimp only
        rw [openPassage_of_room (by omega)]
        exact ⟨_, rfl⟩
      obtain ⟨opened, hmap, hlanes, heach, hlaw'⟩ := ih hlaw hl
        (fun j hj => by rw [hframe.trackers]; exact hfault j (List.mem_cons_of_mem _ hj))
        (by rw [hpassages, List.length_append, List.length_singleton]; omega)
      refine ⟨s.synthetic n k time :: opened, ?_, ?_, fun p hp => ?_, hlaw'⟩
      · have hsame : ∀ q ∈ s.passages, q.extended s.gateTime l = q.extended s.gateTime (k :: l) := fun q hq => by
          unfold Passage.extended
          by_cases hphase : q.phase = .open_
          · simp [hphase, openPassage?_none hopen hq hphase]
          · simp [hphase]
        have hnew : (s.synthetic n k time).extended s.gateTime l = s.synthetic n k time :=
          if_neg fun hin => hk hin.2
        rw [hmap, hpassages, hframe.gateTime, List.map_append, List.map_congr_left hsame, List.map_singleton, hnew,
          List.append_assoc, List.singleton_append]
      · have hother : ∀ j ∈ l, ((s.qualifyingRead k time).openPassage? j).isNone = (s.openPassage? j).isNone := fun j hj => by
          have hjk : k ≠ j := fun heq => hk (heq ▸ hj)
          unfold State.openPassage?
          rw [hpassages, List.find?_append]
          simp [State.synthetic, hjk]
        rw [List.map_cons, hlanes, List.filter_congr hother, List.filter_cons, hopen]
        rfl
      · rcases List.mem_cons.mp hp with rfl | hp
        · rfl
        · rw [heach p hp]
          unfold State.synthetic
          rw [laneCondition_congr hframe.antennas, hframe.gateTime]
    | some p =>
      have hsynthetic : p.flags.synthetic = true := by
        obtain ⟨-, -, -, -, -, -, htrackers⟩ := h
        have hagrees := (htrackers k).2
        rw [hkfault, hopen] at hagrees
        exact hagrees
      have hpassages : (s.qualifyingRead k time).passages = s.passages.map (Passage.extended s.gateTime [k]) := by
        unfold State.qualifyingRead
        rw [hopen]
        dsimp only
        rw [if_pos hsynthetic, modPassage_eq]
        refine List.map_congr_left fun q hq => ?_
        have hiff : q.number = p.number ↔ q.phase = .open_ ∧ q.lane ∈ [k] := by
          obtain ⟨hmem, hphase⟩ := openPassage?_mem hopen
          refine ⟨fun hn => ?_, fun ⟨hph, hlane⟩ => ?_⟩
          · obtain rfl := List.inj_on_of_nodup_map h.2.1 hq hmem hn
            exact ⟨hphase, List.mem_singleton.mpr (openPassage?_lane hopen)⟩
          · rw [openPassage?_unique h hopen hq hph (List.mem_singleton.mp hlane)]
        unfold Passage.extended
        simp only [hiff]
        rfl
      obtain ⟨opened, hmap, hlanes, heach, hlaw'⟩ := ih hlaw hl
        (fun j hj => by rw [hframe.trackers]; exact hfault j (List.mem_cons_of_mem _ hj))
        (by rw [hpassages, List.length_map]; omega)
      refine ⟨opened, ?_, ?_, fun p hp => ?_, hlaw'⟩
      · have hboth (q : Passage) : (q.extended s.gateTime [k]).extended s.gateTime l = q.extended s.gateTime (k :: l) := by
          unfold Passage.extended
          by_cases hphase : q.phase = .open_
          · by_cases hlane : q.lane = k
            · simp [hphase, hlane]
            · simp [hphase, hlane]
          · simp [hphase]
        rw [hmap, hpassages, hframe.gateTime, List.map_map]
        exact congrArg (· ++ opened) (List.map_congr_left fun q _ => hboth q)
      · have hother (j : Lane) : ((s.qualifyingRead k time).openPassage? j).isNone = (s.openPassage? j).isNone := by
          have hkeep (q : Passage) : ((q.extended s.gateTime [k]).lane == j && (q.extended s.gateTime [k]).phase == .open_) =
              (q.lane == j && q.phase == .open_) := by
            unfold Passage.extended
            split <;> rfl
          unfold State.openPassage?
          rw [hpassages, List.find?_map, Option.isNone_map]
          exact congrArg (fun f => Option.isNone (List.find? f s.passages)) (funext hkeep)
        rw [hlanes, List.filter_congr fun j _ => hother j, List.filter_cons, hopen]
        rfl
      · rw [heach p hp]
        unfold State.synthetic
        rw [laneCondition_congr hframe.antennas, hframe.gateTime]

/-- A strong read goes to the lanes in FAULT beside its antenna, any other to none. -/
theorem readReported_eq (s : State) (r : Read) (strength : Nat) (st : SightState) :
    s.readReported r strength st =
      if 20 ≤ strength ∧ st.mayQualify = true then
        ((lanesBeside r.antenna).filter fun k => s.trackers[k] == some .fault).foldl
          (fun t k => t.qualifyingRead k r.time) s
      else s := by
  unfold State.readReported
  split
  next h =>
    obtain ⟨hstrong, hstate⟩ := h
    rw [List.foldl_filter]
    have hstrong' : decide (Config.presenceStrength ≤ strength) = true := decide_eq_true hstrong
    simp only [hstrong', hstate, Bool.and_true]
  next h =>
    have hnone (k : Lane) : (s.trackers[k] == some .fault && decide (Config.presenceStrength ≤ strength) && st.mayQualify)
        = false := by
      by_contra hk
      simp only [Bool.not_eq_false, Bool.and_eq_true, decide_eq_true_eq] at hk
      exact h ⟨hk.1.2, hk.2⟩
    simp only [hnone, Bool.false_eq_true, if_false]
    exact List.foldl_fixed _

theorem readRemoved_conditions (s : State) (k : Lane) : s.readRemoved.laneCondition k = s.laneCondition k := by
  refine laneCondition_congr ?_ k
  unfold State.readRemoved
  split
  · unfold State.openSlot
    split
    · split <;> rfl
    · rfl
  · rfl

/-- Settles O20: the merge leaves the table alone, so the lanes' passages are those before it. -/
theorem qualifyingReadOpensSynthetic : Obligations.QualifyingReadOpensSynthetic := by
  intro s r rest hintake hlaw hroom hdue state strong hit
  have hremoved := readRemoved_frame { s with intake := rest }
  have hmerge := mergeRead_frame ({ s with intake := rest } : State).readRemoved r
  have hentry : (({ s with intake := rest } : State).readRemoved.mergedEntry r).state = state :=
    congrArg Sighting.state (mergedEntry_congr hremoved.sightings hremoved.params r)
  have hstrength : ({ s with intake := rest } : State).readRemoved.strength r = s.strength r := by
    unfold State.strength
    rw [hremoved.params]
  have hpassages : (({ s with intake := rest } : State).readRemoved.mergeRead r).passages = s.passages :=
    (mergeRead_passages ({ s with intake := rest } : State).readRemoved r).trans hremoved.passages
  have hnext : (({ s with intake := rest } : State).readRemoved.mergeRead r).nextPassage = s.nextPassage :=
    (mergeRead_nextPassage ({ s with intake := rest } : State).readRemoved r).trans hremoved.nextPassage
  have hrun : readMerge s = (((({ s with intake := rest } : State).readRemoved.mergeRead r).readReported r (s.strength r)
      state).expireAge r.item).endEvent s := by
    unfold readMerge
    rw [hintake]
    dsimp only
    rw [hentry, hstrength]
  have htrackers : (({ s with intake := rest } : State).readRemoved.mergeRead r).trackers = s.trackers :=
    hmerge.trackers.trans hremoved.trackers
  have hparams : (({ s with intake := rest } : State).readRemoved.mergeRead r).params = s.params :=
    hmerge.params.trans hremoved.params
  have htime : (({ s with intake := rest } : State).readRemoved.mergeRead r).gateTime = s.gateTime :=
    hmerge.gateTime.trans hremoved.gateTime
  have hcondition (k : Lane) : (({ s with intake := rest } : State).readRemoved.mergeRead r).laneCondition k =
      s.laneCondition k := by
    have hkept := readRemoved_conditions { s with intake := rest } k
    exact (laneCondition_congr hmerge.antennas k).trans hkept
  have hqueue : (({ s with intake := rest } : State).readRemoved.mergeRead r).intake = rest :=
    hmerge.intake.trans hremoved.intake
  generalize (({ s with intake := rest } : State).readRemoved.mergeRead r) = u at *
  have hulaw : u.passageLaw := passageLaw_of_same hlaw hpassages hnext htrackers (by rw [hparams])
  have hreported := readReported_eq u r (s.strength r) state
  have hend := endEvent_time ((u.readReported r (s.strength r) state).expireAge r.item) s
  have hage := expireAge_frame (u.readReported r (s.strength r) state) r.item
  have haside := endEvent_aside ((u.readReported r (s.strength r) state).expireAge r.item) s
  have hqualifies : strong ↔ 20 ≤ s.strength r ∧ state.mayQualify = true := by rw [mayQualify_iff]
  have htable : (readMerge s).passages = (u.readReported r (s.strength r) state).passages := by
    rw [hrun, haside.passages, expireAge_passages]
  refine ⟨readMerge s, rfl, ?_, fun hweak => ⟨?_, ?_⟩, fun hstrong => ?_⟩
  · rw [hrun, hend.intake, hage.intake, (readReported_frame u r _ _).intake, hqueue]
  · rw [htable, hreported, if_neg (mt hqualifies.mpr hweak), hpassages]
  · rw [hrun, haside.nextPassage, expireAge_nextPassage, hreported, if_neg (mt hqualifies.mpr hweak), hnext]
  · rw [if_pos (hqualifies.mp hstrong)] at hreported
    have hlanes : (lanesBeside r.antenna).length ≤ 2 := by
      generalize r.antenna = a
      revert a
      decide
    have hfew := List.length_filter_le (fun k => u.trackers[k] == some .fault) (lanesBeside r.antenna)
    obtain ⟨opened, hmap, hopened, heach, hlaw'⟩ := qualifyingReads_spec r.time
      ((lanesBeside r.antenna).filter fun k => u.trackers[k] == some .fault) hulaw
      ((allLanes_nodup.filter _).filter _) (fun k hk => by simpa using (List.mem_filter.mp hk).2)
      (by rw [hpassages]; omega)
    have hhit (k : Lane) : k ∈ (lanesBeside r.antenna).filter (fun k => u.trackers[k] == some .fault) ↔ hit k := by
      rw [List.mem_filter, mem_lanesBeside, htrackers, beq_iff_eq]
      exact and_congr_left fun _ => or_congr eq_comm eq_comm
    have hboth : (readMerge s).passages = s.passages.map (fun q => if q.phase = .open_ ∧ hit q.lane then
        { q with presence := some (s.gateTime + 1000) } else q) ++ opened := by
      rw [htable, hreported, hmap, hpassages, htime]
      refine congrArg (· ++ opened) (List.map_congr_left fun q _ => ?_)
      unfold Passage.extended
      simp only [hhit]
    refine ⟨opened, hboth, ?_, ?_, fun p hp => ?_⟩
    · have hopen (k : Lane) : u.openPassage? k = s.openPassage? k := by
        unfold State.openPassage?
        rw [hpassages]
      have hsplit : (lanesBeside r.antenna).filter (fun k => u.trackers[k] == some .fault) =
          allLanes.filter fun k => decide (hit k) := by
        unfold lanesBeside
        rw [List.filter_filter]
        refine List.filter_congr fun k _ => ?_
        rw [Bool.eq_iff_iff, decide_eq_true_eq, ← hhit, List.mem_filter, Bool.and_eq_true, lanesBeside, List.mem_filter]
        exact ⟨fun ⟨hf, hb⟩ => ⟨⟨mem_allLanes k, hb⟩, hf⟩, fun ⟨⟨_, hb⟩, hf⟩ => ⟨hf, hb⟩⟩
      rw [hopened, hsplit, List.filter_filter]
      refine List.filter_congr fun k _ => ?_
      rw [hopen, Bool.and_comm]
    · obtain ⟨-, hnodup, -⟩ := hlaw'
      rw [htable, hreported]
      exact hnodup
    · have hp' := heach p hp
      unfold State.synthetic at hp'
      rw [hcondition, htime] at hp'
      exact hp'

end Sys2Proof.Machine
end


section
/-! SUPPORT. Messages that write and clear tables (03, 06, 10). -/

namespace Sys2Proof.Machine

/-! ### Fields read out of a message's parts (R171) -/

/-- A field behind a part is that field of the rest. -/
theorem fieldNat_behind {front : List Byte} {i : Nat} (h : front.length ≤ i) (rest : List Byte) (len : Nat) :
    fieldNat (front ++ rest) i len = fieldNat rest (i - front.length) len := by
  unfold fieldNat
  rw [List.drop_append, List.drop_of_length_le h, List.nil_append]

theorem fieldNat_behind_byte (b : Byte) (rest : List Byte) {i : Nat} (h : 1 ≤ i) (len : Nat) :
    fieldNat (b :: rest) i len = fieldNat rest (i - 1) len :=
  fieldNat_behind (front := [b]) h rest len

theorem fieldNat_behind_number (n x : Nat) (rest : List Byte) {i : Nat} (h : n ≤ i) (len : Nat) :
    fieldNat (toBytes n x ++ rest) i len = fieldNat rest (i - n) len := by
  rw [fieldNat_behind (by rwa [length_toBytes]), length_toBytes]

/-- The number a message's first part was written from. -/
theorem fieldNat_toBytes_append (n x : Nat) (rest : List Byte) :
    fieldNat (toBytes n x ++ rest) 0 n = x % 256 ^ n := by
  unfold fieldNat
  rw [List.drop_zero, List.take_left' (length_toBytes n x), beNat_toBytes]

theorem fieldNat_toBytes (n x : Nat) : fieldNat (toBytes n x) 0 n = x % 256 ^ n := by
  rw [← fieldNat_toBytes_append n x [], List.append_nil]

theorem ofNat_toNat_mod_two (x : BitVec 16) : BitVec.ofNat 16 (x.toNat % 65536) = x := by
  rw [Nat.mod_eq_of_lt (b := 65536) x.isLt, BitVec.ofNat_toNat, BitVec.setWidth_eq]

theorem ofNat_toNat_mod_four (x : BitVec 32) : BitVec.ofNat 32 (x.toNat % 4294967296) = x := by
  rw [Nat.mod_eq_of_lt (b := 4294967296) x.isLt, BitVec.ofNat_toNat, BitVec.setWidth_eq]

theorem flagByte_toNat_bne_zero (b : Bool) : ((flagByte b).toNat != 0) = b := by cases b <;> rfl

theorem toNat_bne_zero (b : Byte) : (b.toNat != 0) = (b != 0) := by
  rw [Bool.eq_iff_iff, bne_iff_ne, bne_iff_ne, ne_eq, ne_eq, BitVec.toNat_eq]
  rfl

theorem actionOf_code (a : Action) : actionOf a.code.toNat = some a := by cases a <;> rfl

/-! ### What each message does when it is taken -/

section Written
variable (s : State)

/-- The entry that an entry's bytes carry is that entry (R174). -/
theorem classEntryOf_bytes (n : Nat) (e : ClassEntry) : classEntryOf (e.bytes n) e.fields.action = e := by
  obtain ⟨enabled, ownerValue, ownerMask, prefixValue, prefixMask, classSet, action, noQuery, fallbackPass, guarded⟩ := e
  simp [classEntryOf, ClassEntry.bytes, fieldFlag, fieldNat_behind_byte, fieldNat_behind_number, fieldNat_first,
    fieldNat_toBytes_append, ofNat_toNat_mod_two, ofNat_toNat_mod_four, flagByte_toNat_bne_zero]

theorem takeClassWrite_bytes (n : Fin 8) (e : ClassEntry) :
    takeClassWrite (e.bytes n) s = ⟨{ s with classes := s.classes.set n e }, .ok, e.bytes n⟩ := by
  have hnumber : fieldNat (e.bytes n) 0 1 = n := fieldNat_number (by omega) _
  have haction : actionOf (fieldNat (e.bytes n) 16 1) = some e.fields.action := by
    simp [ClassEntry.bytes, fieldNat_behind_byte, fieldNat_behind_number, fieldNat_first, actionOf_code]
  unfold takeClassWrite
  simp only [hnumber, haction, n.isLt, dite_true, classEntryOf_bytes]

theorem takeRateWrite_fields (n : Fin 4) (enabled tolerance : Byte) (nominal pattern : BitVec 16) :
    takeRateWrite ([BitVec.ofNat 8 n.val, enabled] ++ toBytes 2 nominal.toNat ++ [tolerance] ++
        toBytes 2 pattern.toNat) s =
      let e : RateEntry := ⟨enabled != 0, min nominal.toNat 1023, min tolerance.toNat 63, pattern⟩
      ⟨{ s with rates := s.rates.set n e }, if nominal.toNat ≤ 1023 ∧ tolerance.toNat ≤ 63 then .ok else .clamped,
        e.bytes n⟩ := by
  have hnominal : nominal.toNat % 65536 = nominal.toNat := Nat.mod_eq_of_lt nominal.isLt
  simp [takeRateWrite, fieldFlag, fieldNat_behind_byte, fieldNat_behind_number, fieldNat_first,
    fieldNat_number (by omega : n.val < 256), fieldNat_toBytes_append, fieldNat_toBytes, hnominal,
    ofNat_toNat_mod_two, toNat_bne_zero, n.isLt]

theorem takeOwnerSet_bytes (f : OwnerFilter) : takeOwnerSet f.bytes s = ⟨{ s with owner := f }, .ok, f.bytes⟩ := by
  obtain ⟨code, codeMask, second, secondMask, enable, blank⟩ := f
  simp [takeOwnerSet, OwnerFilter.bytes, fieldFlag, fieldNat_behind_byte, fieldNat_behind_number, fieldNat_first,
    fieldNat_toBytes_append, ofNat_toNat_mod_two, flagByte_toNat_bne_zero]

theorem takeCountsClear_of_lane (k : Lane) :
    takeCountsClear [BitVec.ofNat 8 k.val] s = ⟨{ s with counts := s.counts.set k {} }, .ok, []⟩ := by
  have hlt : fieldNat [BitVec.ofNat 8 k.val] 0 1 < 4 := by
    rw [fieldNat_number (by omega)]
    exact k.isLt
  refine ((if_neg (Nat.succ_ne_zero 0)).trans (dif_pos hlt)).trans ?_
  simp only [fieldNat_number (by omega : k.val < 256)]

theorem heard_classes : s.heard.classes = s.classes := by rw [heard_eq]
theorem heard_rates : s.heard.rates = s.rates := by rw [heard_eq]
theorem heard_counts : s.heard.counts = s.counts := by rw [heard_eq]
theorem heard_device : s.heard.device = s.device := by rw [heard_eq]

theorem length_classBytes (n : Nat) (e : ClassEntry) : (e.bytes n).length = 20 := by simp [ClassEntry.bytes]

theorem length_ownerBytes (f : OwnerFilter) : f.bytes.length = 10 := by simp [OwnerFilter.bytes]

end Written

/-! ### The messages answered -/

/-- A message that nothing holds back, as its command, from what its taking gives. -/
theorem exec_of_taken {s t : State} (h : s.ready) (k : Kind) {fields : List Byte} {r : Result} {data : List Byte}
    (hlen : k.lengthOk fields.length = true) (hk : k ≠ .answer) (htaken : takeCommand k fields s.heard = ⟨t, r, data⟩)
    (hreply : t.reply = s.heard.reply) : exec (k.command fields) s = .next (t.answered k.code r data) := by
  rw [exec_command, receive_of_taken h (kindOf_code k) hlen hk htaken hreply]

/-- Settles O45: each message is taken as its rule says, and answered. -/
theorem tablesWrittenAndCleared : Obligations.TablesWrittenAndCleared := by
  intro s h
  refine ⟨fun n e => ?classWrite, fun n enabled tolerance nominal pattern => ?rateWrite, fun f => ?ownerSet, ?countsClear,
    fun k => ?countsClearLane, ?statsClear⟩
  case classWrite =>
    have hlen : Kind.classWrite.lengthOk (e.bytes n).length = true := by rw [length_classBytes]; rfl
    have hexec := exec_of_taken h .classWrite hlen nofun (takeClassWrite_bytes s.heard n e) rfl
    rw [heard_classes] at hexec
    exact hexec
  case rateWrite =>
    have hexec := exec_of_taken h .rateWrite (by simp [Kind.lengthOk]) nofun
      (takeRateWrite_fields s.heard n enabled tolerance nominal pattern) rfl
    rw [heard_rates] at hexec
    exact hexec
  case ownerSet =>
    have hlen : Kind.ownerSet.lengthOk f.bytes.length = true := by rw [length_ownerBytes]; rfl
    exact exec_of_taken h .ownerSet hlen nofun (takeOwnerSet_bytes s.heard f) rfl
  case countsClear => exact exec_of_taken h .countsClear rfl nofun rfl rfl
  case countsClearLane =>
    have hexec := exec_of_taken h .countsClear rfl nofun (takeCountsClear_of_lane s.heard k) rfl
    rw [heard_counts] at hexec
    exact hexec
  case statsClear =>
    have hexec := exec_of_taken h .statsClear (fields := []) rfl nofun rfl rfl
    rw [heard_device] at hexec
    exact hexec

end Sys2Proof.Machine
end


section
/-! SUPPORT. Messages that read, and the lengths of their data blocks (10). -/

namespace Sys2Proof.Machine

/-! ### The lengths of the data blocks (R178) -/

section Lengths
variable (s : State)

/-- Entries of one length make a block of that length times their number. -/
theorem length_flatMap_of_each {α : Type} {n : Nat} {f : α → List Byte} (h : ∀ x, (f x).length = n) (l : List α) :
    (l.flatMap f).length = l.length * n := by
  rw [List.length_flatMap, List.map_congr_left (g := fun _ => n) fun x _ => h x, List.map_const', List.sum_replicate,
    smul_eq_mul]

theorem length_laneStatus (k : Lane) : (s.laneStatus k).length = 5 := rfl

theorem length_laneCounts (c : LaneCounts) : c.bytes.length = 28 := by
  rw [LaneCounts.bytes, length_flatMap_of_each (length_toBytes 4)]
  rfl

theorem length_linkCounters (c : LinkCounters) : c.bytes.length = 18 := by
  rw [LinkCounters.bytes, length_flatMap_of_each (length_toBytes 2)]
  rfl

theorem length_deviceCounters (d : DeviceCounters) : d.bytes.length = 16 := by
  rw [DeviceCounters.bytes, length_flatMap_of_each (length_toBytes 2)]
  rfl

theorem length_statusBlock : s.statusBlock.length = 46 := by
  have hlanes := length_flatMap_of_each (length_laneStatus s) allLanes
  have hfour : allLanes.length = 4 := rfl
  have hfive : allAntennas.length = 5 := rfl
  simp only [State.statusBlock, List.length_append, List.length_cons, List.length_nil, length_toBytes, List.length_map,
    hlanes, hfour, hfive]

theorem length_countsBlock : (s.counts.toList.flatMap LaneCounts.bytes).length = 112 := by
  rw [length_flatMap_of_each length_laneCounts, Vector.length_toList]

theorem length_statsBlock : (s.linkCounters.toList.flatMap LinkCounters.bytes ++ s.device.bytes).length = 106 := by
  rw [List.length_append, length_flatMap_of_each length_linkCounters, Vector.length_toList, length_deviceCounters]

end Lengths

/-! ### What each message reads -/

section Reads
variable (s : State)

theorem takeGet_of_ids {ids : List Byte} (h : ∀ i ∈ ids, 1 ≤ i.toNat ∧ i.toNat ≤ 27) : takeGet ids s =
    ⟨s, .ok, ids.flatMap fun i => i :: toBytes 2 ((s.params.get i.toNat) % 65536).toNat⟩ := by
  have hok : ¬(ids.any fun b => !paramIdOk b.toNat) = true := fun hany => by
    obtain ⟨b, hb, hbad⟩ := List.any_eq_true.mp hany
    obtain ⟨hlow, hhigh⟩ := h b hb
    rcases (not_paramIdOk b).mp hbad with hzero | hbig
    · rw [hzero] at hlow
      exact absurd hlow (by decide)
    · omega
  unfold takeGet
  rw [if_neg hok, pairBytes, List.flatMap_map]
  simp only [BitVec.ofNat_toNat, BitVec.setWidth_eq, signedBytes]

/-- The number of a table's entry or a source, read as an index. -/
theorem index_of_number {n bound : Nat} (hn : n < bound) (hbound : bound ≤ 256) :
    fieldNat [BitVec.ofNat 8 n] 0 1 < bound := by
  rwa [fieldNat_number (by omega)]

theorem takeClassRead_of_entry (n : Fin 8) :
    takeClassRead [BitVec.ofNat 8 n.val] s = ⟨s, .ok, s.classes[n].bytes n⟩ := by
  refine (dif_pos (index_of_number n.isLt (by decide))).trans ?_
  simp only [fieldNat_number (by omega : n.val < 256)]
  rfl

theorem takeRateRead_of_entry (n : Fin 4) :
    takeRateRead [BitVec.ofNat 8 n.val] s = ⟨s, .ok, s.rates[n].bytes n⟩ := by
  refine (dif_pos (index_of_number n.isLt (by decide))).trans ?_
  simp only [fieldNat_number (by omega : n.val < 256)]
  rfl

theorem takeRouteRead_of_source (n : Source) : takeRouteRead [BitVec.ofNat 8 n.val] s =
    ⟨s, .ok, [BitVec.ofNat 8 n.val, BitVec.ofNat 8 s.routes[n].toNat]⟩ := by
  refine (dif_pos (index_of_number n.isLt (by decide))).trans ?_
  simp only [fieldNat_number (by omega : n.val < 256)]
  rfl

theorem heard_params : s.heard.params = s.params := by rw [heard_eq]
theorem heard_owner : s.heard.owner = s.owner := by rw [heard_eq]
theorem heard_linkCounters : s.heard.linkCounters = s.linkCounters := by rw [heard_eq]

end Reads

/-- Settles O46: each message changes nothing but that it is heard, and its reply carries what its rule names. -/
theorem readMessagesAnswer : Obligations.ReadMessagesAnswer := by
  refine ⟨fun s h => ⟨?status, fun ids hlow hhigh hids => ?get, fun n => ?classRead, fun n => ?rateRead, ?owner,
    fun n => ?route, ?counts, ?stats⟩, fun s => ⟨length_statusBlock s, length_countsBlock s, length_statsBlock s⟩⟩
  case status => exact exec_of_taken h .statusReq (fields := []) rfl nofun rfl rfl
  case get =>
    have hlen : Kind.get.lengthOk ids.length = true := by simp [Kind.lengthOk, hlow, hhigh]
    have hexec := exec_of_taken h .get hlen nofun (takeGet_of_ids s.heard hids) rfl
    rw [heard_params] at hexec
    exact hexec
  case classRead =>
    have hexec := exec_of_taken h .classRead rfl nofun (takeClassRead_of_entry s.heard n) rfl
    rw [heard_classes] at hexec
    exact hexec
  case rateRead =>
    have hexec := exec_of_taken h .rateRead rfl nofun (takeRateRead_of_entry s.heard n) rfl
    rw [heard_rates] at hexec
    exact hexec
  case owner =>
    have hexec := exec_of_taken h .ownerRead (fields := []) rfl nofun rfl rfl
    rw [heard_owner] at hexec
    exact hexec
  case route =>
    have hexec := exec_of_taken h .routeRead rfl nofun (takeRouteRead_of_source s.heard n) rfl
    rw [heard_routes] at hexec
    exact hexec
  case counts =>
    have hexec := exec_of_taken h .countsRead (fields := []) rfl nofun rfl rfl
    rw [heard_counts] at hexec
    exact hexec
  case stats =>
    have hexec := exec_of_taken h .statsRead (fields := []) rfl nofun rfl rfl
    rw [heard_linkCounters, heard_device] at hexec
    exact hexec

end Sys2Proof.Machine
end


section
/-! SUPPORT. The pairs of a SET: how a message carries them, what they store, and where it is read again (10, 11). -/

namespace Sys2Proof.Machine

/-! ### Pairs in a message (R174) -/

/-- A signed value of 16 bits is read as it was written (R171). -/
theorem signed16_signedBytes {v : Int} (hlow : -32768 ≤ v) (hhigh : v ≤ 32767) (rest : List Byte) :
    signed16 (fieldNat (toBytes 2 (v % 65536).toNat ++ rest) 0 2) = v := by
  rw [fieldNat_toBytes_append]
  unfold signed16
  split <;> omega

/-- A list cut into pieces of the length of its parts is its parts. -/
theorem pieces_flatMap {α : Type} {n : Nat} {f : α → List Byte} (h : ∀ x, (f x).length = n) (l : List α) :
    pieces n l.length (l.flatMap f) = l.map f := by
  induction l with
  | nil => rfl
  | cons x rest ih =>
    simp only [List.length_cons, pieces, List.flatMap_cons, List.take_left' (h x), List.drop_left' (h x), List.map_cons, ih]

theorem length_pairBytes (pairs : List (Nat × Int)) : (pairBytes pairs).length = pairs.length * 3 := by
  rw [pairBytes, length_flatMap_of_each (n := 3) fun p => by simp [signedBytes]]

/-- A message's pairs are those it was written from. -/
theorem setPairs_pairBytes {pairs : List (Nat × Int)} (h : ∀ p ∈ pairs, p.1 < 256 ∧ -32768 ≤ p.2 ∧ p.2 ≤ 32767) :
    setPairs (pairBytes pairs) = pairs := by
  have hread : ∀ p ∈ pairs, (fieldNat (BitVec.ofNat 8 p.1 :: signedBytes p.2) 0 1,
      signed16 (fieldNat (BitVec.ofNat 8 p.1 :: signedBytes p.2) 1 2)) = p := fun p hp => by
    obtain ⟨hid, hlow, hhigh⟩ := h p hp
    have hvalue := signed16_signedBytes hlow hhigh []
    rw [List.append_nil] at hvalue
    rw [fieldNat_number hid, fieldNat_behind_byte _ _ (le_refl 1)]
    exact Prod.ext rfl hvalue
  unfold setPairs
  rw [length_pairBytes, Nat.mul_div_cancel _ (by decide), pairBytes,
    pieces_flatMap (fun p => by simp [signedBytes]), List.map_map]
  exact (List.map_congr_left hread).trans (List.map_id _)

/-! ### Values stored (R181, R182) -/

theorem paramIdOk_iff (id : Nat) : paramIdOk id = true ↔ 1 ≤ id ∧ id ≤ 27 := by simp [paramIdOk]

/-- The clamping of R182 as the statement writes it. -/
theorem paramClamp_eq {id : Nat} (h : id ≤ 27) (v : Int) : paramClamp id v =
    if id = 17 ∨ 24 ≤ id then (if v = 0 then 0 else 1) else max (paramRange id).1 (min v (paramRange id).2) := by
  have hflag : paramIsFlag id = true ↔ id = 17 ∨ 24 ≤ id := by simp [paramIsFlag, h]
  simp only [paramClamp, hflag]

/-- The stored values in the order of their ids. -/
def Params.values (p : Params) : List Int :=
  [p.lanes, p.beamFilter, p.followGap, p.beamStuck, p.leadTime, p.settleTime, p.sightAge, p.residentTime, p.residentJump,
   p.attrMin, p.roundMax, p.bgInterval, p.startExp, p.queryTimeout, p.loanLife, p.alarmTime, flagInt p.alarmLatch,
   p.silenceLimit, p.trims[0], p.trims[1], p.trims[2], p.trims[3], p.trims[4], flagInt p.countOnly[0],
   flagInt p.countOnly[1], flagInt p.countOnly[2], flagInt p.countOnly[3]]

theorem Params.get_eq_values (p : Params) {id : Nat} (hlow : 1 ≤ id) (hhigh : id ≤ 27) :
    p.get id = p.values.getD (id - 1) 0 := by
  interval_cases id <;> rfl

/-- A flag is stored as 0 or 1, and no value but a trim is negative. -/
theorem paramClamp_kind {id : Nat} (w : Int) :
    (paramIsFlag id = true → paramClamp id w = 0 ∨ paramClamp id w = 1) ∧
      (0 ≤ (paramRange id).1 → 0 ≤ paramClamp id w) := by
  unfold paramClamp
  split
  · split <;> simp
  · simp_all

/-- A value is stored under its id, and nowhere else. -/
theorem Params.values_put (p : Params) {id : Nat} (hlow : 1 ≤ id) (hhigh : id ≤ 27) (w : Int) :
    (p.put id (paramClamp id w)).values = p.values.set (id - 1) (paramClamp id w) := by
  obtain ⟨hflag, hpos⟩ := paramClamp_kind (id := id) w
  generalize paramClamp id w = v at hflag hpos ⊢
  have hids : (id ≤ 16 ∨ id = 18) ∨ (id = 17 ∨ 24 ≤ id) ∨ (19 ≤ id ∧ id ≤ 23) := by omega
  rcases hids with hnumber | hbit | ⟨hfrom, hto⟩
  · have hnatural : 0 ≤ (paramRange id).1 := by
      rcases hnumber with hto | rfl
      · interval_cases id <;> decide
      · decide
    obtain ⟨n, rfl⟩ := Int.eq_ofNat_of_zero_le (hpos hnatural)
    rcases hnumber with hto | rfl
    · interval_cases id <;> rfl
    · rfl
  · have hbits : v = 0 ∨ v = 1 := hflag (by simpa [paramIsFlag, hhigh] using hbit)
    rcases hbit with rfl | hfrom
    · rcases hbits with rfl | rfl <;> rfl
    · rcases hbits with rfl | rfl <;> interval_cases id <;> simp [Params.put, Params.values, flagInt]
  · interval_cases id <;> simp [Params.put, Params.values]

/-- A stored value is read as it was stored, and the others as they were (R182, R183). -/
theorem Params.get_put (p : Params) {id j : Nat} (hlow : 1 ≤ id) (hhigh : id ≤ 27) (hj : 1 ≤ j) (hj' : j ≤ 27) (w : Int) :
    (p.put id (paramClamp id w)).get j = if id = j then paramClamp id w else p.get j := by
  have hlen : p.values.length = 27 := rfl
  rw [Params.get_eq_values _ hj hj', Params.get_eq_values _ hj hj', Params.values_put p hlow hhigh,
    List.getD_eq_getElem _ _ (by rw [List.length_set]; omega), List.getD_eq_getElem _ _ (by omega), List.getElem_set]
  exact if_congr (by omega) rfl rfl

end Sys2Proof.Machine
end


section
/-! SUPPORT. SET: what a run of pairs stores and acts on (01, 02, 03, 11). -/

namespace Sys2Proof.Machine

/-! ### What no pair changes -/

/-- Only parameters, lanes, the radio's state and the silence timer differ. -/
def SetFrame (s t : State) : Prop :=
  t = { s with
        params := t.params, beams := t.beams, trackers := t.trackers, alarms := t.alarms, silence := t.silence,
        grant := t.grant, lastGranted := t.lastGranted, lastBackground := t.lastBackground, bgTimer := t.bgTimer,
        antennas := t.antennas, engine := t.engine, round := t.round, field := t.field, linkCounters := t.linkCounters,
        air := t.air, storedExp := t.storedExp }

namespace SetFrame
variable {s t u : State}

theorem refl (s : State) : SetFrame s s := rfl

theorem trans (h : SetFrame s t) (k : SetFrame t u) : SetFrame s u := by
  cases s; cases t; cases u; simp_all [SetFrame]

theorem of_radio (h : RadioFrame s t) : SetFrame s t := by
  cases s; cases t; simp_all [SetFrame, RadioFrame]

theorem of_turn (h : TurnFrame s t) : SetFrame s t := by
  cases s; cases t; simp_all [SetFrame, TurnFrame]

end SetFrame

section Pair
variable (s : State)

theorem lanesChanged_set (old : Nat) : SetFrame s (s.lanesChanged old) := by
  rw [lanesChanged_eq]
  have hturn := (lanesFold_part s old allLanes_nodup s).1
  exact (SetFrame.of_turn hturn).trans (.of_radio ((withdrawBeyondLanes_frame _).trans (choose_frame _)))

theorem lanesChanged_params (old : Nat) : (s.lanesChanged old).params = s.params := by
  rw [lanesChanged_eq, (choose_frame _).params, (withdrawBeyondLanes_frame _).params, (lanesFold_part s old allLanes_nodup s).1]

theorem lanesChanged_silence (old : Nat) : (s.lanesChanged old).silence = s.silence := by
  rw [lanesChanged_eq, (choose_frame _).silence, (withdrawBeyondLanes_frame _).silence,
    (lanesFold_part s old allLanes_nodup s).1]

theorem silenceSet_eq : s.silenceSet = { s with silence := s.silenceSet.silence } := by
  unfold State.silenceSet
  split
  · rfl
  · split <;> rfl

/-- A pair of SET, by its id. -/
theorem storePair_cases (pair : Nat × Int) (motive : State → Prop)
    (plain : pair.1 ≠ 13 → pair.1 ≠ 18 → motive { s with params := s.params.put pair.1 (paramClamp pair.1 pair.2) })
    (lanes : pair.1 = 1 →
      motive (({ s with params := s.params.put pair.1 (paramClamp pair.1 pair.2) } : State).lanesChanged s.params.lanes))
    (background : pair.1 = 12 →
      motive ({ s with params := s.params.put pair.1 (paramClamp pair.1 pair.2) } : State).restartBackground)
    (exponents : pair.1 = 13 →
      motive ({ s with params := s.params.put pair.1 (paramClamp pair.1 pair.2) } : State).resetExps)
    (silence : pair.1 = 18 →
      motive ({ s with params := s.params.put pair.1 (paramClamp pair.1 pair.2) } : State).silenceSet) :
    motive (s.storePair pair) := by
  unfold State.storePair
  dsimp only
  split
  next hid =>
    split
    · exact plain (by omega) (by omega)
    · exact lanes hid
  next hid => exact background hid
  next hid => exact exponents hid
  next hid => exact silence hid
  next _ _ hexp hsilence => exact plain hexp hsilence

theorem storePair_set (pair : Nat × Int) : SetFrame s (s.storePair pair) := by
  have hput (p : Params) : SetFrame s { s with params := p } := rfl
  refine storePair_cases s pair (SetFrame s) (fun _ _ => hput _) (fun _ => (hput _).trans (lanesChanged_set _ _))
    (fun _ => (hput _).trans (.of_radio (restartBackground_frame _))) (fun _ => rfl) fun _ => ?_
  rw [silenceSet_eq]
  exact rfl

theorem storePair_params (pair : Nat × Int) :
    (s.storePair pair).params = s.params.put pair.1 (paramClamp pair.1 pair.2) := by
  refine storePair_cases s pair (fun t => t.params = _) (fun _ _ => rfl) (fun _ => lanesChanged_params _ _)
    (fun _ => (restartBackground_frame _).params) (fun _ => rfl) fun _ => ?_
  rw [silenceSet_eq]

/-- No pair but one of SILENCE_LIMIT touches the silence timer (R160). -/
theorem storePair_silence {pair : Nat × Int} (h : pair.1 ≠ 18) : (s.storePair pair).silence = s.silence :=
  storePair_cases s pair (fun t => t.silence = s.silence) (fun _ _ => rfl) (fun _ => lanesChanged_silence _ _)
    (fun _ => (restartBackground_frame _).silence) (fun _ => rfl) fun hid => absurd hid h

/-- A pair of SILENCE_LIMIT restarts the silence timer of a part that is linked, or stops it (R160). -/
theorem storePair_silenceLimit {pair : Nat × Int} (h : pair.1 = 18) (hlinked : s.linked = true) :
    (s.storePair pair).silence = if (s.storePair pair).params.silenceLimit = 0 then none
      else some (s.gateTime + BitVec.ofNat 32 ((s.storePair pair).params.silenceLimit * 1000)) := by
  obtain ⟨id, v⟩ := pair
  obtain rfl : id = 18 := h
  rw [storePair_params]
  change (({ s with params := s.params.put 18 (paramClamp 18 v) } : State).silenceSet).silence = _
  unfold State.silenceSet
  dsimp only
  rw [if_pos hlinked]
  split <;> rfl

end Pair

/-! ### Stored frame exponents (R46) -/

/-- Every stored exponent is START_EXP, and a round that ends leaves it so. -/
def State.ExpsReset (s : State) : Prop :=
  s.storedExp = Vector.replicate 5 s.params.startExp ∧
    ∀ r, s.round = some r → r.expSet = true ∨ r.exp = s.params.startExp

namespace State.ExpsReset
variable {s t : State}

theorem of_same (h : s.ExpsReset) (hexps : t.storedExp = s.storedExp) (hround : t.round = s.round)
    (hparams : t.params.startExp = s.params.startExp) : t.ExpsReset := by
  obtain ⟨hall, hnow⟩ := h
  exact ⟨by rw [hexps, hparams, hall], by rwa [hround, hparams]⟩

/-- A round that is granted takes its antenna's exponent. -/
theorem grantTo (h : s.ExpsReset) (a : Antenna) (label : GrantLabel) : (s.grantTo a label).ExpsReset := by
  obtain ⟨hall, -⟩ := h
  have hexp : s.storedExp[a] = s.params.startExp := by
    rw [hall, Fin.getElem_fin, Vector.getElem_replicate]
  cases label <;> exact ⟨hall, fun r hr => .inr (Option.some.inj hr ▸ hexp)⟩

theorem choose (h : s.ExpsReset) : s.choose.ExpsReset := by
  unfold State.choose
  split
  · split
    · exact h.grantTo _ _
    · exact h
  · exact h

theorem closeRound (h : s.ExpsReset) {r : Round} (hr : s.round = some r) (cause : EndCause) :
    (s.closeRound r cause).ExpsReset := by
  obtain ⟨hall, hnow⟩ := h
  have hround := hnow r hr
  refine ⟨?_, fun q hq => Option.some.inj hq ▸ hround⟩
  change (if r.expSet then s.storedExp else s.storedExp.set r.antenna r.exp) = _
  split
  · exact hall
  next hset =>
    rw [hround.resolve_left hset, hall]
    exact Vector.set_replicate_self

theorem withdrawBeyondLanes (h : s.ExpsReset) : s.withdrawBeyondLanes.ExpsReset := by
  unfold State.withdrawBeyondLanes
  split
  next hr =>
    split
    · exact h.closeRound hr _
    · exact h
  · exact h

theorem lanesChanged (h : s.ExpsReset) (old : Nat) : (s.lanesChanged old).ExpsReset := by
  have hturn := (lanesFold_part s old allLanes_nodup s).1
  rw [lanesChanged_eq]
  refine (withdrawBeyondLanes ?_).choose
  exact h.of_same (by rw [hturn]) (by rw [hturn]) (by rw [hturn])

theorem endEvent (h : s.ExpsReset) (s0 : State) : (s.endEvent s0).ExpsReset := by
  unfold State.endEvent
  have hlines (u : State) (hu : u.ExpsReset) : u.recomputeLines.ExpsReset :=
    hu.of_same (recomputeLines_frame u).storedExp (recomputeLines_frame u).round (by rw [(recomputeLines_frame u).params])
  split
  · exact hlines _ h.choose
  · exact hlines _ h

end State.ExpsReset

/-- A pair of START_EXP stores it for every antenna (R46). -/
theorem storePair_expsReset {s : State} {pair : Nat × Int} (h : pair.1 = 13) : (s.storePair pair).ExpsReset := by
  obtain ⟨id, v⟩ := pair
  obtain rfl : id = 13 := h
  refine ⟨rfl, fun r hr => .inl ?_⟩
  obtain ⟨q, -, rfl⟩ := Option.map_eq_some_iff.mp (show s.round.map _ = some r from hr)
  rfl

/-- Every other pair leaves the exponents reset. -/
theorem State.ExpsReset.storePair {s : State} (h : s.ExpsReset) {pair : Nat × Int} (hlow : 1 ≤ pair.1)
    (hhigh : pair.1 ≤ 27) (hid : pair.1 ≠ 13) : (s.storePair pair).ExpsReset := by
  have hstart : (s.params.put pair.1 (paramClamp pair.1 pair.2)).startExp = s.params.startExp := by
    have hget := Params.get_put s.params hlow hhigh (j := 13) (by decide) (by decide) pair.2
    rw [if_neg hid] at hget
    exact Int.ofNat.inj hget
  have hput : ({ s with params := s.params.put pair.1 (paramClamp pair.1 pair.2) } : State).ExpsReset :=
    h.of_same rfl rfl hstart
  refine storePair_cases s pair State.ExpsReset (fun _ _ => hput) (fun _ => hput.lanesChanged _)
    (fun _ => State.ExpsReset.choose ?_) (fun hexp => absurd hexp hid) fun _ => ?_
  · exact hput.of_same rfl rfl rfl
  · rw [silenceSet_eq]
    exact hput.of_same rfl rfl rfl

/-! ### A run of pairs -/

section Run
variable (s : State)

/-- The state after a run of pairs. -/
def State.storePairs (pairs : List (Nat × Int)) : State := pairs.foldl State.storePair s

theorem storePairs_concat (pairs : List (Nat × Int)) (p : Nat × Int) :
    s.storePairs (pairs ++ [p]) = (s.storePairs pairs).storePair p := List.foldl_concat ..

theorem storePairs_set (pairs : List (Nat × Int)) : SetFrame s (s.storePairs pairs) :=
  List.foldlRecOn (motive := SetFrame s) _ _ (.refl s) fun t ht p _ => ht.trans (storePair_set t p)

/-- The last appearance of an id stands (R182). -/
theorem storePairs_get {pairs : List (Nat × Int)} (h : ∀ p ∈ pairs, 1 ≤ p.1 ∧ p.1 ≤ 27) {id : Nat} (hlow : 1 ≤ id)
    (hhigh : id ≤ 27) : (s.storePairs pairs).params.get id =
      (((pairs.filter fun p => p.1 = id).getLast?).map fun p => paramClamp p.1 p.2).getD (s.params.get id) := by
  induction pairs using List.reverseRecOn with
  | nil => rfl
  | append_singleton pairs p ih =>
    obtain ⟨hfrom, hto⟩ := h p (by simp)
    rw [storePairs_concat, storePair_params, Params.get_put _ hfrom hto hlow hhigh, List.filter_append]
    by_cases hid : p.1 = id
    · rw [if_pos hid, List.filter_singleton, decide_eq_true hid, cond_true, List.getLast?_concat]
      rfl
    · rw [if_neg hid, List.filter_singleton, decide_eq_false hid, cond_false, List.append_nil,
        ih fun q hq => h q (List.mem_append_left _ hq)]

theorem storePairs_silence {pairs : List (Nat × Int)} (h : ∀ p ∈ pairs, p.1 ≠ 18) :
    (s.storePairs pairs).silence = s.silence :=
  List.foldlRecOn (motive := fun t : State => t.silence = s.silence) _ _ rfl
    fun t ht p hp => (storePair_silence t (h p hp)).trans ht

theorem storePairs_silenceLimit {pairs : List (Nat × Int)} (h : ∀ p ∈ pairs, 1 ≤ p.1 ∧ p.1 ≤ 27)
    (hsome : ∃ p ∈ pairs, p.1 = 18) (hlinked : s.linked = true) :
    (s.storePairs pairs).silence = if (s.storePairs pairs).params.silenceLimit = 0 then none
      else some (s.gateTime + BitVec.ofNat 32 ((s.storePairs pairs).params.silenceLimit * 1000)) := by
  induction pairs using List.reverseRecOn with
  | nil => exact absurd hsome (by simp)
  | append_singleton pairs p ih =>
    have hframe := storePairs_set s pairs
    rw [storePairs_concat]
    by_cases hid : p.1 = 18
    · have hnow := storePair_silenceLimit (s.storePairs pairs) hid (by rw [hframe]; exact hlinked)
      have htime : (s.storePairs pairs).gateTime = s.gateTime := by rw [hframe]
      rwa [htime] at hnow
    · obtain ⟨hfrom, hto⟩ := h p (by simp)
      obtain ⟨q, hq, hq18⟩ := hsome
      have hearlier : q ∈ pairs := (List.mem_append.mp hq).resolve_right fun hlast =>
        hid (List.mem_singleton.mp hlast ▸ hq18)
      have hlimit : ((s.storePairs pairs).storePair p).params.silenceLimit = (s.storePairs pairs).params.silenceLimit := by
        have hget := Params.get_put (s.storePairs pairs).params hfrom hto (j := 18) (by decide) (by decide) p.2
        rw [if_neg hid, ← storePair_params] at hget
        exact Int.ofNat.inj hget
      rw [storePair_silence _ hid, hlimit]
      exact ih (fun r hr => h r (List.mem_append_left _ hr)) ⟨q, hearlier, hq18⟩

theorem storePairs_expsReset {pairs : List (Nat × Int)} (h : ∀ p ∈ pairs, 1 ≤ p.1 ∧ p.1 ≤ 27)
    (hsome : ∃ p ∈ pairs, p.1 = 13) : (s.storePairs pairs).ExpsReset := by
  induction pairs using List.reverseRecOn with
  | nil => exact absurd hsome (by simp)
  | append_singleton pairs p ih =>
    rw [storePairs_concat]
    by_cases hid : p.1 = 13
    · exact storePair_expsReset hid
    · obtain ⟨hfrom, hto⟩ := h p (by simp)
      obtain ⟨q, hq, hq13⟩ := hsome
      have hearlier : q ∈ pairs := (List.mem_append.mp hq).resolve_right fun hlast =>
        hid (List.mem_singleton.mp hlast ▸ hq13)
      exact (ih (fun r hr => h r (List.mem_append_left _ hr)) ⟨q, hearlier, hq13⟩).storePair hfrom hto hid

end Run

end Sys2Proof.Machine
end


section
/-! SUPPORT. SET taken: refusals, a change of LANES and of BG_INTERVAL, and the message answered (01, 02, 03, 11). -/

namespace Sys2Proof.Machine

/-! ### A change of LANES (R5, R24, R43, R63, R144) -/

section Lanes
variable (s : State) (lanes : Nat)

/-- Every lane of a state as a change of LANES leaves it: fresh as it enters service, bare as it leaves. -/
def State.lanesTurned (s : State) (lanes : Nat) : State :=
  let enters := fun (k : Lane) => s.params.lanes ≤ k.val ∧ k.val < lanes
  let leaves := fun (k : Lane) => lanes ≤ k.val ∧ k.val < s.params.lanes
  let beam := fun (k : Lane) (b : BeamState) =>
    if enters k then
      { b with stuck := (if b.filtered = .blocked then
          some (s.gateTime + BitVec.ofNat 32 (s.params.beamStuck * 1000))
        else none) }
    else if leaves k then { b with stuck := none, fault := false } else b
  { s with
    params := { s.params with lanes := lanes },
    beams := perLane fun k => ⟨beam k s.beams[k].inner, beam k s.beams[k].outer⟩,
    trackers := perLane fun k =>
      if enters k then
        some (if (s.beam k .inner).filtered = .clear ∧ (s.beam k .outer).filtered = .clear then .clear else .waitClear)
      else if leaves k then none else s.trackers[k],
    alarms := perLane fun k => if leaves k then {} else s.alarms[k] }

theorem lanesTurned_part (k : Lane) : (s.lanesTurned lanes).lanePart k =
    (s.lanePart k).turn (decide (k.val < lanes) && !decide (k.val < s.params.lanes))
      (!decide (k.val < lanes) && decide (k.val < s.params.lanes))
      (s.gateTime + BitVec.ofNat 32 (s.params.beamStuck * 1000)) := by
  unfold State.lanesTurned State.lanePart LanePart.turn
  simp only [Fin.getElem_fin, perLane_getElem]
  by_cases hnew : k.val < lanes <;> by_cases hold : k.val < s.params.lanes
  · simp [hnew, hold, Nat.not_le.mpr]
  · have hfrom : s.params.lanes ≤ k.val := Nat.not_lt.mp hold
    simp [hnew, hfrom, BeamState.enterService, State.beam, LaneBeams.get]
    exact if_congr Iff.rfl rfl rfl
  · have hto : lanes ≤ k.val := Nat.not_lt.mp hnew
    simp [hold, hto, BeamState.leaveService]
  · simp [hnew, hold]

theorem vector_ext_lanes {α : Type} {v w : Vector α 4} (h : ∀ k : Lane, v[k] = w[k]) : v = w :=
  Vector.ext fun i hi => h ⟨i, hi⟩

/-- Lanes turned one after another are all turned. -/
theorem allLanesFold_eq :
    allLanes.foldl (({ s with params := { s.params with lanes := lanes } } : State).turnLane s.params.lanes)
      { s with params := { s.params with lanes := lanes } } = s.lanesTurned lanes := by
  have hframe := (lanesFold_part ({ s with params := { s.params with lanes := lanes } } : State) s.params.lanes
    allLanes_nodup { s with params := { s.params with lanes := lanes } }).1
  have hpart (k : Lane) := (allLanesFold_part ({ s with params := { s.params with lanes := lanes } } : State)
    s.params.lanes { s with params := { s.params with lanes := lanes } } k).trans (lanesTurned_part s lanes k).symm
  generalize allLanes.foldl _ _ = t at hframe hpart
  have hbeams : t.beams = (s.lanesTurned lanes).beams :=
    vector_ext_lanes fun k => congrArg LanePart.beams (hpart k)
  have htrackers : t.trackers = (s.lanesTurned lanes).trackers :=
    vector_ext_lanes fun k => congrArg LanePart.tracker (hpart k)
  have halarms : t.alarms = (s.lanesTurned lanes).alarms :=
    vector_ext_lanes fun k => congrArg LanePart.alarm (hpart k)
  rw [hframe, hbeams, htrackers, halarms]
  rfl

/-- A round on an antenna beyond LANES is withdrawn; any other goes on. -/
theorem withdrawBeyondLanes_eq : s.withdrawBeyondLanes =
    match s.round with
    | none => s
    | some r =>
      if (s.engine = .fieldSettle ∨ s.engine = .frame ∨ s.engine = .held) ∧ s.params.lanes < r.antenna.val then
        s.closeRound r .withdrawn
      else s := by
  unfold State.withdrawBeyondLanes
  cases s.round with
  | none => rfl
  | some r =>
    have hbeyond : (s.roundOn && !s.withinLanes r.antenna) = true ↔
        (s.engine = .fieldSettle ∨ s.engine = .frame ∨ s.engine = .held) ∧ s.params.lanes < r.antenna.val := by
      simp [State.roundOn, State.withinLanes, or_assoc]
    simp only [hbeyond]

/-- A pair of LANES that changes it. -/
theorem storePair_of_lanes {v : Int} (h : (paramClamp 1 v).toNat ≠ s.params.lanes) :
    s.storePair (1, v) = ((s.lanesTurned (paramClamp 1 v).toNat).withdrawBeyondLanes).choose := by
  rw [← allLanesFold_eq, ← lanesChanged_eq]
  exact if_neg h

end Lanes

/-! ### The message taken (R182) -/

section Taken
variable {s : State} {pairs : List (Nat × Int)}

theorem takeSet_of_badId (h : ∀ p ∈ pairs, p.1 < 256 ∧ -32768 ≤ p.2 ∧ p.2 ≤ 32767)
    (hbad : ∃ p ∈ pairs, p.1 < 1 ∨ 27 < p.1) : takeSet (pairBytes pairs) s = refuse s .badIndex := by
  obtain ⟨p, hp, hid⟩ := hbad
  have hany : (pairs.any fun p => !paramIdOk p.1) = true := by
    refine List.any_eq_true.mpr ⟨p, hp, ?_⟩
    rw [Bool.not_eq_true', ← Bool.not_eq_true, paramIdOk_iff]
    omega
  unfold takeSet
  rw [setPairs_pairBytes h]
  exact if_pos hany

theorem all_ids_ok (hids : ∀ p ∈ pairs, 1 ≤ p.1 ∧ p.1 ≤ 27) : ¬(pairs.any fun p => !paramIdOk p.1) = true := fun hany => by
  obtain ⟨p, hp, hbad⟩ := List.any_eq_true.mp hany
  have hok := (paramIdOk_iff p.1).mpr (hids p hp)
  simp [hok] at hbad

/-- What makes a SET busy: a record in the table, and a pair that changes LANES (R24). -/
theorem setBusy_iff (s : State) (pairs : List (Nat × Int)) : s.setBusy pairs = true ↔
    s.passages ≠ [] ∧ ∃ p ∈ pairs, p.1 = 1 ∧ paramClamp p.1 p.2 ≠ s.params.lanes := by
  unfold State.setBusy
  rw [Bool.and_eq_true, List.any_eq_true, Bool.not_eq_true', List.isEmpty_eq_false_iff]
  refine and_congr_right fun _ => exists_congr fun p => and_congr_right fun _ => ?_
  rw [Bool.and_eq_true, beq_iff_eq, bne_iff_ne]
  exact and_congr_right fun hid => by rw [hid]

theorem takeSet_of_busy (h : ∀ p ∈ pairs, p.1 < 256 ∧ -32768 ≤ p.2 ∧ p.2 ≤ 32767)
    (hids : ∀ p ∈ pairs, 1 ≤ p.1 ∧ p.1 ≤ 27) (hbusy : s.setBusy pairs = true) :
    takeSet (pairBytes pairs) s = refuse s .busy := by
  unfold takeSet
  rw [setPairs_pairBytes h]
  exact (if_neg (all_ids_ok hids)).trans (if_pos hbusy)

theorem storedPairs_eq_iff : storedPairs pairs = pairs ↔ ∀ p ∈ pairs, paramClamp p.1 p.2 = p.2 := by
  unfold storedPairs
  conv_lhs => rhs; rw [← List.map_id pairs]
  rw [List.map_inj_left]
  exact forall₂_congr fun p _ => ⟨fun h => congrArg Prod.snd h, fun h => Prod.ext rfl h⟩

theorem takeSet_of_free (h : ∀ p ∈ pairs, p.1 < 256 ∧ -32768 ≤ p.2 ∧ p.2 ≤ 32767)
    (hids : ∀ p ∈ pairs, 1 ≤ p.1 ∧ p.1 ≤ 27) (hfree : ¬s.setBusy pairs = true) : takeSet (pairBytes pairs) s =
      ⟨(s.storePairs pairs).endEvent s, if ∀ p ∈ pairs, paramClamp p.1 p.2 = p.2 then .ok else .clamped,
        pairBytes (storedPairs pairs)⟩ := by
  unfold takeSet
  rw [setPairs_pairBytes h]
  refine ((if_neg (all_ids_ok hids)).trans (if_neg hfree)).trans ?_
  simp only [storedPairs_eq_iff]
  rfl

end Taken

end Sys2Proof.Machine
end


section
/-! SUPPORT. SET answered (09, 11). -/

namespace Sys2Proof.Machine

section Answered
variable {s : State} {pairs : List (Nat × Int)}

/-- Being heard makes the part linked, and touches silence timer and lines besides. -/
theorem heard_parts (s : State) : ∃ silence lines, s.heard = { s with linked := true, silence := silence, lines := lines } :=
  ⟨_, _, heard_eq s⟩

theorem lengthOk_pairBytes (hlow : 1 ≤ pairs.length) (hhigh : pairs.length ≤ 20) :
    Kind.set.lengthOk (pairBytes pairs).length = true := by
  rw [length_pairBytes]
  simp only [Kind.lengthOk, Bool.and_eq_true, decide_eq_true_eq, beq_iff_eq]
  omega

theorem storePairs_endEvent_reply (s : State) (pairs : List (Nat × Int)) :
    ((s.storePairs pairs).endEvent s).reply = s.reply := by
  rw [endEvent_aside (s.storePairs pairs) s, storePairs_set s pairs]

/-- A SET that is not refused (R182). -/
theorem exec_set_of_free (hready : s.ready) (hlow : 1 ≤ pairs.length) (hhigh : pairs.length ≤ 20)
    (h : ∀ p ∈ pairs, p.1 < 256 ∧ -32768 ≤ p.2 ∧ p.2 ≤ 32767) (hids : ∀ p ∈ pairs, 1 ≤ p.1 ∧ p.1 ≤ 27)
    (hfree : ¬s.setBusy pairs = true) : exec (.set (pairBytes pairs)) s =
      .next (((s.heard.storePairs pairs).endEvent s.heard).answered 0x11
        (if ∀ p ∈ pairs, paramClamp p.1 p.2 = p.2 then .ok else .clamped) (pairBytes (storedPairs pairs))) := by
  have hheard : ¬s.heard.setBusy pairs = true := by
    obtain ⟨silence, lines, heq⟩ := heard_parts s
    rw [heq]
    exact hfree
  exact exec_of_taken hready .set (lengthOk_pairBytes hlow hhigh) nofun (takeSet_of_free h hids hheard)
    (storePairs_endEvent_reply _ _)

end Answered

/-- Settles O47: refusals first; then each pair in turn, the last appearance of an id standing; LANES and BG_INTERVAL by
themselves. -/
theorem setStoresValues : Obligations.SetStoresValues := by
  intro s pairs hready hlow hhigh hpairs stored data set
  have hstored (p : Nat × Int) (hp : p.1 ≤ 27) : stored p = paramClamp p.1 p.2 := (paramClamp_eq hp p.2).symm
  have hreplied (hids : ∀ p ∈ pairs, p.1 ≤ 27) : pairBytes (storedPairs pairs) = data stored := by
    unfold pairBytes storedPairs
    rw [List.flatMap_map]
    refine List.flatMap_congr fun p hp => ?_
    rw [hstored p (hids p hp)]
    rfl
  have hresult (hids : ∀ p ∈ pairs, p.1 ≤ 27) :
      (if ∀ p ∈ pairs, paramClamp p.1 p.2 = p.2 then Result.ok else .clamped) =
        if ∀ p ∈ pairs, stored p = p.2 then .ok else .clamped :=
    if_congr (forall₂_congr fun p hp => by rw [hstored p (hids p hp)]) rfl rfl
  obtain ⟨silence, lines, hheard⟩ := heard_parts s
  refine ⟨fun hbad => ?badId, fun hids => ⟨fun hrecord hchange => ?busy, fun hfree => ?stores⟩,
    fun v hone hempty hchange => ?lanes, fun v hone => ?background⟩
  case badId =>
    exact exec_of_badIndex hready .set (lengthOk_pairBytes hlow hhigh) nofun (takeSet_of_badId hpairs hbad)
  case busy =>
    have hbusy : s.heard.setBusy pairs = true := by
      obtain ⟨p, hp, hid, hvalue⟩ := hchange
      rw [hheard, setBusy_iff]
      exact ⟨hrecord, p, hp, hid, by rwa [← hstored p (hids p hp).2]⟩
    exact exec_of_taken hready .set (lengthOk_pairBytes hlow hhigh) nofun (takeSet_of_busy hpairs hids hbusy) rfl
  case stores =>
    have hnotBusy : ¬s.setBusy pairs = true := fun hbusy => by
      obtain ⟨hrecord, p, hp, hid, hvalue⟩ := (setBusy_iff s pairs).mp hbusy
      rw [← hstored p (hids p hp).2] at hvalue
      exact hvalue (hfree.resolve_left hrecord p hp hid)
    have hexec := exec_set_of_free hready hlow hhigh hpairs hids hnotBusy
    rw [hresult fun p hp => (hids p hp).2, hreplied fun p hp => (hids p hp).2] at hexec
    have hend := endEvent_aside (s.heard.storePairs pairs) s.heard
    have hset := storePairs_set s.heard pairs
    refine ⟨_, hexec, fun id hid hid' => ?_, fun hsome => ?_, fun hsome => ?_, fun hnone => ?_, ?_⟩
    · rw [hend.params, storePairs_get s.heard hids hid hid', heard_params]
      split
      next p hlast =>
        have hp := (List.mem_filter.mp (List.mem_of_getLast? hlast)).1
        rw [hlast, hstored p (hids p hp).2]
        rfl
      next hlast =>
        rw [hlast]
        rfl
    · exact ((storePairs_expsReset s.heard hids hsome).endEvent s.heard).1
    · rw [hend.silence, hend.params, storePairs_silenceLimit s.heard hids hsome (by rw [hheard]), heard_gateTime]
    · rw [hend.silence, storePairs_silence s.heard hnone]
    · rw [hend, hset, hheard]
      exact ⟨rfl, rfl, rfl, rfl, rfl, rfl, rfl, rfl, rfl, rfl, rfl, rfl, rfl, rfl⟩
  case lanes =>
    obtain rfl := hone
    have hids : ∀ p ∈ [((1 : Nat), v)], 1 ≤ p.1 ∧ p.1 ≤ 27 := by simp
    have hnotBusy : ¬s.setBusy [(1, v)] = true := fun hbusy => ((setBusy_iff s _).mp hbusy).1 hempty
    have hexec := exec_set_of_free hready hlow hhigh hpairs hids hnotBusy
    have hvalue : stored (1, v) = paramClamp 1 v := hstored (1, v) (Nat.le_add_left 1 26)
    have hturned : (paramClamp 1 v).toNat ≠ s.heard.params.lanes := by
      have hrange := paramClamp_mem 1 v rfl (by decide)
      have hbounds : 1 ≤ paramClamp 1 v ∧ paramClamp 1 v ≤ 4 := hrange
      rw [hheard]
      rw [hvalue] at hchange
      dsimp only
      omega
    have hpair : s.heard.storePairs [(1, v)] = s.heard.storePair (1, v) := rfl
    rw [hresult fun p hp => (hids p hp).2, hreplied fun p hp => (hids p hp).2, hpair, storePair_of_lanes _ hturned,
      withdrawBeyondLanes_eq, ← hvalue] at hexec
    have hok : (∀ p ∈ [((1 : Nat), v)], stored p = p.2) ↔ stored (1, v) = v := by simp
    simp only [hok] at hexec
    rw [hheard] at hexec ⊢
    exact hexec
  case background =>
    obtain rfl := hone
    have hids : ∀ p ∈ [((12 : Nat), v)], 1 ≤ p.1 ∧ p.1 ≤ 27 := by simp
    have hnotBusy : ¬s.setBusy [(12, v)] = true := fun hbusy => by
      obtain ⟨-, p, hp, hid, -⟩ := (setBusy_iff s _).mp hbusy
      rw [List.mem_singleton.mp hp] at hid
      exact nomatch hid
    have hexec := exec_set_of_free hready hlow hhigh hpairs hids hnotBusy
    have hvalue : stored (12, v) = paramClamp 12 v := hstored (12, v) (Nat.le_add_left 12 15)
    have hpair : s.heard.storePairs [(12, v)] =
        ({ s.heard with params := { s.heard.params with bgInterval := (paramClamp 12 v).toNat } } : State).restartBackground :=
      rfl
    rw [hresult fun p hp => (hids p hp).2, hreplied fun p hp => (hids p hp).2, hpair, ← hvalue] at hexec
    have hok : (∀ p ∈ [((12 : Nat), v)], stored p = p.2) ↔ stored (12, v) = v := by simp
    simp only [hok] at hexec
    rw [hheard] at hexec ⊢
    exact hexec

end Sys2Proof.Machine
end


section
/-! SUPPORT. The judging of a passage's items one by one (06, section 6.4). -/

namespace Sys2Proof.Machine

/-! ### The items that a record still counts as without verdict -/

/-- The number of items without verdict that the record of a number counts. -/
def State.undecided? (s : State) (n : Nat) : Option Nat := ((s.passage? n).bind Passage.judging).map Judging.undecided

theorem undecided?_eq_asking (s : State) (n : Nat) :
    s.undecided? n = (s.asking.table.find? fun v => v.number == n).bind PassageView.undecided := by
  simp only [State.undecided?, State.passage?, State.asking, List.find?_map, Option.bind_map, Option.map_bind]
  rfl

theorem undecided?_of_asking {s t : State} (h : t.asking = s.asking) (n : Nat) : t.undecided? n = s.undecided? n := by
  rw [undecided?_eq_asking, undecided?_eq_asking, h]

theorem undecided?_modPassage (s : State) (n : Nat) {f : Passage → Passage} (hf : ∀ p, (f p).number = p.number) :
    (s.modPassage n f).undecided? n = (((s.passage? n).map f).bind Passage.judging).map Judging.undecided := by
  unfold State.undecided?
  cases hp : s.passage? n with
  | none => rw [passage?_modPassage s n hf, hp]; rfl
  | some p => rw [passage?_modPassage_same hp hf]; rfl

theorem undecided?_modItem (s : State) (r : ItemRef) (f : Item → Item) :
    (s.modItem r f).undecided? r.passage = s.undecided? r.passage := by
  rw [modItem_eq_modPassage, undecided?_modPassage _ _ fun p => p.modItem_number _ _]
  unfold State.undecided?
  cases s.passage? r.passage <;> rfl

theorem undecided?_giveVerdict {s : State} {r : ItemRef} {it : Item} (hit : s.item? r = some it) (hr : it.ruling = none)
    (v : Verdict) (reason : Reason) :
    (s.giveVerdict r v reason).undecided? r.passage = (s.undecided? r.passage).map (· - 1) := by
  rw [undecided?_of_asking (asking_giveVerdict v reason hit hr), undecided?_modPassage _ _ fun p => p.decide_number _ _]
  unfold State.undecided?
  cases s.passage? r.passage with
  | none => rfl
  | some p =>
    change (p.judging.map fun j => { j with undecided := j.undecided - 1 }).map _ = (p.judging.map _).map _
    cases p.judging <;> rfl

/-- To ask about an item changes its slot field at most. -/
theorem askAbout_spec {s : State} {r : ItemRef} {it : Item} (hit : s.item? r = some it) :
    (∃ slot, (s.askAbout r).item? r = some { it with slot := slot }) ∧
      (∀ x, x ≠ r → (s.askAbout r).item? x = s.item? x) ∧ (s.askAbout r).undecided? r.passage = s.undecided? r.passage := by
  unfold State.askAbout
  split
  next j _ =>
    obtain ⟨-, -, -, hitems⟩ := takeSlot_spec hit j
    obtain ⟨p, hp, -⟩ := passage?_of_item? hit
    refine ⟨⟨some j, (hitems r).trans (if_pos rfl)⟩, fun x hx => (hitems x).trans (if_neg hx), ?_⟩
    rw [takeSlot_of_item hp hit, undecided?_of_asking (asking_arbitrateTx _)]
    exact undecided?_modItem _ r _
  · exact ⟨⟨it.slot, hit⟩, fun _ _ => rfl, rfl⟩

/-! ### One item (R112, R113, R115) -/

/-- What judging decides of an item record: a verdict, or none for a query (R113, R115). -/
def State.decision (s : State) (d : Direction) (it : Item) : Option Ruling :=
  if d.outward then s.judgeOutward it (it.classFields.getD unmatchedClass) else some ⟨.notJudged, .direction⟩

/-- It depends on the loan list and the link besides. -/
theorem decision_congr {s t : State} (hloans : t.loans = s.loans) (hlinked : t.linked = s.linked) (d : Direction) (it : Item) :
    t.decision d it = s.decision d it := by
  unfold State.decision State.judgeOutward State.onLoan
  rw [hloans, hlinked]

theorem judgeItem_of_decided {s : State} {d : Direction} {r : ItemRef} {it : Item} (hit : s.item? r = some it) {z : Ruling}
    (h : s.decision d it = some z) : s.judgeItem d r = s.giveVerdict r z.verdict z.reason := by
  unfold State.judgeItem
  rw [hit]
  dsimp only
  unfold State.decision at h
  split
  next hout =>
    rw [if_pos hout] at h
    rw [h]
  next hin =>
    rw [if_neg hin] at h
    rw [← Option.some.inj h]

theorem judgeItem_of_asked {s : State} {d : Direction} {r : ItemRef} {it : Item} (hit : s.item? r = some it)
    (h : s.decision d it = none) : s.judgeItem d r = s.askAbout r := by
  unfold State.judgeItem
  rw [hit]
  dsimp only
  unfold State.decision at h
  split
  next hout =>
    rw [if_pos hout] at h
    rw [h]
  next hin =>
    rw [if_neg hin] at h
    cases h

/-- An item judged, and what its judging leaves of the others and of the count. -/
theorem judgeItem_spec {s : State} {d : Direction} {r : ItemRef} {it : Item} (hit : s.item? r = some it)
    (hr : it.ruling = none) :
    (∃ slot, (s.judgeItem d r).item? r = some { it with slot := slot, ruling := s.decision d it }) ∧
      (∀ x, x ≠ r → (s.judgeItem d r).item? x = s.item? x) ∧
      (s.judgeItem d r).undecided? r.passage =
        (s.undecided? r.passage).map (· - if (s.decision d it).isSome then 1 else 0) := by
  cases hz : s.decision d it with
  | some z =>
    rw [judgeItem_of_decided hit hz]
    have hitems := item?_giveVerdict z.verdict z.reason hit hr
    exact ⟨⟨it.slot, (hitems r).trans (if_pos rfl)⟩, fun x hx => (hitems x).trans (if_neg hx),
      undecided?_giveVerdict hit hr _ _⟩
  | none =>
    rw [judgeItem_of_asked hit hz]
    obtain ⟨⟨slot, hslot⟩, hothers, hcount⟩ := askAbout_spec hit
    refine ⟨⟨slot, by rw [hslot, ← hr]⟩, hothers, hcount.trans ?_⟩
    cases s.undecided? r.passage <;> rfl

/-! ### All items (R111) -/

theorem judgeItems_eq_foldl (n : Nat) (d : Direction) (l : List Nat) (s : State) :
    judgeItems n d l s = l.foldl (fun t i => t.judgeItem d ⟨n, i⟩) s := by
  induction l generalizing s with
  | nil => rfl
  | cons i l ih => exact ih _

/-- What judging decides of the item at a reference. -/
def State.decisionAt (s : State) (d : Direction) (r : ItemRef) : Option Ruling := (s.item? r).bind (s.decision d)

/-- Items judged one by one: each has what its step decides, in the state before them all. -/
theorem judgeItems_spec (n : Nat) (d : Direction) {l : List Nat} (hl : l.Nodup) {s : State}
    (hitems : ∀ i ∈ l, ∃ it, s.item? ⟨n, i⟩ = some it ∧ it.ruling = none) :
    (∀ i ∈ l, ∀ it, s.item? ⟨n, i⟩ = some it → ∃ slot, (judgeItems n d l s).item? ⟨n, i⟩ =
      some { it with slot := slot, ruling := s.decision d it }) ∧
    (∀ x, (∀ i ∈ l, x ≠ ⟨n, i⟩) → (judgeItems n d l s).item? x = s.item? x) ∧
    (judgeItems n d l s).undecided? n = (s.undecided? n).map (· - l.countP fun i => (s.decisionAt d ⟨n, i⟩).isSome) := by
  induction l generalizing s with
  | nil =>
    refine ⟨fun i hi => absurd hi List.not_mem_nil, fun _ _ => rfl, ?_⟩
    rw [List.countP_nil]
    cases h : s.undecided? n <;> exact h
  | cons i l ih =>
    obtain ⟨hi, hl⟩ := List.nodup_cons.mp hl
    obtain ⟨it, hit, hr⟩ := hitems i (List.mem_cons_self ..)
    obtain ⟨⟨slot, hslot⟩, hothers, hcount⟩ := judgeItem_spec (d := d) hit hr
    have hne (k : Nat) (hk : k ∈ l) : (⟨n, k⟩ : ItemRef) ≠ ⟨n, i⟩ := fun heq => hi (by cases heq; exact hk)
    have hframe := judgeItem_frame s d ⟨n, i⟩
    have hdecision (jt : Item) : (s.judgeItem d ⟨n, i⟩).decision d jt = s.decision d jt :=
      decision_congr (by rw [hframe]) (by rw [hframe]) d jt
    obtain ⟨hjudged, hrest, htotal⟩ := ih hl (s := s.judgeItem d ⟨n, i⟩) fun k hk => by
      rw [hothers _ (hne k hk)]
      exact hitems k (List.mem_cons_of_mem _ hk)
    refine ⟨fun k hk kt hkt => ?_, fun x hx => ?_, ?_⟩
    · change ∃ slot, (judgeItems n d l (s.judgeItem d ⟨n, i⟩)).item? ⟨n, k⟩ = _
      rcases List.mem_cons.mp hk with rfl | hk
      · obtain rfl : it = kt := Option.some.inj (hit.symm.trans hkt)
        rw [hrest ⟨n, k⟩ fun j hj => (hne j hj).symm]
        exact ⟨slot, hslot⟩
      · obtain ⟨slot, hkslot⟩ := hjudged k hk kt ((hothers _ (hne k hk)).trans hkt)
        rw [hdecision] at hkslot
        exact ⟨slot, hkslot⟩
    · refine (hrest x fun k hk => hx k (List.mem_cons_of_mem _ hk)).trans (hothers x (hx i (List.mem_cons_self ..)))
    · have hsame : l.countP (fun k => ((s.judgeItem d ⟨n, i⟩).decisionAt d ⟨n, k⟩).isSome) =
          l.countP fun k => (s.decisionAt d ⟨n, k⟩).isSome := by
        refine List.countP_congr fun k hk => ?_
        unfold State.decisionAt
        rw [hothers _ (hne k hk), funext hdecision]
      have hfirst : s.decisionAt d ⟨n, i⟩ = s.decision d it := by
        unfold State.decisionAt
        rw [hit, Option.bind_some]
      change (judgeItems n d l (s.judgeItem d ⟨n, i⟩)).undecided? n = _
      rw [htotal, hcount, hsame, List.countP_cons, hfirst, Option.map_map]
      cases s.undecided? n with
      | none => rfl
      | some u =>
        refine congrArg some ?_
        dsimp only [Function.comp_apply]
        omega

end Sys2Proof.Machine
end


section
/-! SUPPORT. A settle expiry: attribution, judging and report (01, section 1.5; 06, section 6.4). -/

namespace Sys2Proof.Machine

/-! ### The judging event (R111) -/

/-- A record set up for judging in a table that holds its number once. -/
theorem modPassage_setUp {s : State} (hn : s.numbers.Nodup) {p : Passage} (hp : s.passage? p.number = some p) :
    s.modPassage p.number s.setUp = { s with passages := replaceRecord s.passages (s.setUp p) } :=
  modPassage_eq_replace hn hp s.setUp rfl

theorem setUp_number (s : State) (q : Passage) : (s.setUp q).number = q.number := rfl

section Judging
variable {s : State} {p : Passage} {d : Direction} (hp : s.passage? p.number = some p) (hd : p.direction = some d)
include hp

theorem item?_setUp (i : Nat) : (s.modPassage p.number s.setUp).item? ⟨p.number, i⟩ =
    p.items[i]?.map fun it => { it with classFields := some (s.classOf it) } := by
  rw [item?_modPassage s _ (setUp_number s), if_pos rfl, hp, Option.bind_some]
  exact List.getElem?_map ..

theorem undecided?_setUp : (s.modPassage p.number s.setUp).undecided? p.number = some p.items.length := by
  rw [undecided?_modPassage _ _ (setUp_number s), hp]
  rfl

include hd

/-- A record set up, warned of where it has too many items, and its items judged one by one. -/
theorem judge_eq_foldl : s.judge p.number =
    (List.range p.items.length).foldl (fun t i => t.judgeItem d ⟨p.number, i⟩)
      (if (d = .out ∨ d = .unknown) ∧ p.flags.overflow = true then
        (s.modPassage p.number s.setUp).passageAlarm p.number .overflow none else s.modPassage p.number s.setUp) := by
  rw [judge_of_passage hp]
  dsimp only
  rw [hd, Option.getD_some, judgeItems_eq_foldl]
  simp only [Bool.and_eq_true, outward_iff]

/-- What the judging event leaves of each item and of the count of those without verdict (R102, R111 to R113, R116). -/
theorem judge_spec (hfresh : ∀ it ∈ p.items, it.ruling = none) :
    (∀ (i : Nat) (it : Item), p.items[i]? = some it → ∃ slot, (s.judge p.number).item? ⟨p.number, i⟩ = some
      { it with classFields := some (s.classOf it), slot := slot,
                ruling := s.decision d { it with classFields := some (s.classOf it) } }) ∧
    (s.judge p.number).undecided? p.number = some
      (p.items.filter fun it => s.decision d { it with classFields := some (s.classOf it) } == none).length := by
  rw [judge_eq_foldl hp hd, ← judgeItems_eq_foldl]
  have hwarned : ∃ u, (if (d = .out ∨ d = .unknown) ∧ p.flags.overflow = true then
      (s.modPassage p.number s.setUp).passageAlarm p.number .overflow none else s.modPassage p.number s.setUp) = u ∧
      u.asking = (s.modPassage p.number s.setUp).asking ∧ u.loans = s.loans ∧ u.linked = s.linked := by
    have hframe := passageAlarm_frame (s.modPassage p.number s.setUp) p.number .overflow none
    refine ⟨_, rfl, ?_⟩
    split
    · exact ⟨asking_passageAlarm .., by rw [hframe]; rfl, by rw [hframe]; rfl⟩
    · exact ⟨rfl, rfl, rfl⟩
  obtain ⟨u, hu, hasking, hloans, hlinked⟩ := hwarned
  rw [hu]
  have hitem (i : Nat) : u.item? ⟨p.number, i⟩ =
      p.items[i]?.map fun it => { it with classFields := some (s.classOf it) } :=
    (item?_of_asking hasking _).trans (item?_setUp hp i)
  have hdecision := decision_congr hloans hlinked d
  obtain ⟨hjudged, -, hcount⟩ := judgeItems_spec p.number d (List.nodup_range (n := p.items.length)) (s := u) fun i hi => by
    have hlt := List.mem_range.mp hi
    refine ⟨_, (hitem i).trans (congrArg _ (List.getElem?_eq_getElem hlt)), ?_⟩
    exact hfresh p.items[i] (List.getElem_mem hlt)
  refine ⟨fun i it hit => ?_, ?_⟩
  · have hlt := (List.getElem?_eq_some_iff.mp hit).1
    obtain ⟨slot, hslot⟩ := hjudged i (List.mem_range.mpr hlt) _ ((hitem i).trans (congrArg _ hit))
    rw [hdecision] at hslot
    exact ⟨slot, hslot⟩
  · have hdecided : (List.range p.items.length).countP (fun i => (u.decisionAt d ⟨p.number, i⟩).isSome) =
        p.items.countP fun it => (s.decision d { it with classFields := some (s.classOf it) }).isSome := by
      have hlist : (List.range p.items.length).map (p.items[·]?) = p.items.map some :=
        List.ext_getElem (by simp) fun i hi _ => by simp
      have hat (i : Nat) : u.decisionAt d ⟨p.number, i⟩ =
          p.items[i]?.bind fun it => s.decision d { it with classFields := some (s.classOf it) } := by
        unfold State.decisionAt
        rw [hitem, Option.bind_map, funext hdecision]
        rfl
      calc _ = ((List.range p.items.length).map (p.items[·]?)).countP (fun o =>
            (o.bind fun it => s.decision d { it with classFields := some (s.classOf it) }).isSome) := by
            rw [List.countP_map]
            exact List.countP_congr fun i _ => by rw [hat]; rfl
        _ = _ := by
            rw [hlist, List.countP_map]
            rfl
    have hsplit := List.length_eq_countP_add_countP
      (fun it => (s.decision d { it with classFields := some (s.classOf it) }).isSome) (l := p.items)
    have hnone : (p.items.filter fun it => s.decision d { it with classFields := some (s.classOf it) } == none).length =
        p.items.countP fun it => !(s.decision d { it with classFields := some (s.classOf it) }).isSome := by
      rw [← List.countP_eq_length_filter]
      refine List.countP_congr fun it _ => ?_
      cases s.decision d { it with classFields := some (s.classOf it) } <;> simp
    rw [hcount, undecided?_of_asking hasking, undecided?_setUp hp, hdecided, hnone]
    refine congrArg some ?_
    change p.items.length - List.countP _ _ = _
    simp only [Bool.not_eq_true, Bool.decide_eq_false] at hsplit
    omega

end Judging

/-! ### A passage that takes no item (R22, R97, R121) -/

/-- A state with its table and device counters replaced. -/
def State.withTable (s : State) (passages : List Passage) (device : DeviceCounters) : State :=
  { s with passages := passages, device := device }

theorem arbitrateTx_withTable (s : State) (passages : List Passage) (device : DeviceCounters) :
    (s.withTable passages device).arbitrateTx = s.arbitrateTx.withTable passages device := by
  have hpending : (s.withTable passages device).pendingSlots = s.pendingSlots := rfl
  unfold State.arbitrateTx
  rw [hpending]
  simp only [State.withTable]
  split
  · rfl
  · split
    · rfl
    · split
      · rfl
      · split <;> rfl

/-- Records and device counters make no difference to what a report queued leaves of the queues. -/
theorem queueReport_withTable (s : State) (passages : List Passage) (device : DeviceCounters) (b : Body) :
    ((s.withTable passages device).queueReport b).reports = (s.queueReport b).reports ∧
      ((s.withTable passages device).queueReport b).sending = (s.queueReport b).sending ∧
      ((s.withTable passages device).queueReport b).notices = (s.queueReport b).notices := by
  by_cases h : s.reports.length < Config.maxReports
  · have hqueued : (s.withTable passages device).queueReport b = (s.queueReport b).withTable passages device :=
      calc (s.withTable passages device).queueReport b
          = (State.withTable { s with reports := s.reports ++ [b] } passages device).arbitrateTx := if_pos h
        _ = State.withTable (State.arbitrateTx { s with reports := s.reports ++ [b] }) passages device :=
            arbitrateTx_withTable ..
        _ = (s.queueReport b).withTable passages device := congrArg (State.withTable · passages device) (if_pos h).symm
    rw [hqueued]
    exact ⟨rfl, rfl, rfl⟩
  · rw [queueReport_of_full h, queueReport_of_full (s := s.withTable passages device) h]
    exact ⟨rfl, rfl, rfl⟩

/-- The record of a passage that takes no item, as its judging event leaves it. -/
def State.judgedEmpty (s : State) (p : Passage) : Passage :=
  { p with phase := .judging, settle := none, items := [], judging := some ⟨false, 0⟩,
           flags := { p.flags with countOnly := p.flags.countOnly || s.params.countOnly[p.lane] } }

section Empty
variable {s : State} {p : Passage} {d : Direction} (hp : s.passage? p.number = some p) (hd : p.direction = some d)
  (hoverflow : p.flags.overflow = false) (hwinners : s.winners p d = []) (hn : s.numbers.Nodup)
include hp hd hoverflow hwinners hn

/-- Attribution without winners claims nothing. -/
theorem attribute_of_no_winners : s.attribute p.number = s.withTable
    (replaceRecord s.passages { p with phase := .judging, settle := none, items := [] })
    { s.device with unattributed := satAdd Config.max16 s.device.unattributed (s.unattributedCount p d) } := by
  have hlisted : ({ p with
      phase := .judging, settle := none, items := [],
      flags := { p.flags with overflow := p.flags.overflow || decide (Config.maxItems < 0) } } : Passage) =
      { p with phase := .judging, settle := none, items := [] } := by
    rw [hoverflow]
    simp [← hoverflow]
  have hdir : p.direction.getD .unknown = d := by rw [hd, Option.getD_some]
  unfold State.attribute
  rw [hp]
  dsimp only
  rw [hdir, hwinners]
  refine (modPassage_eq_replace (s := s.modDevice _) hn hp _ rfl).trans ?_
  exact congrArg (fun q => State.withTable s (replaceRecord s.passages q) _) hlisted

/-- Its judging event reports it and frees its record. -/
theorem settleNow_of_no_winners : s.settleNow p.number =
    ((s.withTable (replaceRecord s.passages (s.judgedEmpty p))
      { s.device with unattributed := satAdd Config.max16 s.device.unattributed (s.unattributedCount p d) }).queueReport
        (reportBody (s.judgedEmpty p))).freePassage p.number := by
  unfold State.settleNow
  rw [attribute_of_no_winners hp hd hoverflow hwinners hn]
  generalize hq : ({ p with phase := .judging, settle := none, items := [] } : Passage) = q
  generalize ({ s.device with unattributed := _ } : DeviceCounters) = device
  have hnumber : q.number = p.number := by rw [← hq]
  have hfound : (s.withTable (replaceRecord s.passages q) device).passage? q.number = some q :=
    passage?_replaceRecord (s := s) (hnumber ▸ hp) rfl
  have hnodup : (s.withTable (replaceRecord s.passages q) device).numbers.Nodup := by
    change ((replaceRecord s.passages q).map Passage.number).Nodup
    rw [map_number_replaceRecord]
    exact hn
  have hempty : (s.withTable (replaceRecord s.passages q) device).setUp q = s.judgedEmpty p := by
    rw [← hq]
    rfl
  have hjudged : (s.withTable (replaceRecord s.passages q) device).judge q.number =
      s.withTable (replaceRecord s.passages (s.judgedEmpty p)) device := by
    have hnone : ¬((d = .out ∨ d = .unknown) ∧ q.flags.overflow = true) := fun ⟨_, hset⟩ => by
      rw [← hq] at hset
      simp [hoverflow] at hset
    have hitems : q.items = [] := by rw [← hq]
    rw [judge_eq_foldl hfound (by rw [← hq]; exact hd), if_neg hnone, hitems, modPassage_setUp hnodup hfound, hempty]
    change State.withTable s (replaceRecord (replaceRecord s.passages q) _) device = _
    rw [replaceRecord_replaceRecord _ (show (s.judgedEmpty p).number = q.number from hnumber.symm)]
  rw [← hnumber, hjudged]
  have hlast : (s.withTable (replaceRecord s.passages (s.judgedEmpty p)) device).passage? (s.judgedEmpty p).number =
      some (s.judgedEmpty p) := passage?_replaceRecord (s := s) hp rfl
  have hsame : q.number = (s.judgedEmpty p).number := hnumber
  unfold State.completeIfDone
  rw [hsame, hlast]
  exact if_pos ⟨rfl, rfl⟩

end Empty

theorem endEvent_keeps (s s0 : State) : (s.endEvent s0).passages = s.passages ∧ (s.endEvent s0).reports = s.reports ∧
    (s.endEvent s0).sending = s.sending ∧ (s.endEvent s0).sightings = s.sightings ∧ (s.endEvent s0).counts = s.counts ∧
    (s.endEvent s0).alarms = s.alarms ∧ (s.endEvent s0).notices = s.notices ∧ (s.endEvent s0).device = s.device := by
  obtain ⟨t, hradio, hline⟩ := endEvent_radio_then_lines s s0
  rw [hline, hradio]
  exact ⟨rfl, rfl, rfl, rfl, rfl, rfl, rfl, rfl⟩

/-- Settles O14: the expiry, the passage without items, the judging event item by item. -/
theorem settleExpiryJudgesPassage : Obligations.SettleExpiryJudgesPassage := by
  refine ⟨fun s p hp hphase hfires => ?_, fun s p d hp hphase hfires hd hoverflow hwinners hn => ?_,
    fun s p d hp hd hn hfresh => ⟨?_, fun i it hit => ?_, ?_⟩⟩
  · refine congrArg Host.Outcome.next ?_
    unfold settleTimerExpiry
    rw [hp]
    exact if_pos ⟨hphase, hfires⟩
  · have hexec : exec (.settleTimerExpiry p.number) s = .next ((s.settleNow p.number).endEvent s) := by
      refine congrArg Host.Outcome.next ?_
      unfold settleTimerExpiry
      rw [hp]
      exact if_pos ⟨hphase, hfires⟩
    obtain ⟨hpassages, hreports, hsending, hsightings, hcounts, halarms, hnotices, hdevice⟩ :=
      endEvent_keeps (s.settleNow p.number) s
    intro body
    have hcount : s.unattributedCount p d =
        ((s.candidates p d).filter fun e => s.contest p e == .unattributed).length := List.countP_eq_length_filter
    refine ⟨_, hexec, ?_⟩
    rw [hpassages, hreports, hsending, hsightings, hcounts, halarms, hnotices, hdevice,
      settleNow_of_no_winners hp hd hoverflow hwinners hn, ← hcount]
    generalize hdev : ({ s.device with unattributed := satAdd Config.max16 s.device.unattributed (s.unattributedCount p d) } :
      DeviceCounters) = device
    have hqueues := queueReport_withTable s (replaceRecord s.passages (s.judgedEmpty p)) device (reportBody (s.judgedEmpty p))
    have hframe := queueReport_frame (s.withTable (replaceRecord s.passages (s.judgedEmpty p)) device)
      (reportBody (s.judgedEmpty p))
    have hunattributed := unattributed_queueReport (s := s.withTable (replaceRecord s.passages (s.judgedEmpty p)) device)
      (reportBody (s.judgedEmpty p))
    obtain ⟨hr, hs, hnot⟩ := hqueues
    refine ⟨?_, hr, hs, ?_, ?_, ?_, hnot, hunattributed.trans (by rw [← hdev]; rfl)⟩
    · have htable : ((s.withTable (replaceRecord s.passages (s.judgedEmpty p)) device).queueReport
          (reportBody (s.judgedEmpty p))).passages = replaceRecord s.passages (s.judgedEmpty p) := by rw [hframe]; rfl
      unfold State.freePassage
      dsimp only
      rw [htable]
      exact filter_replaceRecord s.passages (s.judgedEmpty p)
    · change ((s.withTable _ device).queueReport _).sightings = _
      rw [hframe]
      rfl
    · change ((s.withTable _ device).queueReport _).counts = _
      rw [hframe]
      rfl
    · change ((s.withTable _ device).queueReport _).alarms = _
      rw [hframe]
      rfl
  · rw [judge_eq_foldl hp hd, modPassage_setUp hn hp]
    rfl
  · obtain ⟨hjudged, -⟩ := judge_spec hp hd hfresh
    obtain ⟨slot, hslot⟩ := hjudged i it hit
    refine ⟨_, hslot, rfl, rfl, ?_⟩
    dsimp only
    simp only [← outward_iff]
    rfl
  · obtain ⟨-, hcount⟩ := judge_spec hp hd hfresh
    refine hcount.trans ?_
    dsimp only
    simp only [← outward_iff]
    rfl

end Sys2Proof.Machine
end


section
/-! SUPPORT. Which record a full table completes by force, and the attribution and judging of one that settles (01, R23). -/

namespace Sys2Proof.Machine

/-! ### The oldest record that is not OPEN -/

/-- The search for the oldest of a list of records. -/
def oldestOf (best : Passage) (l : List Passage) : Passage :=
  l.foldl (fun best y => if before y.opened best.opened then y else best) best

theorem oldestOf_mem (l : List Passage) (best : Passage) : oldestOf best l ∈ best :: l := by
  induction l generalizing best with
  | nil => exact List.mem_singleton.mpr rfl
  | cons y l ih =>
    change oldestOf (if before y.opened best.opened then y else best) l ∈ _
    have hmem := ih (if before y.opened best.opened then y else best)
    split at hmem
    · rw [if_pos ‹_›]
      exact List.mem_cons_of_mem _ hmem
    · rw [if_neg ‹_›]
      exact (List.mem_cons.mp hmem).elim (fun h => List.mem_cons.mpr (.inl h))
        fun h => List.mem_cons_of_mem _ (List.mem_cons_of_mem _ h)

/-- A record that none of the rest is older than stays the oldest. -/
theorem oldestOf_of_least {p : Passage} {l : List Passage}
    (h : ∀ q ∈ l, q.opened = p.opened ∨ before p.opened q.opened = true) : oldestOf p l = p := by
  induction l with
  | nil => rfl
  | cons y l ih =>
    obtain ⟨hy, hl⟩ := List.forall_mem_cons.mp h
    have hkeep : before y.opened p.opened = false := by
      rcases hy with hsame | hlater
      · rw [hsame]
        simp [before]
      · exact before_asymm hlater
    change oldestOf (if before y.opened p.opened then y else p) l = p
    rw [hkeep, if_neg Bool.false_ne_true]
    exact ih hl

/-- A record older than all before it and not younger than those after it is the oldest. -/
theorem oldestOf_of_oldest {p x : Passage} {front rest : List Passage}
    (hfront : ∀ q ∈ x :: front, before p.opened q.opened = true)
    (hrest : ∀ q ∈ rest, q.opened = p.opened ∨ before p.opened q.opened = true) :
    oldestOf x (front ++ p :: rest) = p := by
  have hbefore : before p.opened (oldestOf x front).opened = true := hfront _ (oldestOf_mem front x)
  unfold oldestOf at hbefore ⊢
  rw [List.foldl_append, List.foldl_cons, if_pos hbefore]
  exact oldestOf_of_least hrest

/-- The record chosen is the oldest of those not OPEN, of equal times the one opened first (R23). -/
theorem forcedChoice_of_oldest {s : State} {p : Passage} {l₁ l₂ : List Passage} (hl : s.passages = l₁ ++ p :: l₂)
    (hp : p.phase ≠ .open_) (h₁ : ∀ q ∈ l₁, q.phase ≠ .open_ → before p.opened q.opened = true)
    (h₂ : ∀ q ∈ l₂, q.phase ≠ .open_ → q.opened = p.opened ∨ before p.opened q.opened = true) :
    s.forcedChoice = some p := by
  have hfront : ∀ q ∈ l₁.filter (fun q => q.phase != .open_), before p.opened q.opened = true := fun q hq => by
    obtain ⟨hmem, hphase⟩ := List.mem_filter.mp hq
    exact h₁ q hmem (bne_iff_ne.mp hphase)
  have hrest : ∀ q ∈ l₂.filter (fun q => q.phase != .open_), q.opened = p.opened ∨ before p.opened q.opened = true :=
    fun q hq => by
      obtain ⟨hmem, hphase⟩ := List.mem_filter.mp hq
      exact h₂ q hmem (bne_iff_ne.mp hphase)
  unfold State.forcedChoice
  rw [hl, List.filter_append, List.filter_cons, if_pos (bne_iff_ne.mpr hp)]
  generalize l₁.filter (fun q => q.phase != .open_) = front at hfront
  cases front with
  | nil => exact congrArg some (oldestOf_of_least hrest)
  | cons x front => exact congrArg some (oldestOf_of_oldest hfront hrest)

theorem makeRoom_of_room {s : State} (h : s.passages.length < 16) : s.makeRoom = s := if_pos h

theorem makeRoom_of_choice {s : State} (h : 16 ≤ s.passages.length) {p : Passage} (hp : s.forcedChoice = some p) :
    s.makeRoom = s.forceCompletion p := by
  unfold State.makeRoom
  rw [hp]
  exact if_neg (Nat.not_lt.mpr h)

/-! ### The phase of a record through its judging -/

/-- The phase of the record of a number. -/
def State.phase? (s : State) (n : Nat) : Option Phase := (s.passage? n).map Passage.phase

theorem phase?_of_asking {s t : State} (h : t.asking = s.asking) (n : Nat) : t.phase? n = s.phase? n := by
  have heq (u : State) : u.phase? n = (u.asking.table.find? fun v => v.number == n).map PassageView.phase := by
    simp only [State.phase?, State.passage?, State.asking, List.find?_map, Option.map_map]
    rfl
  rw [heq, heq, h]

theorem phase?_modPassage (s : State) (n : Nat) {f : Passage → Passage} (hf : ∀ p, (f p).number = p.number)
    (hphase : ∀ p, (f p).phase = p.phase) (m : Nat) : (s.modPassage n f).phase? m = s.phase? m := by
  unfold State.phase?
  rw [passage?_modPassage s n hf, Option.map_map]
  refine congrArg (fun g => Option.map g (s.passage? m)) (funext fun p => ?_)
  dsimp only [Function.comp_apply]
  split
  · exact hphase p
  · rfl

theorem phase?_giveVerdict (s : State) (r : ItemRef) (v : Verdict) (reason : Reason) (m : Nat) :
    (s.giveVerdict r v reason).phase? m = s.phase? m := by
  cases hit : s.item? r with
  | none => rw [giveVerdict_of_no_item hit]
  | some it =>
    by_cases hr : it.ruling = none
    · rw [phase?_of_asking (asking_giveVerdict v reason hit hr)]
      exact phase?_modPassage _ _ (fun p => p.decide_number _ _) (fun _ => rfl) m
    · rw [giveVerdict_of_ruled hit hr]

theorem phase?_askAbout (s : State) (r : ItemRef) (m : Nat) : (s.askAbout r).phase? m = s.phase? m := by
  unfold State.askAbout
  split
  next j _ =>
    cases hit : s.item? r with
    | none => rw [takeSlot_of_no_item hit]
    | some it =>
      obtain ⟨p, hp, -⟩ := passage?_of_item? hit
      rw [takeSlot_of_item hp hit, phase?_of_asking (asking_arbitrateTx _)]
      exact phase?_modPassage _ _ (fun p => p.modItem_number _ _) (fun _ => rfl) m
  · rfl

theorem phase?_judgeItem (s : State) (d : Direction) (r : ItemRef) (m : Nat) :
    (s.judgeItem d r).phase? m = s.phase? m := by
  cases hit : s.item? r with
  | none =>
    unfold State.judgeItem
    rw [hit]
  | some it =>
    cases hz : s.decision d it with
    | none => rw [judgeItem_of_asked hit hz, phase?_askAbout]
    | some z => rw [judgeItem_of_decided hit hz, phase?_giveVerdict]

theorem phase?_judgeItems (n : Nat) (d : Direction) (l : List Nat) (s : State) (m : Nat) :
    (judgeItems n d l s).phase? m = s.phase? m := by
  induction l generalizing s with
  | nil => rfl
  | cons i l ih => exact (ih _).trans (phase?_judgeItem s d _ m)

/-- The judging event moves no record from its state. -/
theorem phase?_judge (s : State) (n m : Nat) : (s.judge n).phase? m = s.phase? m := by
  cases hp : s.passage? n with
  | none =>
    unfold State.judge
    rw [hp]
  | some p =>
    have hset := phase?_modPassage s n (f := s.setUp) (setUp_number s) (fun _ => rfl) m
    rw [judge_of_passage hp]
    dsimp only
    rw [phase?_judgeItems]
    split
    · rw [phase?_of_asking (asking_passageAlarm ..), hset]
    · exact hset

/-! ### A record that settles (R23) -/

/-- A SETTLING record is attributed and judged, and then completed by force as it stands in JUDGING. -/
theorem forceCompletion_of_settling {s : State} {p : Passage} (hp : s.passage? p.number = some p)
    (hphase : p.phase = .settling) : ∃ q, ((s.attribute p.number).judge p.number).passage? p.number = some q ∧
      q.phase = .judging ∧ s.forceCompletion p = ((s.attribute p.number).judge p.number).forceCompletion q := by
  obtain ⟨items, overflow, sightings, device, -, hattributed⟩ := attribute_spec hp
  have hlisted : (s.attribute p.number).phase? p.number = some .judging := by
    rw [hattributed]
    unfold State.phase?
    rw [passage?_modPassage_same (s := { s with sightings := sightings, device := device })
      (f := fun q => q.listed items overflow) hp fun _ => rfl]
    rfl
  have hjudged := (phase?_judge (s.attribute p.number) p.number p.number).trans hlisted
  obtain ⟨q, hq, hjudging⟩ := Option.map_eq_some_iff.mp hjudged
  refine ⟨q, hq, hjudging, ?_⟩
  obtain ⟨-, hnumber⟩ := passage?_mem hq
  unfold State.forceCompletion
  rw [hnumber, if_pos hphase, if_neg (by rw [hjudging]; exact nofun)]

end Sys2Proof.Machine
end


section
/-! SUPPORT. A passage's items forced one after another (07, R117, R134). -/

namespace Sys2Proof.Machine

/-! ### The transmitter beside slots, waiting list, records, counts and alarms -/

/-- A state with what a forced completion changes beside the transmitter's queues replaced. -/
def State.regate (s : State) (waiting : List ItemRef) (slots : Vector (Option Question) 4) (passages : List Passage)
    (counts : Vector LaneCounts 4) (alarms : Vector LaneAlarm 4) : State :=
  { s with waiting := waiting, slots := slots, passages := passages, counts := counts, alarms := alarms }

section Regate
variable {s : State} {waiting : List ItemRef} {slots : Vector (Option Question) 4} {passages : List Passage}
  {counts : Vector LaneCounts 4} {alarms : Vector LaneAlarm 4}

/-- Slots made FREE leave a FREE transmitter with nothing to send. -/
theorem txIdle_regate (hs : s.TxIdle) (hslots : ∀ j : SlotNo, slots[j] = none ∨ slots[j] = s.slots[j]) :
    (s.regate waiting slots passages counts alarms).TxIdle := fun h => by
  obtain ⟨hreply, hpending, hnotices, hreports⟩ := hs h
  refine ⟨hreply, List.eq_nil_iff_forall_not_mem.mpr fun ⟨j, q⟩ hmem => ?_, hnotices, hreports⟩
  obtain ⟨hq, hasked⟩ := mem_pendingSlots.mp hmem
  have hq : slots[j] = some q := hq
  rcases hslots j with hnone | hsame
  · rw [hnone] at hq
    cases hq
  · exact absurd (hpending ▸ mem_pendingSlots.mpr ⟨hsame ▸ hq, hasked⟩) List.not_mem_nil

/-- With nothing PENDING a notice is queued as if they were not replaced. -/
theorem queueNotice_regate (hs : s.TxIdle) (ht : (s.regate waiting slots passages counts alarms).TxIdle) (b : Body) :
    (s.regate waiting slots passages counts alarms).queueNotice b =
      (s.queueNotice b).regate waiting slots passages counts alarms := by
  cases h : s.sending with
  | none =>
    rw [queueNotice_of_free hs h, queueNotice_of_free ht h]
    rfl
  | some f =>
    rw [queueNotice_of_busy h, queueNotice_of_busy (s := s.regate waiting slots passages counts alarms) h]
    by_cases hroom : s.notices.length < Config.maxNotices
    · rw [if_pos hroom, if_pos (by exact hroom)]
      rfl
    · rw [if_neg hroom, if_neg (by exact hroom)]
      rfl

end Regate

/-! ### One item forced (R117, R134) -/

/-- An item's slot made FREE, if it has one. -/
def State.clearSlot (s : State) : Option SlotNo → State
  | some j => s.setSlot j none
  | none => s

theorem forceItems_eq_foldl (n : Nat) (l : List Nat) (s : State) :
    forceItems n l s = l.foldl (fun t i => t.forceItem ⟨n, i⟩) s := by
  induction l generalizing s with
  | nil => rfl
  | cons i l ih => rw [forceItems_cons, ih, List.foldl_cons]

section Item
variable {s : State} {p : Passage} {g : Judging} {i : Nat} {it : Item}

theorem forceItem_of_ruled (hp : s.passage? p.number = some p) (hit : p.items[i]? = some it) (hr : it.ruling ≠ none) :
    s.forceItem ⟨p.number, i⟩ = s := by
  unfold State.forceItem
  rw [item?_of_passage (r := ⟨p.number, i⟩) hp, hit]
  exact if_pos (Option.isSome_iff_ne_none.mpr hr)

theorem giveFallback_of_item {r : ItemRef} (hit : s.item? r = some it) (reason : Reason) :
    s.giveFallback r reason = s.giveVerdict r it.fallback reason := by
  unfold State.giveFallback
  rw [hit]

theorem noticed_clearSlot (hs : s.TxIdle) (o : Option SlotNo) (v : Verdict) (reason : Reason) :
    (s.clearSlot o).noticed p g it v reason = (s.noticed p g it v reason).clearSlot o := by
  cases o with
  | none => rfl
  | some j => exact noticed_setSlot hs j

/-- An item without verdict that is forced: its slot freed, its fallback given with all that follows. -/
theorem forceItem_of_unruled (hn : s.numbers.Nodup) (hidle : s.TxIdle) (hp : s.passage? p.number = some p)
    (hg : p.judging = some g) (hit : p.items[i]? = some it) (hr : it.ruling = none)
    (hslot : ∀ j, it.slot = some j → ∃ q, s.slots[j] = some q ∧ q.ref = ⟨p.number, i⟩) :
    s.forceItem ⟨p.number, i⟩ = ((s.noticed p g it it.fallback .forced).clearSlot it.slot).withLanes
      (replaceRecord s.passages (p.ruled g i { it with slot := none } it.fallback .forced))
      (s.countsRuled p g it.fallback) (s.alarmsRuled p it.fallback) := by
  have hitem : s.item? ⟨p.number, i⟩ = some it := (item?_of_passage (r := ⟨p.number, i⟩) hp).trans hit
  unfold State.forceItem
  rw [hitem]
  dsimp only
  rw [if_neg (by rw [hr]; exact Bool.false_ne_true)]
  cases ho : it.slot with
  | none =>
    have hsame : ({ it with slot := none } : Item) = it := by rw [← ho]
    dsimp only
    rw [hsame, giveFallback_of_item hitem, giveVerdict_eq (r := ⟨p.number, i⟩) hn hp hg hit hr]
    rfl
  | some j =>
    obtain ⟨q, hj, href⟩ := hslot j ho
    dsimp only
    have hlanes := freeSlot_eq (q := q) hn hj (p := p) (by rw [href]; exact hp) (it := it) (by rw [href]; exact hit)
    rw [href] at hlanes
    dsimp only at hlanes
    generalize hfree : ({ p with items := p.items.set i { it with slot := none } } : Passage) = free at hlanes
    have hnumber : free.number = p.number := by rw [← hfree]
    have hfound : (s.freeSlot j).passage? p.number = some free := by
      rw [hlanes, ← hnumber]
      exact passage?_replaceRecord (s := s) (x := p) (by rw [hnumber]; exact hp) rfl
    have hnodup : (s.freeSlot j).numbers.Nodup := by
      rw [hlanes]
      exact (congrArg List.Nodup (map_number_replaceRecord s.passages free)).mpr hn
    have hpos : i < p.items.length := (List.getElem?_eq_some_iff.mp hit).1
    have hfreed : free.items[i]? = some { it with slot := none } := by
      rw [← hfree]
      exact List.getElem?_set_self hpos
    have hruled : free.ruled g i { it with slot := none } it.fallback .forced =
        p.ruled g i { it with slot := none } it.fallback .forced := by
      simp [Passage.ruled, ← hfree]
    rw [giveFallback_of_item ((item?_of_passage (r := ⟨p.number, i⟩) hfound).trans hfreed),
      giveVerdict_eq (r := ⟨p.number, i⟩) hnodup hfound (by rw [← hfree]; exact hg) hfreed hr]
    dsimp only
    have hfallback : ({ it with slot := none } : Item).fallback = it.fallback := rfl
    rw [hfallback, hruled, hlanes, noticed_withLanes]
    subst hfree
    have hset := noticed_clearSlot (p := p) (g := g) (it := it) hidle (some j) it.fallback .forced
    have htable : replaceRecord (replaceRecord s.passages { p with items := p.items.set i { it with slot := none } })
        (p.ruled g i { it with slot := none } it.fallback .forced) =
        replaceRecord s.passages (p.ruled g i { it with slot := none } it.fallback .forced) :=
      replaceRecord_replaceRecord _ rfl
    rw [← hset, ← htable]
    rfl

end Item

end Sys2Proof.Machine
end


section
/-! SUPPORT. What has been forced of a passage, item by item (07, R117, R118, R134). -/

namespace Sys2Proof.Machine

/-! ### The record and the state after the first items -/

/-- An item record as forcing leaves it. -/
def Item.forced (it : Item) : Item :=
  if it.ruling = none then { it with slot := none, ruling := some ⟨it.fallback, .forced⟩ } else it

/-- The items among the first `m` whose fallback is an alarm. -/
def Passage.alarmed (p : Passage) (m : Nat) : List Item :=
  (p.items.take m).filter fun it => it.ruling == none && it.fallback == .alarm

/-- The judging state after the first `m` items have been forced. -/
def Judging.forcedTo (g : Judging) (p : Passage) (m : Nat) : Judging :=
  ⟨g.mark || !(p.alarmed m).isEmpty, g.undecided - (p.items.take m).countP fun it => it.ruling == none⟩

/-- A record whose first `m` items have been forced. -/
def Passage.forcedTo (p : Passage) (g : Judging) (m : Nat) : Passage :=
  { p with items := (p.items.take m).map Item.forced ++ p.items.drop m, judging := some (g.forcedTo p m) }

/-- The notice of the first alarm that forcing gives (R118). -/
def State.forcedNotice (s : State) (p : Passage) (g : Judging) (alarmed : List Item) : State :=
  match alarmed with
  | it :: _ =>
    if g.mark || p.flags.countOnly then s
    else s.queueNotice (alarmNoticeBody p.lane p.number .forced (some it.item))
  | [] => s

/-- The slots without the questions about the first `m` items of a passage. -/
def State.slotsWithout (s : State) (n m : Nat) : Vector (Option Question) 4 :=
  s.slots.map fun o => if o.any (fun q => q.ref.passage == n && q.ref.position < m) then none else o

/-- The counts after the first `m` items have been forced. -/
def State.countsForced (s : State) (p : Passage) (g : Judging) (m : Nat) : Vector LaneCounts 4 :=
  if p.alarmed m ≠ [] ∧ g.mark = false then
    modAt s.counts p.lane (fun c => { c with withAlarm := min (c.withAlarm + 1) 4294967295 })
  else s.counts

/-- The alarms after the first `m` items have been forced. -/
def State.alarmsForced (s : State) (p : Passage) (m : Nat) : Vector LaneAlarm 4 :=
  if p.alarmed m ≠ [] ∧ p.flags.countOnly = false then
    s.alarms.set p.lane ⟨.sounding, some (s.gateTime + BitVec.ofNat 32
      ((if s.params.alarmTime = 0 then 256 else s.params.alarmTime) * 100))⟩
  else s.alarms

/-- The state after the first `m` items have been forced. -/
def State.forcedTo (s : State) (p : Passage) (g : Judging) (m : Nat) : State :=
  (s.forcedNotice p g (p.alarmed m)).regate (s.waiting.filter fun r => r.passage != p.number)
    (s.slotsWithout p.number m) (replaceRecord s.passages (p.forcedTo g m)) (s.countsForced p g m) (s.alarmsForced p m)

/-! ### One item more -/

section Succ
variable {p : Passage} {g : Judging} {m : Nat} {it : Item} (hit : p.items[m]? = some it)
include hit

theorem take_succ_items : p.items.take (m + 1) = p.items.take m ++ [it] := by
  rw [List.take_add_one, hit]
  rfl

theorem drop_items : p.items.drop m = it :: p.items.drop (m + 1) := by
  obtain ⟨hlt, rfl⟩ := List.getElem?_eq_some_iff.mp hit
  exact List.drop_eq_getElem_cons hlt

theorem length_take_items (f : Item → Item) : ((p.items.take m).map f).length = m := by
  have hlt := (List.getElem?_eq_some_iff.mp hit).1
  rw [List.length_map, List.length_take]
  omega

theorem alarmed_succ_of_ruled (hr : it.ruling ≠ none) : p.alarmed (m + 1) = p.alarmed m := by
  unfold Passage.alarmed
  rw [take_succ_items hit, List.filter_append]
  simp [hr]

theorem alarmed_succ (hr : it.ruling = none) :
    p.alarmed (m + 1) = p.alarmed m ++ if it.fallback = .alarm then [it] else [] := by
  unfold Passage.alarmed
  rw [take_succ_items hit, List.filter_append, List.filter_singleton]
  by_cases hf : it.fallback = .alarm
  · simp [hr, hf]
  · simp [hr, hf, beq_false_of_ne hf]

theorem forcedTo_succ_of_ruled (hr : it.ruling ≠ none) : p.forcedTo g (m + 1) = p.forcedTo g m := by
  have hitems : (p.items.take (m + 1)).map Item.forced ++ p.items.drop (m + 1) =
      (p.items.take m).map Item.forced ++ p.items.drop m := by
    rw [take_succ_items hit, List.map_append, drop_items hit, List.append_assoc]
    simp [Item.forced, hr]
  have hcount : (p.items.take (m + 1)).countP (fun it => it.ruling == none) =
      (p.items.take m).countP fun it => it.ruling == none := by
    rw [take_succ_items hit, List.countP_append]
    simp [hr]
  unfold Passage.forcedTo Judging.forcedTo
  rw [hitems, hcount, alarmed_succ_of_ruled hit hr]

theorem items_forcedTo : (p.forcedTo g m).items[m]? = some it := by
  change ((p.items.take m).map Item.forced ++ p.items.drop m)[m]? = _
  rw [List.getElem?_append_right (by rw [length_take_items hit]), length_take_items hit, Nat.sub_self, drop_items hit]
  rfl

theorem forcedTo_succ (hr : it.ruling = none) : p.forcedTo g (m + 1) =
    (p.forcedTo g m).ruled (g.forcedTo p m) m { it with slot := none } it.fallback .forced := by
  have hforced : it.forced = { it with slot := none, ruling := some ⟨it.fallback, .forced⟩ } := if_pos hr
  have hitems : (p.items.take (m + 1)).map Item.forced ++ p.items.drop (m + 1) =
      ((p.items.take m).map Item.forced ++ p.items.drop m).set m
        { it with slot := none, ruling := some ⟨it.fallback, .forced⟩ } := by
    rw [take_succ_items hit, List.map_append, drop_items hit, List.append_assoc,
      List.set_append_right _ _ (by rw [length_take_items hit]), length_take_items hit, Nat.sub_self, ← hforced]
    rfl
  have hmark : (g.mark || !(p.alarmed (m + 1)).isEmpty) =
      ((g.mark || !(p.alarmed m).isEmpty) || it.fallback == .alarm) := by
    rw [alarmed_succ hit hr, Bool.or_assoc]
    by_cases hf : it.fallback = .alarm
    · simp [hf]
    · simp [hf, beq_false_of_ne hf]
  have hcount : (p.items.take (m + 1)).countP (fun it => it.ruling == none) =
      ((p.items.take m).countP fun it => it.ruling == none) + 1 := by
    rw [take_succ_items hit, List.countP_append]
    simp [hr]
  unfold Passage.forcedTo Passage.ruled Judging.forcedTo
  dsimp only
  rw [hitems, hmark, hcount, Nat.sub_add_eq]

end Succ

section Step
variable {s : State} {p : Passage} {g : Judging} {m : Nat} {it : Item}

theorem slotsWithout_getElem (n : Nat) (j : SlotNo) : (s.slotsWithout n m)[j] =
    if s.slots[j].any (fun q => q.ref.passage == n && q.ref.position < m) then none else s.slots[j] := by
  unfold State.slotsWithout
  rw [Fin.getElem_fin, Vector.getElem_map]
  rfl

theorem forcedNotice_frame (alarmed : List Item) : SendFrame s (s.forcedNotice p g alarmed) := by
  unfold State.forcedNotice
  split
  · split
    · exact .refl s
    · exact queueNotice_frame _ _
  · exact .refl s

theorem forcedNotice_slots (hs : s.TxIdle) (alarmed : List Item) : (s.forcedNotice p g alarmed).slots = s.slots := by
  unfold State.forcedNotice
  split
  · split
    · rfl
    · exact slots_queueNotice hs _
  · rfl

theorem forcedNotice_txIdle (hs : s.TxIdle) (alarmed : List Item) : (s.forcedNotice p g alarmed).TxIdle := by
  unfold State.forcedNotice
  split
  · split
    · exact hs
    · exact .of_sending (sending_queueNotice hs _)
  · exact hs

theorem slotsWithout_free_or_same (n : Nat) (j : SlotNo) :
    (s.slotsWithout n m)[j] = none ∨ (s.slotsWithout n m)[j] = s.slots[j] := by
  rw [slotsWithout_getElem]
  split
  · exact .inl rfl
  · exact .inr rfl

theorem forcedTo_txIdle (hs : s.TxIdle) : (s.forcedTo p g m).TxIdle := by
  refine txIdle_regate (forcedNotice_txIdle hs _) fun j => ?_
  rw [forcedNotice_slots hs]
  exact slotsWithout_free_or_same _ j

/-- Counts after one item more without verdict. -/
theorem countsForced_succ (hit : p.items[m]? = some it) (hr : it.ruling = none) :
    (s.forcedTo p g m).countsRuled (p.forcedTo g m) (g.forcedTo p m) it.fallback = s.countsForced p g (m + 1) := by
  have hcounts : (s.forcedTo p g m).counts = s.countsForced p g m := rfl
  unfold State.countsRuled State.countsForced at *
  rw [hcounts, alarmed_succ hit hr]
  by_cases hf : it.fallback = .alarm <;> cases halarmed : p.alarmed m <;> cases hm : g.mark <;>
    simp [hf, hm, halarmed, Judging.forcedTo, Passage.forcedTo]

/-- Alarms after one item more without verdict. -/
theorem alarmsForced_succ (hit : p.items[m]? = some it) (hr : it.ruling = none) :
    (s.forcedTo p g m).alarmsRuled (p.forcedTo g m) it.fallback = s.alarmsForced p (m + 1) := by
  have hframe := forcedNotice_frame (s := s) (p := p) (g := g) (p.alarmed m)
  have htime : (s.forcedTo p g m).gateTime = s.gateTime := hframe.gateTime
  have hparams : (s.forcedTo p g m).params = s.params := hframe.params
  have halarms : (s.forcedTo p g m).alarms = s.alarmsForced p m := rfl
  unfold State.alarmsRuled State.alarmsForced at *
  rw [halarms, htime, hparams, alarmed_succ hit hr]
  by_cases hf : it.fallback = .alarm <;> cases halarmed : p.alarmed m <;> cases hc : p.flags.countOnly <;>
    simp [hf, hc, Passage.forcedTo]

/-- The notice after one item more without verdict: the first alarm's, and no other. -/
theorem forcedNotice_succ (hs : s.TxIdle) (hit : p.items[m]? = some it) (hr : it.ruling = none) :
    (s.forcedTo p g m).noticed (p.forcedTo g m) (g.forcedTo p m) it it.fallback .forced =
      (s.forcedNotice p g (p.alarmed (m + 1))).regate (s.waiting.filter fun r => r.passage != p.number)
        (s.slotsWithout p.number m) (replaceRecord s.passages (p.forcedTo g m)) (s.countsForced p g m)
        (s.alarmsForced p m) := by
  have hidle := forcedTo_txIdle (p := p) (g := g) (m := m) hs
  have hsucc := alarmed_succ hit hr
  unfold State.noticed
  split
  next h =>
    obtain ⟨hf, hmark, hcount⟩ := h
    obtain ⟨hg, hnone⟩ : g.mark = false ∧ p.alarmed m = [] := by simpa [Judging.forcedTo] using hmark
    have hcount : p.flags.countOnly = false := hcount
    have hfirst : s.forcedNotice p g (p.alarmed (m + 1)) =
        s.queueNotice (alarmNoticeBody p.lane p.number .forced (some it.item)) := by
      rw [hsucc, hnone, if_pos hf]
      exact if_neg (by simp [hg, hcount])
    have hbase : s.forcedNotice p g (p.alarmed m) = s := by
      rw [hnone]
      rfl
    unfold State.forcedTo at hidle ⊢
    rw [hbase] at hidle ⊢
    rw [hfirst]
    exact queueNotice_regate hs hidle _
  next h =>
    refine congrArg (State.regate · _ _ _ _ _) ?_
    rw [hsucc]
    by_cases hf : it.fallback = .alarm
    · rw [if_pos hf]
      cases halarmed : p.alarmed m with
      | cons x l => rfl
      | nil =>
        refine (if_pos ?_).symm
        have hor : g.mark = false → p.flags.countOnly = true := by
          simpa [hf, Judging.forcedTo, halarmed, Passage.forcedTo] using h
        cases hm : g.mark with
        | true => rfl
        | false => exact hor hm
    · rw [if_neg hf, List.append_nil]

section Law
variable (hs : s.TxIdle) (hn : s.numbers.Nodup) (hp : s.passage? p.number = some p)
  (hplaces : ∀ (i : Nat) (it : Item), p.items[i]? = some it → ∀ j : SlotNo,
    (∃ q, s.slots[j] = some q ∧ q.ref = ⟨p.number, i⟩) ↔ it.ruling = none ∧ it.slot = some j)

include hplaces in
/-- With its item forced, a slot that asks about it is made FREE, and no other. -/
theorem slotsWithout_succ (hit : p.items[m]? = some it) (j : SlotNo) :
    (s.slotsWithout p.number (m + 1))[j] =
      if it.ruling = none ∧ it.slot = some j then none else (s.slotsWithout p.number m)[j] := by
  rw [slotsWithout_getElem, slotsWithout_getElem]
  split
  next h =>
    obtain ⟨q, hq, hasks⟩ := Option.any_eq_true _ _ |>.mp h
    obtain ⟨hpassage, hposition⟩ : q.ref.passage = p.number ∧ q.ref.position < m + 1 := by simpa using hasks
    by_cases hlt : q.ref.position < m
    · have hearlier : s.slots[j].any (fun q => q.ref.passage == p.number && q.ref.position < m) = true := by
        rw [hq]
        simp [hpassage, hlt]
      rw [if_pos hearlier, ite_self]
    · have href : q.ref = ⟨p.number, m⟩ := by
        have hpos : q.ref.position = m := by omega
        rw [← hpassage, ← hpos]
      rw [if_pos ((hplaces m it hit j).mp ⟨q, hq, href⟩)]
  next h =>
    have hnot : ¬(it.ruling = none ∧ it.slot = some j) := fun hasked => by
      obtain ⟨q, hq, href⟩ := (hplaces m it hit j).mpr hasked
      exact h (by rw [hq]; simp [href])
    have hless : ¬s.slots[j].any (fun q => q.ref.passage == p.number && q.ref.position < m) = true := fun hless => h (by
      cases ho : s.slots[j] with
      | none => rw [ho] at hless; cases hless
      | some q =>
        rw [ho] at hless
        obtain ⟨hpassage, hlt⟩ : q.ref.passage = p.number ∧ q.ref.position < m := by simpa using hless
        simp [hpassage, hlt.le])
    rw [if_neg hnot, if_neg hless]

theorem vector_ext_slots {α : Type} {v w : Vector α 4} (h : ∀ j : SlotNo, v[j] = w[j]) : v = w :=
  Vector.ext fun i hi => h ⟨i, hi⟩

include hs hn hp hplaces in
/-- One item more is forced. -/
theorem forceItem_forcedTo (hit : p.items[m]? = some it) :
    (s.forcedTo p g m).forceItem ⟨p.number, m⟩ = s.forcedTo p g (m + 1) := by
  have hfound : (s.forcedTo p g m).passage? (p.forcedTo g m).number = some (p.forcedTo g m) :=
    passage?_replaceRecord (s := s) hp rfl
  have hslots := slotsWithout_succ hplaces hit
  by_cases hr : it.ruling = none
  · have hnodup : (s.forcedTo p g m).numbers.Nodup :=
      (congrArg List.Nodup (map_number_replaceRecord s.passages (p.forcedTo g m))).mpr hn
    have hasked (j : SlotNo) (hj : it.slot = some j) :
        ∃ q, (s.forcedTo p g m).slots[j] = some q ∧ q.ref = ⟨(p.forcedTo g m).number, m⟩ := by
      obtain ⟨q, hq, href⟩ := (hplaces m it hit j).mpr ⟨hr, hj⟩
      refine ⟨q, ?_, href⟩
      change (s.slotsWithout p.number m)[j] = _
      rw [slotsWithout_getElem, if_neg (by rw [hq]; simp [href]), hq]
    have htable : replaceRecord (replaceRecord s.passages (p.forcedTo g m)) (p.forcedTo g (m + 1)) =
        replaceRecord s.passages (p.forcedTo g (m + 1)) := replaceRecord_replaceRecord _ rfl
    have hcleared : (match it.slot with
        | some j => (s.slotsWithout p.number m).set j none
        | none => s.slotsWithout p.number m) = s.slotsWithout p.number (m + 1) := by
      refine vector_ext_slots fun j => ?_
      rw [hslots]
      cases ho : it.slot with
      | none => simp
      | some i =>
        rw [getElem_set_slots]
        simp [hr]
    have hforce := forceItem_of_unruled (s := s.forcedTo p g m) (p := p.forcedTo g m) (g := g.forcedTo p m) hnodup
      (forcedTo_txIdle hs) hfound rfl (items_forcedTo hit) hr hasked
    refine hforce.trans ?_
    rw [forcedNotice_succ hs hit hr, ← forcedTo_succ hit hr, countsForced_succ hit hr, alarmsForced_succ hit hr]
    have hpassages : (s.forcedTo p g m).passages = replaceRecord s.passages (p.forcedTo g m) := rfl
    rw [hpassages, htable]
    unfold State.forcedTo
    rw [← hcleared]
    cases it.slot <;> rfl
  · have hkept : s.slotsWithout p.number (m + 1) = s.slotsWithout p.number m :=
      vector_ext_slots fun j => (hslots j).trans (if_neg fun h => hr h.1)
    have hforce := forceItem_of_ruled (s := s.forcedTo p g m) (p := p.forcedTo g m) hfound (items_forcedTo hit) hr
    refine hforce.trans ?_
    unfold State.forcedTo State.countsForced State.alarmsForced
    rw [forcedTo_succ_of_ruled hit hr, alarmed_succ_of_ruled hit hr, hkept]

end Law

end Step

end Sys2Proof.Machine
end


section
/-! SUPPORT. A record in JUDGING completed by force (01, R23; 07, R132, R134). -/

namespace Sys2Proof.Machine

/-! ### A record apart from the questions that wait -/

/-- A state without the record of a number, its device counters changed. -/
def State.without (s : State) (n : Nat) (f : DeviceCounters → DeviceCounters) : State :=
  { s with passages := s.passages.filter (fun q => q.number != n), device := f s.device }

section Without
variable {s : State} {n : Nat} {f : DeviceCounters → DeviceCounters}

theorem arbitrateTx_device (s : State) : s.arbitrateTx.device = s.device := by
  have h : s.arbitrateTx = s.arbitrateTx.withTable s.passages s.device := arbitrateTx_withTable s s.passages s.device
  rw [h]
  rfl

theorem arbitrateTx_passages (s : State) : s.arbitrateTx.passages = s.passages := by
  have h : s.arbitrateTx = s.arbitrateTx.withTable s.passages s.device := arbitrateTx_withTable s s.passages s.device
  rw [h]
  rfl

theorem arbitrateTx_without (s : State) (n : Nat) (f : DeviceCounters → DeviceCounters) :
    (s.without n f).arbitrateTx = s.arbitrateTx.without n f := by
  refine (arbitrateTx_withTable s (s.passages.filter fun q => q.number != n) (f s.device)).trans ?_
  unfold State.without
  rw [arbitrateTx_device, arbitrateTx_passages]
  rfl

theorem passage?_without {m : Nat} (h : m ≠ n) : (s.without n f).passage? m = s.passage? m :=
  passage?_freePassage_of_ne s h

theorem item?_without {r : ItemRef} (h : r.passage ≠ n) : (s.without n f).item? r = s.item? r :=
  item?_congr (passage?_without h)

theorem modItem_without (r : ItemRef) (g : Item → Item) : (s.without n f).modItem r g = (s.modItem r g).without n f := by
  have htable : (s.passages.filter fun q => q.number != n).map (fun q =>
      if q.number == r.passage then q.modItem r.position g else q) =
      (s.passages.map fun q => if q.number == r.passage then q.modItem r.position g else q).filter
        fun q => q.number != n := by
    rw [List.filter_map]
    refine congrArg _ (List.filter_congr fun q _ => ?_)
    dsimp only [Function.comp_apply]
    split <;> rfl
  exact congrArg (fun l => ({ s with passages := l, device := f s.device } : State)) htable

/-- An item of another passage takes a slot as if the record were there. -/
theorem takeSlot_without {r : ItemRef} (h : r.passage ≠ n) (j : SlotNo) :
    (s.without n f).takeSlot r j = (s.takeSlot r j).without n f := by
  cases hit : s.item? r with
  | none => rw [takeSlot_of_no_item hit, takeSlot_of_no_item ((item?_without h).trans hit)]
  | some it =>
    obtain ⟨p, hp, -⟩ := passage?_of_item? hit
    rw [takeSlot_of_item hp hit, takeSlot_of_item ((passage?_without h).trans hp) ((item?_without h).trans hit),
      ← arbitrateTx_without]
    exact congrArg State.arbitrateTx (modItem_without (s := { s.setSlot j _ with nextOrder := s.nextOrder + 1 }) r _)

theorem takeSlot_waiting (s : State) (r : ItemRef) (j : SlotNo) : (s.takeSlot r j).waiting = s.waiting := by
  cases hit : s.item? r with
  | none => rw [takeSlot_of_no_item hit]
  | some it =>
    obtain ⟨-, hwaiting, -⟩ := takeSlot_spec hit j
    exact hwaiting

/-- And leaves the record as it is. -/
theorem passage?_takeSlot {r : ItemRef} (h : n ≠ r.passage) (j : SlotNo) : (s.takeSlot r j).passage? n = s.passage? n := by
  cases hit : s.item? r with
  | none => rw [takeSlot_of_no_item hit]
  | some it =>
    obtain ⟨p, hp, -⟩ := passage?_of_item? hit
    rw [takeSlot_of_item hp hit]
    have hput : (s.putQuestion j (s.questionFor r j p it)).passage? n = s.passage? n :=
      passage?_modPassage_of_ne ({ s.setSlot j (some (s.questionFor r j p it)) with nextOrder := s.nextOrder + 1 } : State)
        h fun q => q.modItem_number _ _
    rw [← hput, State.passage?, arbitrateTx_passages]
    rfl

/-- Slots are handed on to other passages as if the record were there, and leave it as it is (R132). -/
theorem handOn_without (fuel : Nat) (hs : ∀ r ∈ s.waiting, r.passage ≠ n) :
    State.handOn fuel (s.without n f) = (State.handOn fuel s).without n f ∧
      (State.handOn fuel s).passage? n = s.passage? n := by
  induction fuel generalizing s with
  | zero => exact ⟨rfl, rfl⟩
  | succ fuel ih =>
    rcases handOn_cases s with hdone | ⟨r, rest, j, hw, hj, hl⟩
    · rw [handOn_of_done _ hdone, handOn_of_done _ (s := s.without n f) hdone]
      exact ⟨rfl, rfl⟩
    · have hr : r.passage ≠ n := hs r (hw ▸ List.mem_cons_self ..)
      have hrest : ∀ x ∈ (({ s with waiting := rest } : State).takeSlot r j).waiting, x.passage ≠ n := fun x hx => by
        rw [takeSlot_waiting] at hx
        exact hs x (hw ▸ List.mem_cons_of_mem _ hx)
      have hnext : ({ s.without n f with waiting := rest } : State).takeSlot r j =
          (({ s with waiting := rest } : State).takeSlot r j).without n f :=
        takeSlot_without (s := { s with waiting := rest }) hr j
      obtain ⟨hhanded, hrecord⟩ := ih hrest
      rw [handOn_of_head fuel hw hj hl, handOn_of_head fuel (s := s.without n f) hw hj hl, hnext, hhanded]
      exact ⟨rfl, hrecord.trans (passage?_takeSlot hr.symm j)⟩

end Without

/-! ### All items forced (R134) -/

section Forced
variable {s : State} {p : Passage} {g : Judging} (hquery : s.queryLaw) (hs : s.TxIdle) (hn : s.numbers.Nodup)
  (hp : s.passage? p.number = some p) (hphase : p.phase = .judging) (hg : p.judging = some g)

include hquery hp hphase in
/-- A slot asks about an item of the passage exactly when that item awaits its verdict there (R115, R124). -/
theorem slot_iff_of_queryLaw (i : Nat) (it : Item) (hit : p.items[i]? = some it) (j : SlotNo) :
    (∃ q, s.slots[j] = some q ∧ q.ref = ⟨p.number, i⟩) ↔ it.ruling = none ∧ it.slot = some j := by
  obtain ⟨hslots, -, -, hplaced, -, -⟩ := hquery
  constructor
  · rintro ⟨q, hq, href⟩
    obtain ⟨⟨-, hawaits⟩, -⟩ := hslots j q hq
    rw [href, (item?_of_passage (r := ⟨p.number, i⟩) hp).trans hit, Option.map_some] at hawaits
    have hpair := Option.some.inj hawaits
    exact ⟨congrArg Prod.fst hpair, congrArg Prod.snd hpair⟩
  · rintro ⟨hr, hslot⟩
    obtain ⟨hlt, rfl⟩ := List.getElem?_eq_some_iff.mp hit
    have hholds := hplaced p (passage?_mem hp).1 hphase ⟨i, hlt⟩ hr
    have hslot : p.items[(⟨i, hlt⟩ : Fin p.items.length)].slot = some j := hslot
    rw [hslot] at hholds
    obtain ⟨q, hq, href⟩ := Option.map_eq_some_iff.mp (beq_iff_eq.mp hholds)
    exact ⟨q, hq, href⟩

include hn hp hg in
theorem forcedTo_zero : s.forcedTo p g 0 = { s with waiting := s.waiting.filter fun r => r.passage != p.number } := by
  have hrecord : p.forcedTo g 0 = p := by
    unfold Passage.forcedTo Judging.forcedTo Passage.alarmed
    simp [← hg]
  have htable : replaceRecord s.passages p = s.passages := by
    refine (List.map_congr_left fun x hx => ?_).trans (List.map_id _)
    split
    next h => exact (List.inj_on_of_nodup_map hn hx (passage?_mem hp).1 h).symm
    next => rfl
  have hslots : s.slotsWithout p.number 0 = s.slots := vector_ext_slots fun j => by
    rw [slotsWithout_getElem, if_neg (by simp)]
  have hcounts : s.countsForced p g 0 = s.counts := by simp [State.countsForced, Passage.alarmed]
  have halarms : s.alarmsForced p 0 = s.alarms := by simp [State.alarmsForced, Passage.alarmed]
  unfold State.forcedTo
  rw [hrecord, htable, hslots, hcounts, halarms]
  rfl

include hquery hs hn hp hphase hg

/-- Every item of the passage forced. -/
theorem forceItems_forcedTo {m : Nat} (hm : m ≤ p.items.length) :
    forceItems p.number (List.range m) { s with waiting := s.waiting.filter fun r => r.passage != p.number } =
      s.forcedTo p g m := by
  induction m with
  | zero => exact (forcedTo_zero hn hp hg).symm
  | succ m ih =>
    have hit := List.getElem?_eq_getElem (Nat.lt_of_succ_le hm)
    have hearlier := ih (Nat.le_of_succ_le hm)
    rw [forceItems_eq_foldl] at hearlier ⊢
    rw [List.range_succ, List.foldl_concat, hearlier]
    exact forceItem_forcedTo hs hn hp (slot_iff_of_queryLaw hquery hp hphase) hit

/-- The record in JUDGING completed by force: what is left when its items are forced, without it, its slots handed on, its
report queued (R23, R134). -/
theorem forceCompletion_of_judging : s.forceCompletion p =
    (((s.forcedTo p g p.items.length).without p.number
      fun d => { d with forcedCompletions := bump d.forcedCompletions }).handSlotsOn).queueReport
        (reportBody { p with flags := { p.flags with forced := true }, items := p.items.map Item.forced }) := by
  have hforced := forceItems_forcedTo hquery hs hn hp hphase hg le_rfl
  have hwithdrawn : s.withdrawQuestions p.number = (s.forcedTo p g p.items.length).handSlotsOn := by
    unfold State.withdrawQuestions
    rw [hp]
    exact congrArg State.handSlotsOn hforced
  have hwaits : ∀ r ∈ (s.forcedTo p g p.items.length).waiting, r.passage ≠ p.number := fun r hr =>
    bne_iff_ne.mp (List.mem_filter.mp (show r ∈ s.waiting.filter fun r => r.passage != p.number from hr)).2
  have hrecord : (s.forcedTo p g p.items.length).passage? p.number = some (p.forcedTo g p.items.length) :=
    passage?_replaceRecord (s := s) (p := p.forcedTo g p.items.length) hp rfl
  obtain ⟨hhanded, hkept⟩ := handOn_without 4 (f := fun d => { d with forcedCompletions := bump d.forcedCompletions }) hwaits
  unfold State.forceCompletion
  rw [if_neg (by rw [hphase]; exact nofun)]
  dsimp only
  rw [hwithdrawn]
  unfold State.handSlotsOn
  rw [hhanded]
  rw [hrecord] at hkept
  generalize State.handOn 4 (s.forcedTo p g p.items.length) = t at hkept
  have hflagged : ((t.modPassage p.number fun q => { q with flags := { q.flags with forced := true } }).modDevice
      fun d => { d with forcedCompletions := bump d.forcedCompletions }).passage? p.number =
      some { p.forcedTo g p.items.length with flags := { p.flags with forced := true } } :=
    passage?_modPassage_same hkept fun _ => rfl
  rw [hflagged]
  have hitems : (p.items.take p.items.length).map Item.forced ++ p.items.drop p.items.length = p.items.map Item.forced := by
    rw [List.take_length, List.drop_length, List.append_nil]
  have hbody : reportBody { p.forcedTo g p.items.length with flags := { p.flags with forced := true } } =
      reportBody { p with flags := { p.flags with forced := true }, items := p.items.map Item.forced } := by
    rw [← hitems]
    rfl
  dsimp only
  rw [hbody]
  generalize reportBody _ = b
  have hfilter : (t.passages.map fun q =>
      if q.number == p.number then { q with flags := { q.flags with forced := true } } else q).filter
        (fun q => q.number != p.number) = t.passages.filter fun q => q.number != p.number := by
    induction t.passages with
    | nil => rfl
    | cons x l ih =>
      rw [List.map_cons, List.filter_cons, List.filter_cons, ih]
      by_cases hx : x.number = p.number <;> simp [hx]
  generalize hu : (t.modPassage p.number fun q => { q with flags := { q.flags with forced := true } }).modDevice
    (fun d => { d with forcedCompletions := bump d.forcedCompletions }) = u
  have hapart : t.without p.number (fun d => { d with forcedCompletions := bump d.forcedCompletions }) =
      u.withLanes (t.passages.filter fun q => q.number != p.number) u.counts u.alarms := by
    rw [← hu]
    rfl
  have hframe := queueReport_frame u b
  have hpassages : (u.queueReport b).passages.filter (fun q => q.number != p.number) =
      t.passages.filter fun q => q.number != p.number := by
    rw [hframe.passages, ← hfilter, ← hu]
    rfl
  rw [hapart, queueReport_withLanes]
  unfold State.freePassage State.withLanes
  rw [hpassages, ← hframe.counts, ← hframe.alarms]

end Forced

end Sys2Proof.Machine
end


section
/-! SUPPORT. Openings in a full table, and forced completion settled (01, R9, R16, R19, R20, R23). -/

namespace Sys2Proof.Machine

/-! ### A passage opened once room has been made -/

/-- The mark of a live record is that of its lane's condition (R20). -/
theorem Passage.mark_of_live {p : Passage} (h : p.live = true) (c : LaneCondition) : p.mark c =
    { p with flags := { p.flags with oneAntenna := p.flags.oneAntenna || c == .oneAntenna,
                                     blind := p.flags.blind || c == .blind } } := by
  have hnormal : p.flags = { p.flags with oneAntenna := p.flags.oneAntenna || false, blind := p.flags.blind || false } := by
    simp
  unfold Passage.mark
  rw [if_pos h]
  cases c with
  | normal => exact congrArg (fun fl => ({ p with flags := fl } : Passage)) hnormal
  | oneAntenna | blind => simp

/-- A passage opened: room made, the first free number, the lane's mark (R19, R20, R23). -/
theorem openPassage_eq (s : State) (k : Lane) (first : Option Beam) (persons : Nat) (opened : Time)
    (presence : Option Time) : s.openPassage k first persons opened presence =
      let room := s.makeRoom
      let number := freeNumber (room.passages.map Passage.number) (room.passages.length + 1) room.nextPassage
      { room with
        passages := room.passages ++
          [{ number := number, lane := k, phase := .open_, firstBeam := first, direction := none, persons := persons,
             opened := opened, closed := none,
             flags := { synthetic := first.isNone, oneAntenna := s.laneCondition k == .oneAntenna,
                        blind := s.laneCondition k == .blind },
             items := [], settle := none, presence := presence, judging := none }],
        nextPassage := if 65535 ≤ number then 1 else number + 1 } := by
  have hcondition := laneCondition_congr (makeRoom_frame s).antennas k
  unfold State.openPassage
  dsimp only
  rw [Passage.mark_of_live rfl, hcondition]
  rfl

/-! ### Age expiries through a forced completion -/

/-- The age expiry of the entry of an item number. -/
def State.ageExpiry? (s : State) (i : ItemNo) : Option Time := (s.sighting? i).map Sighting.ageExpiry

theorem ageExpiry?_of_sightings {s t : State} (h : t.sightings = s.sightings) (i : ItemNo) :
    t.ageExpiry? i = s.ageExpiry? i := by
  unfold State.ageExpiry? State.sighting?
  rw [h]

theorem ageExpiry?_claim (s : State) (j : ItemNo) (n : Nat) (d : Direction) (i : ItemNo) :
    (s.claim j n d).ageExpiry? i = s.ageExpiry? i := by
  unfold State.claim
  split
  · unfold State.ageExpiry? State.sighting?
    rw [List.find?_map, Option.map_map]
    have hitem : ((fun e : Sighting => e.item == i) ∘ fun e => if e.item == j then { e with state := .claimed n d } else e) =
        fun e => e.item == i := funext fun e => by
      dsimp only [Function.comp_apply]
      split <;> rfl
    have hage : (Sighting.ageExpiry ∘ fun e => if e.item == j then { e with state := .claimed n d } else e) =
        Sighting.ageExpiry := funext fun e => by
      dsimp only [Function.comp_apply]
      split <;> rfl
    rw [hitem, hage]
  · rfl

theorem ageExpiry?_claimAll (n : Nat) (d : Direction) (l : List Winner) (s : State) (items : List Item) (i : ItemNo) :
    (claimAll n d l s items).1.ageExpiry? i = s.ageExpiry? i := by
  induction l generalizing s items with
  | nil => rfl
  | cons w l ih =>
    unfold claimAll
    split
    · rw [ih, ageExpiry?_claim]
    · exact ih s items

theorem ageExpiry?_attribute (s : State) (n : Nat) (i : ItemNo) : (s.attribute n).ageExpiry? i = s.ageExpiry? i := by
  unfold State.attribute
  split
  · rfl
  · exact ageExpiry?_claimAll ..

theorem CheckFrame.ageExpiry? {s t : State} (h : CheckFrame s t) (i : ItemNo) : t.ageExpiry? i = s.ageExpiry? i :=
  ageExpiry?_of_sightings (by rw [h]) i

/-- Claims of a forced completion change states of sightings, and no age expiry. -/
theorem ageExpiry?_forceCompletion (s : State) (p : Passage) (i : ItemNo) :
    (s.forceCompletion p).ageExpiry? i = s.ageExpiry? i := by
  have hsettled : (if p.phase = .settling then (s.attribute p.number).judge p.number else s).ageExpiry? i =
      s.ageExpiry? i := by
    split
    · rw [(judge_frame _ _).ageExpiry?, ageExpiry?_attribute]
    · rfl
  unfold State.forceCompletion
  dsimp only
  generalize (if p.phase = .settling then (s.attribute p.number).judge p.number else s) = u at hsettled
  have hwithdrawn := (withdrawQuestions_frame u p.number).ageExpiry? i
  rw [← hsettled, ← hwithdrawn]
  generalize u.withdrawQuestions p.number = v
  split
  next q _ =>
    exact ageExpiry?_of_sightings (congrArg State.sightings (queueReport_frame
      ((v.modPassage p.number _).modDevice fun d => { d with forcedCompletions := bump d.forcedCompletions })
      (reportBody q))) i
  next => rfl

theorem ageExpiry?_makeRoom (s : State) (i : ItemNo) : s.makeRoom.ageExpiry? i = s.ageExpiry? i := by
  unfold State.makeRoom
  split
  · rfl
  · split
    · exact ageExpiry?_forceCompletion ..
    · rfl

/-- An entry whose age expiry has not come stays. -/
theorem expireAge_of_later {s : State} {i : ItemNo} {e : Time} (h : s.ageExpiry? i = some e) (hdue : due s.gateTime e = false) :
    s.expireAge i = s := by
  obtain ⟨x, hx, rfl⟩ := Option.map_eq_some_iff.mp h
  unfold State.expireAge
  rw [hx]
  exact if_neg (by rw [hdue]; exact Bool.false_ne_true)

/-- A read merged sets its entry's age expiry (R75). -/
theorem ageExpiry?_mergeRead (s : State) (r : Read) :
    (s.mergeRead r).ageExpiry? r.item = some (r.time + BitVec.ofNat 32 s.params.sightAge) := by
  unfold State.ageExpiry?
  rw [sighting?_mergeRead]
  refine congrArg some ?_
  unfold State.mergedEntry
  split
  next e _ =>
    obtain ⟨st, t, hmerge⟩ := finishMerge_frame (e.update r (s.strength r)) s.params r (s.strength r)
    rw [hmerge]
    rfl
  next =>
    obtain ⟨st, t, hmerge⟩ := finishMerge_frame (newSighting r (s.strength r)) s.params r (s.strength r)
    rw [hmerge]
    rfl

end Sys2Proof.Machine
end


section
/-! SUPPORT. Forced completion and the opening that follows (01, R23; 07, R134). -/

namespace Sys2Proof.Machine

/-! ### A record completed by force -/

section Forced
variable {s : State} {p : Passage} {g : Judging}

theorem forcedNotice_forcedCompletions (hs : s.TxIdle) (l : List Item) :
    (s.forcedNotice p g l).device.forcedCompletions = s.device.forcedCompletions := by
  have hqueued (b : Body) : (s.queueNotice b).device.forcedCompletions = s.device.forcedCompletions := by
    cases h : s.sending with
    | none => rw [queueNotice_of_free hs h]
    | some f =>
      rw [queueNotice_of_busy h]
      split <;> rfl
  unfold State.forcedNotice
  split
  · split
    · rfl
    · exact hqueued _
  · rfl

/-- All slots that ask about the passage, once every item of it is forced. -/
theorem slotsWithout_all (hquery : s.queryLaw) (hp : s.passage? p.number = some p) :
    s.slotsWithout p.number p.items.length =
      s.slots.map fun o => if o.map (fun q => q.ref.passage) = some p.number then none else o := by
  obtain ⟨hslots, -⟩ := hquery
  refine vector_ext_slots fun j => ?_
  have hmap : (s.slots.map fun o => if o.map (fun q => q.ref.passage) = some p.number then none else o)[j] =
      if s.slots[j].map (fun q => q.ref.passage) = some p.number then none else s.slots[j] := by
    rw [Fin.getElem_fin, Vector.getElem_map]
    rfl
  rw [slotsWithout_getElem, hmap]
  refine if_congr ?_ rfl rfl
  cases hq : s.slots[j] with
  | none => simp
  | some q =>
    suffices hbound : q.ref.passage = p.number → q.ref.position < p.items.length by simpa using hbound
    intro href
    obtain ⟨⟨-, hawaits⟩, -⟩ := hslots j q hq
    obtain ⟨it, hit, -⟩ := Option.map_eq_some_iff.mp hawaits
    rw [item?_of_passage (href ▸ hp)] at hit
    exact (List.getElem?_eq_some_iff.mp hit).1

end Forced

/-! ### The opening that follows -/

theorem beside_iff (a : Antenna) (j : Lane) :
    (a = nearAntenna j ∨ a = farAntenna j) ↔ j.val = a.val ∨ j.val + 1 = a.val := by
  simp [nearAntenna, farAntenna, Fin.ext_iff, eq_comm]

/-- A lane in FAULT alone beside its antenna takes a strong read by itself (R16). -/
theorem lanesBeside_filter_eq {p : Lane → Bool} {a : Antenna} {k : Lane} (hk : p k = true)
    (hbeside : a = nearAntenna k ∨ a = farAntenna k)
    (hother : ∀ j, j ≠ k → a = nearAntenna j ∨ a = farAntenna j → p j = false) :
    (lanesBeside a).filter p = [k] := by
  have hmem (j : Lane) : j ∈ (lanesBeside a).filter p ↔ j = k := by
    rw [List.mem_filter, mem_lanesBeside]
    constructor
    · rintro ⟨hj, hpj⟩
      by_contra hne
      rw [hother j hne ((beside_iff a j).mpr hj)] at hpj
      cases hpj
    · rintro rfl
      exact ⟨(beside_iff a j).mp hbeside, hk⟩
  have hnodup : ((lanesBeside a).filter p).Nodup := (allLanes_nodup.filter _).filter _
  exact List.perm_singleton.mp ((List.perm_ext_iff_of_nodup hnodup (List.nodup_singleton k)).mpr fun j =>
    (hmem j).trans List.mem_singleton.symm)

/-- Settles O18: room, choice, the record that settles, the record in JUDGING, and the openings by a BREAK and by a read. -/
theorem forcedCompletionFreesOldest : Obligations.ForcedCompletionFreesOldest := by
  refine ⟨fun s h => makeRoom_of_room h,
    fun s p l₁ l₂ hfull hl hp h₁ h₂ => makeRoom_of_choice hfull (forcedChoice_of_oldest hl hp h₁ h₂),
    fun s p hp hphase => forceCompletion_of_settling hp hphase,
    fun s p g hquery hlink hn hp hphase hg => ?judging,
    fun s k x f hf hdue hraw hserved htracker hfull => ?opened,
    fun s r rest k hintake hstate hstrength htracker hbeside hother hage hopen hfull => ?read⟩
  case judging =>
    have hs := txIdle_of_linkLaw hlink
    have hcompleted := forceCompletion_of_judging hquery hs hn hp hphase hg
    intro fallback
    have hfallback (it : Item) : fallback it = it.fallback := fallback_eq it
    have halarmed : (p.items.filter fun it => it.ruling == none && fallback it == .alarm) = p.alarmed p.items.length := by
      unfold Passage.alarmed
      rw [List.take_length]
      exact List.filter_congr fun it _ => by rw [hfallback]
    have hitems : (p.items.map fun it =>
        if it.ruling = none then { it with slot := none, ruling := some ⟨fallback it, .forced⟩ } else it) =
        p.items.map Item.forced := List.map_congr_left fun it _ => by
      rw [hfallback]
      rfl
    have hdevice := forcedNotice_forcedCompletions (s := s) (p := p) (g := g) hs (p.alarmed p.items.length)
    have hpassages : (replaceRecord s.passages (p.forcedTo g p.items.length)).filter (fun q => q.number != p.number) =
        s.passages.filter fun q => q.number != p.number := filter_replaceRecord s.passages (p.forcedTo g p.items.length)
    rw [halarmed, hitems, hcompleted]
    refine congrArg (fun t : State => t.handSlotsOn.queueReport _) ?_
    unfold State.without State.forcedTo State.regate
    dsimp only
    rw [hpassages, slotsWithout_all hquery hp, hdevice]
    rfl
  case opened =>
    refine congrArg Host.Outcome.next ((beamFilterExpiry_of_break hf hdue hraw hserved).trans ?_)
    have ht : (s.modBeam k x fun b => b.broken f.start s.params.beamStuck).trackers[k] = some .clear := htracker
    unfold State.trackBreak
    rw [ht]
    dsimp only
    rw [openPassage_eq]
    rfl
  case read =>
    have hremoved := readRemoved_frame { s with intake := rest }
    have hmerge := mergeRead_frame ({ s with intake := rest } : State).readRemoved r
    have hentry : (({ s with intake := rest } : State).readRemoved.mergedEntry r).state = .active :=
      (congrArg Sighting.state (mergedEntry_congr hremoved.sightings hremoved.params r)).trans hstate
    have hread : ({ s with intake := rest } : State).readRemoved.strength r = s.strength r := by
      unfold State.strength
      rw [hremoved.params]
    have hexpiry := ageExpiry?_mergeRead ({ s with intake := rest } : State).readRemoved r
    rw [hremoved.params] at hexpiry
    have hrun : readMerge s = (((({ s with intake := rest } : State).readRemoved.mergeRead r).readReported r
        (s.strength r) .active).expireAge r.item).endEvent s := by
      unfold readMerge
      rw [hintake]
      dsimp only
      rw [hentry, hread]
    have htrackers : (({ s with intake := rest } : State).readRemoved.mergeRead r).trackers = s.trackers :=
      hmerge.trackers.trans hremoved.trackers
    have hpassages : (({ s with intake := rest } : State).readRemoved.mergeRead r).passages = s.passages :=
      (mergeRead_passages _ r).trans hremoved.passages
    have htime : (({ s with intake := rest } : State).readRemoved.mergeRead r).gateTime = s.gateTime :=
      hmerge.gateTime.trans hremoved.gateTime
    have hcondition : (({ s with intake := rest } : State).readRemoved.mergeRead r).laneCondition k = s.laneCondition k :=
      (laneCondition_congr hmerge.antennas k).trans (readRemoved_conditions { s with intake := rest } k)
    refine congrArg Host.Outcome.next (hrun.trans (congrArg (State.endEvent · s) ?_))
    generalize ({ s with intake := rest } : State).readRemoved.mergeRead r = u at *
    have hlane : (lanesBeside r.antenna).filter (fun j => u.trackers[j] == some .fault) = [k] := by
      refine lanesBeside_filter_eq (by rw [htrackers, htracker]; rfl) hbeside fun j hne hj => ?_
      rw [htrackers]
      exact beq_false_of_ne (hother j hne hj)
    have hfree : u.openPassage? k = none := by
      rw [← hopen, State.openPassage?, hpassages]
      rfl
    have hreported : u.readReported r (s.strength r) .active = u.openPassage k none 0 r.time (some (s.gateTime + 1000)) := by
      rw [readReported_eq, if_pos ⟨hstrength, rfl⟩, hlane, List.foldl_cons, List.foldl_nil]
      unfold State.qualifyingRead
      rw [hfree, htime]
      rfl
    have hopened := openPassage_eq u k none 0 r.time (some (s.gateTime + 1000))
    rw [hcondition] at hopened
    have hkept : (u.openPassage k none 0 r.time (some (s.gateTime + 1000))).ageExpiry? r.item =
        some (r.time + BitVec.ofNat 32 s.params.sightAge) := by
      rw [← hexpiry, ← ageExpiry?_makeRoom u, hopened]
      exact ageExpiry?_of_sightings rfl _
    have hnow := (openPassage_frame u k none 0 r.time (some (s.gateTime + 1000))).gateTime
    rw [hreported, expireAge_of_later hkept (by rw [hnow, htime]; exact hage), hopened]
    rfl

end Sys2Proof.Machine
end
